-- ==== Sys2Proof/Word.lean ====
section
/-! DEFINITION. The words of the DG6: bytes, and the 16-bit and 32-bit figures of its frames, messages and accounts. -/

namespace Sys2Proof

abbrev Byte := BitVec 8
abbrev Word16 := BitVec 16
abbrev Word32 := BitVec 32

end Sys2Proof
end

