-- ==== Sys2Proof/Syntax.lean ====
section
/-! DEFINITION. The commands of the DG6: one constructor for each row of spec/opcode_table.json, and the types of
their operands. The table gives its rows no operands; they are taken from the layouts of 11_record_and_frame_layouts. -/

namespace Sys2Proof

/-- A gas class that has a receiver, a discharge valve and a selector line. -/
inductive GasClass where
  | halo
  | hydro
  deriving DecidableEq, Repr

/-- The ports 0 to 3 (00_scope, Numbering). -/
inductive PortId where
  | p0
  | p1
  | p2
  | p3
  deriving DecidableEq, Repr

/-- Four like things, one for each port. -/
structure Quad (α : Type) where
  at0 : α
  at1 : α
  at2 : α
  at3 : α
  deriving DecidableEq, Repr

/-- A station-line address: stations 0 to 14, the line panel 15. -/
abbrev Address := Fin 16

/-- The fifteen input lines of the field unit (R160). `selH` and `selK` are SELH_RB and SELK_RB. -/
inductive InputLine where
  | clamp (p : PortId)
  | confirm (p : PortId)
  | release (p : PortId)
  | estop
  | selH
  | selK
  deriving DecidableEq, Repr

/-- What a transducer shows when it is sampled (R170): a signal below live zero, or one that converts to a pressure in
hPa (which may lie above 9999). -/
inductive Signal where
  | belowLiveZero
  | hpa (n : Nat)
  deriving DecidableEq, Repr

/-- What DEBOUNCE_CHANGE says of its line (R161): its pin goes to an electrical level, high or low (of a readback, the level
the other stations leave its selector line at), or the filter time of a change is over. -/
inductive LineMove where
  | pin (high : Bool)
  | settles
  deriving DecidableEq, Repr

/-- A line and what DEBOUNCE_CHANGE says of it. -/
structure LineChange where
  line : InputLine
  move : LineMove
  deriving DecidableEq, Repr

/-- The outcome of the configuration memory's read (R187). -/
inductive ReadOutcome where
  | noAck
  | bytes (image : List Byte)
  deriving DecidableEq, Repr

/-- The two record links (11.5). -/
inductive RecordLink where
  | scale
  | analyser
  deriving DecidableEq, Repr

/-- The defects of R100, in the order of its table. -/
inductive FrameDefect where
  | lengthAbove12
  | unknownKind
  | wrongLength
  | badField
  | badCheck
  deriving DecidableEq, Repr

/-- Why a record is discarded (R200). `lengthAbove40` is the framer's own test (R175), after which it skips. -/
inductive RecordDefect where
  | badCheck
  | badType
  | wrongLength
  | badMarks
  | lengthAbove40
  deriving DecidableEq, Repr

/-- The ten payload bytes of a BEACON as they stand on the line (11.2). -/
structure BeaconPayload where
  dstate : Byte
  cls : Byte
  key : Byte
  viewClass : Byte
  viewSerial : Byte
  flags : Byte
  inhibit : Word16
  bands : Byte
  summary : Byte
  deriving DecidableEq, Repr

/-- The commands: the rows of spec/opcode_table.json. -/
inductive Instr where
  /-- RESET (R187) -/
  | reset
  /-- LOADING_FINISHES (R195): the read's outcome, and the electrical levels of the fifteen input pins at that moment
  (set is high), numbered as the FIELD part numbers the lines. -/
  | loadingFinishes (read : ReadOutcome) (pins : BitVec 15)
  /-- OPEN_CASE (R84): the fields of 11.3 as they stand in the message; the tag's length is its length byte. -/
  | openCase (port cls : Byte) (charge foam : Option Word16) (tag : List Byte)
  /-- ABANDON_CASE (R25) -/
  | abandonCase (port : Byte)
  /-- TAKE_REPORT (R90) -/
  | takeReport
  /-- PORT_STATUS (R180) -/
  | portStatus (port : Byte)
  /-- STATION_STATUS (R181) -/
  | stationStatus
  /-- CLEAR_RECEIVER (R54) -/
  | clearReceiver (receiver : Byte)
  /-- PAUSE_LINE (R149) -/
  | pauseLine
  /-- RESUME_LINE (R151) -/
  | resumeLine
  /-- MALFORMED (R176) -/
  | malformed
  /-- UNKNOWN_REQUEST (R176) -/
  | unknownRequest (type : Byte)
  /-- LENGTH_ABOVE_40 (R175) -/
  | lengthAbove40
  /-- OPERATOR_GAP_EXPIRY (R175) -/
  | operatorGapExpiry
  /-- OPERATOR_LINK_QUIET (R175) -/
  | operatorLinkQuiet
  /-- OPERATOR_TX_DONE (R177) -/
  | operatorTxDone
  /-- BEACON (R142) -/
  | beacon (src : Address) (payload : BeaconPayload)
  /-- INTENT (R120) -/
  | intent (src : Address) (purpose cls key : Byte)
  /-- FLOW_ON (R122) -/
  | flowOn (src : Address) (cls serial : Byte)
  /-- FLOW_OFF (R142) -/
  | flowOff (src : Address) (cls : Byte)
  /-- PURGE_START (R114) -/
  | purgeStart (src : Address) (cls serial : Byte)
  /-- PURGE_DONE (R113) -/
  | purgeDone (src : Address) (cls serial : Byte)
  /-- HOLD (R115) -/
  | hold (src : Address) (cls reason : Byte)
  /-- PAUSE (R147) -/
  | pause (src : Address) (cause : Byte)
  /-- RESUME (R150) -/
  | resume (src : Address)
  /-- ALARM (R156) -/
  | alarm (src : Address) (cls : Byte) (seconds : Word16)
  /-- CLASH_FRAME (R107) -/
  | clashFrame
  /-- FRAME_DROPPED (R100) -/
  | frameDropped (defect : FrameDefect)
  /-- FRAME_TRUNCATED (R99): a gap of more than two byte times, and the byte that comes after it. -/
  | frameTruncated (next : Byte)
  /-- TRANSMIT_START (R102) -/
  | transmitStart
  /-- FRAME_SENT (R102) -/
  | frameSent
  /-- COLLISION (R103) -/
  | collision
  /-- LISTEN_IN_END (R106) -/
  | listenInEnd
  /-- CLASH_TIMER_EXPIRY (R108) -/
  | clashTimerExpiry
  /-- BEACON_TIMER_EXPIRY (R109) -/
  | beaconTimerExpiry
  /-- PEER_STALE (R143) -/
  | peerStale (peer : Address)
  /-- ESTOP_ASSERT (R148) -/
  | estopAssert
  /-- ESTOP_DEASSERT (R148) -/
  | estopDeassert
  /-- ESTOP_REPEAT_EXPIRY (R148) -/
  | estopRepeatExpiry
  /-- INHIBIT_TIMER_EXPIRY (R158) -/
  | inhibitTimerExpiry
  /-- DEBOUNCE_CHANGE (R161) -/
  | debounceChange (change : LineChange)
  /-- CLAMP_ASSERT (R7) -/
  | clampAssert (p : PortId)
  /-- CLAMP_DEASSERT (R22) -/
  | clampDeassert (p : PortId)
  /-- CONFIRM_EDGE (R7) -/
  | confirmEdge (p : PortId) (asserted : Bool)
  /-- RELEASE_REQ_ASSERT (R21) -/
  | releaseReqAssert (p : PortId)
  /-- RELEASE_REQ_DEASSERT (R4) -/
  | releaseReqDeassert (p : PortId)
  /-- READBACK_ASSERT (R132) -/
  | readbackAssert (c : GasClass)
  /-- READBACK_DEASSERT (R132) -/
  | readbackDeassert (c : GasClass)
  /-- PORT_SAMPLE (R171) -/
  | portSample (p : PortId) (signal : Signal)
  /-- HEADER_SAMPLE (R172) -/
  | headerSample (signal : Signal)
  /-- CONNECT_TIMEOUT (R7) -/
  | connectTimeout (p : PortId)
  /-- SETTLE_EXPIRY (R8) -/
  | settleExpiry (p : PortId)
  /-- CLASSIFY_WAIT_EXPIRY (R11) -/
  | classifyWaitExpiry (p : PortId)
  /-- DWELL_EXPIRY (R14) -/
  | dwellExpiry (p : PortId)
  /-- HOLD_TIMER_EXPIRY (R19) -/
  | holdTimerExpiry (p : PortId)
  /-- READING (R38): a good record of one receiver, its over-range mark and its reading field. -/
  | reading (c : GasClass) (overMark : Bool) (value : Word16)
  /-- FAULT_MARKED_RECORD (R35) -/
  | faultMarkedRecord (c : GasClass)
  /-- SILENCE_EXPIRY (R36) -/
  | silenceExpiry (c : GasClass)
  /-- STALL_TIMER_EXPIRY (R50) -/
  | stallTimerExpiry (c : GasClass)
  /-- READY (R60) -/
  | ready
  /-- RESULT (R61): the two readings of the record. -/
  | result (halo hydro : Word16)
  /-- SAMPLE_TIMER_EXPIRY (R65) -/
  | sampleTimerExpiry
  /-- SNIFF_TIMER_EXPIRY (R74) -/
  | sniffTimerExpiry
  /-- RESULT_TIMEOUT (R68) -/
  | resultTimeout
  /-- SNIFF_WARNING (R71) -/
  | sniffWarning
  /-- SNIFF_DUE (R72) -/
  | sniffDue
  /-- LEAK_RECENT_EXPIRY (R77) -/
  | leakRecentExpiry
  /-- FLOW_WINDOW_EXPIRY (R121) -/
  | flowWindowExpiry
  /-- PURGE_WINDOW_EXPIRY (R125) -/
  | purgeWindowExpiry
  /-- DRAIN_EXPIRY (R123) -/
  | drainExpiry
  /-- PURGE_EXPIRY (R128) -/
  | purgeExpiry
  /-- BACKOFF_EXPIRY (R133) -/
  | backoffExpiry
  /-- OVERPRESSURE_REPEAT (R116) -/
  | overpressureRepeat
  /-- CONFLICT_REPEAT_EXPIRY (R132) -/
  | conflictRepeatExpiry
  /-- HOLD_RUNS_OUT (R118) -/
  | holdRunsOut (c : GasClass)
  /-- RECORD_DISCARDED (R200) -/
  | recordDiscarded (link : RecordLink) (defect : RecordDefect)
  /-- RECORD_LINK_QUIET (R200) -/
  | recordLinkQuiet (link : RecordLink)
  deriving DecidableEq, Repr

end Sys2Proof
end

