-- ==== Sys2Proof/Decode.lean ====
section
/-! DEFINITION. The command a word spells: spec/opcode_table.json gives bits to none of its rows, so no word spells one
(log 28). -/

namespace Sys2Proof

/-- The table's rows have no bits. -/
def decodeTableWord (_nbits _w : Nat) : Option Instr := none

end Sys2Proof
end

