-- ==== Sys2Proof/Config.lean ====
section
/-! DEFINITION. What is fixed for a station: the constants of the manual, the shape of the configuration image once it is
clamped and adjusted (R190 to R193), and the free values of what the manual leaves open. -/

namespace Sys2Proof

/-- A port's kind when it is not UNUSED (R1). -/
inductive Kind where
  | circuit
  | foam
  deriving DecidableEq, Repr

/-- One step of an extraction profile (R2): its target in hPa and its longest dwell in seconds. -/
structure Step where
  target : Nat
  dwellS : Nat
  deriving DecidableEq, Repr

/-- The parameter set of a kind (01, 1.1). -/
structure KindSet where
  steps : List Step
  settleTenths : Nat
  connectS : Nat
  holdS : Nat
  riseLimit : Nat
  maxRecycles : Nat
  emptyThreshold : Nat
  lowYield : Nat
  deriving DecidableEq, Repr

/-- The parameter set of a receiver (02, 2.1). -/
structure ReceiverSet where
  tare : Nat
  full : Nat
  dOn : Nat
  dOff : Nat
  noise : Nat
  deriving DecidableEq, Repr

/-- The analyser parameters (03, 3.1). -/
structure AnalyserSet where
  sampleS : Nat
  tp : Nat
  ti : Nat
  traceLimit : Nat
  haloLeak : Nat
  hydroLeak : Nat
  periodCode : Nat
  leadCode : Nat
  classifyWaitS : Nat
  deriving DecidableEq, Repr

/-- The header parameters and the alarm hold (06, 6.1). -/
structure HeaderSet where
  drainS : Nat
  purgeS : Nat
  overLimit : Nat
  stallS : Nat
  alarmS : Nat
  deriving DecidableEq, Repr

/-- The image as clamped and adjusted (R187). `kinds` holds the kind each port runs as (R1: none is UNUSED, a disabled
kind included). -/
structure StationConfig where
  address : Address
  kinds : Quad (Option Kind)
  polarities : Word16
  debounceMs : Nat
  circuit : KindSet
  foam : KindSet
  analyser : AnalyserSet
  halo : ReceiverSet
  hydro : ReceiverSet
  header : HeaderSet
  deriving DecidableEq, Repr

namespace Config

/-! The manual's fixed times, in ms. -/

/-- R106 -/
def listenInMs : Nat := 1000
/-- R107 -/
def clashMs : Nat := 10000
/-- R109 -/
def beaconMs : Nat := 250
/-- R141 -/
def staleMs : Nat := 1000
/-- R32, R35 -/
def silenceMs : Nat := 500
/-- R73 -/
def sniffMs : Nat := 1000
/-- R65, R74 -/
def resultMs : Nat := 1000
/-- R169 -/
def pressureMs : Nat := 50
/-- R120, R124 -/
def windowMs : Nat := 40
/-- R115 -/
def heldMs : Nat := 2000
/-- R116 -/
def overRepeatMs : Nat := 1000
/-- R132 -/
def conflictRepeatMs : Nat := 2000
/-- R148 -/
def estopRepeatMs : Nat := 1000
/-- R161 -/
def readbackMs : Nat := 2
/-- R175: "more than 10 ms" on a clock of whole milliseconds (log 19). -/
def quietMs : Nat := 11
/-- R116: the resume level lies this far below the overpressure limit. -/
def resumeBand : Nat := 50
/-- R88 -/
def reportRoom : Nat := 12
/-- R104 -/
def frameRoom : Nat := 8
/-- R103 -/
def collisionLimit : Nat := 8

/-- A pressure where the manual rules out that there is no good sample, but a run of commands can ask for one (R8, R19,
R41): a free value, known only to lie in the range of a pressure (log 7). -/
opaque freePressure : Nat → Fin 10000

/-- What a transducer shows when its sample timer expires and no command says it: a free value, none being a signal below
live zero and a number the pressure the signal converts to (R170; log 6). -/
opaque freeSignal : Nat → Option Nat

/-- Which of several timers due together expires first: a free value, since "either may be taken first" (log 2). -/
opaque freeOrder : Nat → Nat

/-- Where in the frame a collision falls and what comes back there: a free value, the place taken within the frame's length, and
no byte where nothing comes back that the framer can take (R103; log 13). -/
opaque freeEcho : Nat → Nat × Option Byte

end Config

end Sys2Proof
end

