-- ==== Sys2Proof/Machine/State.lean ====
section
/-! DEFINITION. The state of the DG6 as plain data: every piece of state its blocks hold, the queue of commands that wait,
and the state after reset. -/

namespace Sys2Proof.Machine

/-- A stop of the block. No rule of the manual stops the part (CONFIG_FAULT, a receiver's FAULT and the analyser's FAULT
are states of blocks), so no command raises one. -/
inductive Fault where
  /-- Raised by nobody: the DG6 has no event after which it stops. Safe: it adds no behaviour. -/
  | halted
  deriving DecidableEq, Repr

/-- A command the model does not run. -/
inductive Refusal where
  /-- Raised by an arm of exec whose command has no meaning yet, by its mnemonic. Safe: the model stops where the part
  goes on. No arm raises it. -/
  | notModelled (mnemonic : String)
  deriving DecidableEq, Repr

/-- A timer in ms (00_scope, Time): stopped, running with the time left, or frozen with the time left. -/
inductive Timer where
  | stopped
  | running (ms : Nat)
  | frozen (ms : Nat)
  deriving DecidableEq, Repr

/-! ### Case records (04) -/

/-- The outcome of a classification (R67). -/
inductive MeasuredClass where
  | halo
  | hydro
  | mixed
  | none
  deriving DecidableEq, Repr

/-- `measured_class` with the two readings that are present together with it (04, 4.1). -/
structure Measurement where
  cls : MeasuredClass
  haloPm : Nat
  hydroPm : Nat
  deriving DecidableEq, Repr

/-- The reasons of QUARANTINE (R20), which are the values of `q_reason`. -/
inductive QReason where
  | mixed
  | leak
  | analyser
  deriving DecidableEq, Repr

/-- The nine results of a case (01, 1.12). -/
inductive CaseResult where
  | complete
  | completeStalled
  | residual
  | empty
  | quarantined
  | abandoned
  | abortedClamp
  | abortedSensor
  | notConnected
  deriving DecidableEq, Repr

/-- A case record (04, 4.1). A declared class of none is UNKNOWN. -/
structure CaseRecord where
  caseNo : Nat
  port : PortId
  kind : Kind
  tag : List Byte
  declaredClass : Option GasClass
  declaredCharge : Option Nat
  foamMass : Option Nat
  measured : Option Measurement
  initialHpa : Option Nat
  stepsDone : Nat
  stallStep : Option Nat
  recycles : Nat
  lastRise : Option Nat
  massG : Nat
  mismatch : Bool
  massSat : Bool
  lowYield : Bool
  yieldFig : Option Nat
  traceHits : Nat
  qReason : Option QReason
  result : Option CaseResult
  openedS : Nat
  closedS : Option Nat
  deriving DecidableEq, Repr

/-! ### Port controllers (01) -/

inductive WaitReason where
  | receiver
  | inhibit
  deriving DecidableEq, Repr

inductive PortState where
  | unused
  | vacant
  | opened
  | settle
  | classify
  | extract
  | wait (reason : WaitReason)
  | riseTest
  | quarantine (reason : QReason)
  | closing
  | unclamp
  deriving DecidableEq, Repr

/-- A port controller's state (R3, R5). -/
structure Port where
  state : PortState
  slot : Option CaseRecord
  k : Option Nat
  dwell : Timer
  connect : Timer
  settle : Timer
  classifyWait : Timer
  hold : Timer
  pStart : Option Nat
  clamp : Bool
  confirm : Bool
  release : Bool
  valveH : Bool
  valveK : Bool
  deriving DecidableEq, Repr

/-- R3. While loading is not finished the kind is not known: the port stands in UNUSED (DESIGN CHOICE, log 17). -/
def Port.reset : Port where
  state := .unused
  slot := none
  k := none
  dwell := .stopped
  connect := .stopped
  settle := .stopped
  classifyWait := .stopped
  hold := .stopped
  pStart := none
  clamp := false
  confirm := false
  release := false
  valveH := false
  valveK := false

/-! ### Case store (04) -/

/-- R80. The waiting set is a view: the ports in CLOSING (log 20). -/
structure CaseStore where
  queue : List CaseRecord
  nextNo : Nat
  deriving DecidableEq, Repr

def CaseStore.reset : CaseStore := ⟨[], 1⟩

/-! ### Analyser scheduler (03) -/

/-- The two phases of a sample (R58): path open, then path closed. -/
inductive Phase where
  | sample
  | result
  deriving DecidableEq, Repr

/-- R58. A sniff keeps the case number noted at its start, or none where the port had no open case. -/
inductive AnalyserState where
  | notReady
  | idle
  | classifying (p : PortId) (phase : Phase) (withdrawn : Bool)
  | sniffing (p : PortId) (phase : Phase) (noted : Option Nat)
  | fault
  deriving DecidableEq, Repr

/-- An entry of the classify queue (R58, R62). -/
structure ClassifyEntry where
  port : PortId
  retry : Bool
  deriving DecidableEq, Repr

structure Analyser where
  state : AnalyserState
  queue : List ClassifyEntry
  sampleT : Timer
  resultT : Timer
  count : Nat
  pointer : PortId
  dueAt : Option Nat
  pendingSniff : Bool
  warning : Bool
  leakRecent : Bool
  leakT : Timer
  amodeSniff : Bool
  sampleV : Quad Bool
  sniffV : Quad Bool
  deriving DecidableEq, Repr

/-- R58 -/
def Analyser.reset : Analyser where
  state := .notReady
  queue := []
  sampleT := .stopped
  resultT := .stopped
  count := 0
  pointer := .p3
  dueAt := none
  pendingSniff := false
  warning := false
  leakRecent := false
  leakT := .stopped
  amodeSniff := false
  sampleV := ⟨false, false, false, false⟩
  sniffV := ⟨false, false, false, false⟩

/-! ### Receiver units (02) -/

inductive ReceiverCause where
  | scaleDrop
  | scaleSilent
  | scaleFaultRecord
  deriving DecidableEq, Repr

inductive ReceiverState where
  | starting
  | accepting
  | full
  | discharging
  | fault (cause : ReceiverCause)
  deriving DecidableEq, Repr

/-- R32. The open-port set is a view: the ports whose valve to this receiver is open (R5, R41; log 20). The account
figures wrap at 2^32 (R40). -/
structure Receiver where
  state : ReceiverState
  first : Bool
  latest : Word16
  overMark : Bool
  baseline : Word16
  last : Word16
  attributed : Word32
  unattributed : Word32
  outflow : Word32
  drift : Word32
  request : Bool
  silence : Timer
  stall : Timer
  lowest : Option Nat
  doneSent : Bool
  stallSent : Bool
  deriving DecidableEq, Repr

/-- R32 -/
def Receiver.reset : Receiver where
  state := .starting
  first := false
  latest := 0
  overMark := false
  baseline := 0
  last := 0
  attributed := 0
  unattributed := 0
  outflow := 0
  drift := 0
  request := false
  silence := .stopped
  stall := .stopped
  lowest := none
  doneSent := false
  stallSent := false

/-! ### Frames of the station line (05, 11.2) -/

/-- The discharge states (R111, 6.4), which a BEACON also carries. -/
inductive DState where
  | idle
  | listenFlow
  | waiting
  | drain
  | listenPurge
  | purging
  | flowing
  | backoff
  deriving DecidableEq, Repr

inductive HoldClass where
  | halo
  | hydro
  | all
  deriving DecidableEq, Repr

inductive HoldReason where
  | inhibit
  | conflict
  | overpressure
  deriving DecidableEq, Repr

inductive PauseCause where
  | line
  | estop
  | operator
  deriving DecidableEq, Repr

inductive Purpose where
  | flow
  | purge
  deriving DecidableEq, Repr

/-- The fields of a BEACON (R109, R198). A class of none is UNKNOWN, or no class. -/
structure Beacon where
  dstate : DState
  cls : Option GasClass
  key : Nat
  viewClass : Option GasClass
  viewSerial : Byte
  paused : Bool
  inhibitS : Nat
  bandH : Nat
  bandK : Nat
  warned : Bool
  analyserFault : Bool
  haloFault : Bool
  hydroFault : Bool
  deriving DecidableEq, Repr

/-- A frame with defined field values (R198). -/
inductive Frame where
  | beacon (b : Beacon)
  | intent (purpose : Purpose) (c : GasClass) (key : Nat)
  | flowOn (c : GasClass) (serial : Byte)
  | flowOff (c : GasClass)
  | purgeStart (c : GasClass) (serial : Byte)
  | purgeDone (c : Option GasClass) (serial : Byte)
  | hold (c : HoldClass) (reason : HoldReason)
  | pause (cause : PauseCause)
  | resume
  | alarm (seconds : Nat)
  deriving DecidableEq, Repr

/-! ### Header agent (06) -/

/-- R111, R112. A held-until time is kept as the time left until it (log 20); `entry` numbers the INTENTs (log 16). -/
structure Agent where
  dstate : DState
  sought : Option GasClass
  key : Nat
  viewClass : Option GasClass
  viewSerial : Byte
  owner : Option Address
  heldH : Timer
  heldK : Timer
  reasonH : Option HoldReason
  reasonK : Option HoldReason
  overpressure : Bool
  headerFault : Bool
  conflict : Bool
  window : Timer
  drain : Timer
  purge : Timer
  backoff : Timer
  overRepeat : Timer
  conflictRepeat : Timer
  contended : Bool
  reserved : Bool
  purgeSerial : Byte
  dischH : Bool
  dischK : Bool
  purgeV : Bool
  selH : Bool
  selK : Bool
  entry : Nat
  deriving DecidableEq, Repr

/-- R111 -/
def Agent.reset : Agent where
  dstate := .idle
  sought := none
  key := 0
  viewClass := none
  viewSerial := 0
  owner := none
  heldH := .stopped
  heldK := .stopped
  reasonH := none
  reasonK := none
  overpressure := false
  headerFault := false
  conflict := false
  window := .stopped
  drain := .stopped
  purge := .stopped
  backoff := .stopped
  overRepeat := .stopped
  conflictRepeat := .stopped
  contended := false
  reserved := false
  purgeSerial := 0
  dischH := false
  dischK := false
  purgeV := false
  selH := false
  selK := false
  entry := 0

/-! ### Line interface (05) -/

/-- The line's receive framer (R99). -/
inductive LineFramer where
  | hunting
  | inFrame (bytes : List Byte)
  | skipping
  deriving DecidableEq, Repr

/-- The transmitter's states (05, 5.4). -/
inductive TxState where
  | silent
  | idle
  | defer
  | sending
  | retry
  deriving DecidableEq, Repr

/-- A frame of the transmit queue, with the number of the agent's INTENT entry where it is an INTENT (log 16). -/
structure QueuedFrame where
  frame : Frame
  entry : Nat
  deriving DecidableEq, Repr

/-- R96 -/
structure LineIf where
  framer : LineFramer
  tx : TxState
  queue : List QueuedFrame
  headCount : Nat
  rxErrors : Nat
  collisions : Nat
  listenIn : Bool
  listenT : Timer
  clash : Bool
  clashT : Timer
  beaconT : Timer
  deriving DecidableEq, Repr

/-- R96 -/
def LineIf.reset : LineIf where
  framer := .skipping
  tx := .silent
  queue := []
  headCount := 0
  rxErrors := 0
  collisions := 0
  listenIn := false
  listenT := .stopped
  clash := false
  clashT := .stopped
  beaconT := .stopped

/-! ### Peer table and line conditions (07) -/

/-- An entry of the peer table (07, 7.1). `beaconLater` says which of the two stored frames came later (log 15). -/
structure Peer where
  present : Bool
  lastHeard : Nat
  stale : Bool
  timer : Timer
  beacon : Option Beacon
  beaconAt : Nat
  beaconVoid : Bool
  disch : Option Frame
  dischAt : Nat
  dischVoid : Bool
  beaconLater : Bool
  deriving DecidableEq, Repr

/-- R140 -/
def Peer.reset : Peer where
  present := false
  lastHeard := 0
  stale := false
  timer := .stopped
  beacon := none
  beaconAt := 0
  beaconVoid := false
  disch := none
  dischAt := 0
  dischVoid := false
  beaconLater := false

/-- R146, R155. The inhibit-until time is kept as the time left until it (log 20); `owed` holds the frames still to be
offered again (R154, log 9). -/
structure LineConditions where
  paused : Bool
  causeLine : Bool
  causeEstop : Bool
  causeOperator : Bool
  estopRepeat : Timer
  lastPause : Option PauseCause
  estop : Bool
  inhibit : Timer
  owed : List Frame
  deriving DecidableEq, Repr

/-- R146, R155 -/
def LineConditions.reset : LineConditions where
  paused := false
  causeLine := false
  causeEstop := false
  causeOperator := false
  estopRepeat := .stopped
  lastPause := none
  estop := false
  inhibit := .stopped
  owed := []

/-! ### Field unit (08) -/

/-- One input line (R160). A level of none is not set yet. `pin` is the electrical level at the line's pin, set when high (of a
readback, the level the other stations leave its selector line at, R166); `filter` is the filter time of a change (R161). -/
structure LineInput where
  level : Option Bool
  assertLatch : Bool
  deassertLatch : Bool
  pauseRec : Option Bool
  pin : Bool
  filter : Timer
  deriving DecidableEq, Repr

/-- R160. What the pin shows before loading reads it counts for nothing: low (DESIGN CHOICE, log 17). -/
def LineInput.reset : LineInput := ⟨none, false, false, none, false, .stopped⟩

/-- A pressure sample (R170), or none yet (R169). -/
inductive Sample where
  | absent
  | good (hpa : Nat)
  | overRange
  | sensorFault
  deriving DecidableEq, Repr

/-- R160, R168, R169 -/
structure FieldUnit where
  clamp : Quad LineInput
  confirm : Quad LineInput
  release : Quad LineInput
  estop : LineInput
  selH : LineInput
  selK : LineInput
  samples : Quad Sample
  headerSample : Sample
  sampleTs : Quad Timer
  headerT : Timer
  lamp : Bool
  deriving DecidableEq, Repr

/-- R160, R168, R169 -/
def FieldUnit.reset : FieldUnit where
  clamp := ⟨.reset, .reset, .reset, .reset⟩
  confirm := ⟨.reset, .reset, .reset, .reset⟩
  release := ⟨.reset, .reset, .reset, .reset⟩
  estop := .reset
  selH := .reset
  selK := .reset
  samples := ⟨.absent, .absent, .absent, .absent⟩
  headerSample := .absent
  sampleTs := ⟨.stopped, .stopped, .stopped, .stopped⟩
  headerT := .stopped
  lamp := false

/-! ### Operator port and record links (09, 11.5) -/

/-- The framer of the operator link and of the record links (R175, R200). -/
inductive LinkFramer where
  | waitingQuiet
  | hunting
  | inMessage (bytes : List Byte)
  | skipping
  deriving DecidableEq, Repr

/-- A message or record of the three byte links: its type and its payload. -/
structure Message where
  type : Byte
  payload : List Byte
  deriving DecidableEq, Repr

/-- The operator transmitter (R174), with the messages it is sending. -/
inductive OpTx where
  | idle
  | responding (messages : List Message)
  | notifying (message : Message)
  deriving DecidableEq, Repr

/-- The owed refusal (R174, R177). -/
inductive Owed where
  | malformed
  | busy (type : Byte)
  deriving DecidableEq, Repr

/-- R174. Bit i of `flags` is the pending flag of the event kind whose bit EVENTS gives as i (11.4). -/
structure OperatorPort where
  framer : LinkFramer
  gap : Timer
  tx : OpTx
  owed : Option Owed
  flags : BitVec 13
  deriving DecidableEq, Repr

/-- R174. That the gap timer stands stopped until loading finishes is a DESIGN CHOICE (log 17). -/
def OperatorPort.reset : OperatorPort := ⟨.waitingQuiet, .stopped, .idle, none, 0⟩

/-- R200 -/
structure RecordLinkState where
  framer : LinkFramer
  gap : Timer
  deriving DecidableEq, Repr

/-- R200 gives WAITING_QUIET when loading finishes. That a record link stands in it from reset until then and in CONFIG_FAULT, its
gap timer stopped, is a DESIGN CHOICE (log 17). -/
def RecordLinkState.reset : RecordLinkState := ⟨.waitingQuiet, .stopped⟩

/-! ### Configuration loader (10) -/

inductive ConfigCause where
  | noAck
  | check
  | address
  deriving DecidableEq, Repr

inductive LoaderState where
  | loading
  | loaded
  | configFault (cause : ConfigCause)
  deriving DecidableEq, Repr

/-- The warning record (R194). -/
structure Warnings where
  clamped : Nat
  truncatedCircuit : Bool
  truncatedFoam : Bool
  disabledCircuit : Bool
  disabledFoam : Bool
  adjustedHalo : Bool
  adjustedHydro : Bool
  adjustedAnalyser : Bool
  deriving DecidableEq, Repr

def Warnings.none : Warnings := ⟨0, false, false, false, false, false, false, false⟩

/-- R187 -/
structure Loader where
  state : LoaderState
  image : Option (List Byte)
  cfg : Option StationConfig
  warnings : Warnings
  deriving DecidableEq, Repr

/-- R187 -/
def Loader.reset : Loader := ⟨.loading, Option.none, Option.none, .none⟩

/-! ### The station -/

/-- The whole state. `clock` is the station's ms clock (00_scope, Time), `pending` the commands that wait, first in first
out, and `free` counts the free values drawn (log 2, 6, 7, 13). -/
structure State where
  clock : Nat
  loader : Loader
  ports : Quad Port
  store : CaseStore
  ana : Analyser
  halo : Receiver
  hydro : Receiver
  agent : Agent
  line : LineIf
  peers : Vector Peer 16
  lc : LineConditions
  field : FieldUnit
  op : OperatorPort
  scaleLink : RecordLinkState
  anaLink : RecordLinkState
  pending : List Instr
  free : Nat
  deriving DecidableEq, Repr

/-- The station right after reset (R187 and the reset sentences of each block's chapter). -/
def State.reset : State where
  clock := 0
  loader := .reset
  ports := ⟨.reset, .reset, .reset, .reset⟩
  store := .reset
  ana := .reset
  halo := .reset
  hydro := .reset
  agent := .reset
  line := .reset
  peers := Vector.replicate 16 .reset
  lc := .reset
  field := .reset
  op := .reset
  scaleLink := .reset
  anaLink := .reset
  pending := []
  free := 0

end Sys2Proof.Machine
end

