-- ==== Sys2Proof/Machine/Ops.lean ====
section
/-! DEFINITION. The named operations every block's operations are built from: reading and updating one port, one receiver,
one peer; timers and the passing of time; the small arithmetic of the manual's conventions (00_scope). -/

namespace Sys2Proof

/-! ### Ports, in their order -/

def PortId.num : PortId → Nat
  | .p0 => 0
  | .p1 => 1
  | .p2 => 2
  | .p3 => 3

/-- The ports in the order of their numbers. -/
def PortId.all : List PortId := [.p0, .p1, .p2, .p3]

/-- The port after a port in sweep order, which wraps from 3 to 0 (00_scope, Numbering). -/
def PortId.succ : PortId → PortId
  | .p0 => .p1
  | .p1 => .p2
  | .p2 => .p3
  | .p3 => .p0

/-- The port a port byte names, where it is not above 3. -/
def PortId.named : Nat → Option PortId
  | 0 => some .p0
  | 1 => some .p1
  | 2 => some .p2
  | 3 => some .p3
  | _ => none

namespace Quad

variable {α β : Type}

def get (q : Quad α) : PortId → α
  | .p0 => q.at0
  | .p1 => q.at1
  | .p2 => q.at2
  | .p3 => q.at3

def set (q : Quad α) (p : PortId) (x : α) : Quad α :=
  match p with
  | .p0 => { q with at0 := x }
  | .p1 => { q with at1 := x }
  | .p2 => { q with at2 := x }
  | .p3 => { q with at3 := x }

def map (f : α → β) (q : Quad α) : Quad β := ⟨f q.at0, f q.at1, f q.at2, f q.at3⟩

def toList (q : Quad α) : List α := [q.at0, q.at1, q.at2, q.at3]

end Quad

/-- The other gas class. -/
def GasClass.other : GasClass → GasClass
  | .halo => .hydro
  | .hydro => .halo

/-- The parameter set of a kind. -/
def StationConfig.kindSet (g : StationConfig) : Kind → KindSet
  | .circuit => g.circuit
  | .foam => g.foam

/-- The parameter set of a receiver. -/
def StationConfig.rcvSet (g : StationConfig) : GasClass → ReceiverSet
  | .halo => g.halo
  | .hydro => g.hydro

namespace Machine

/-! ### Arithmetic of the conventions -/

/-- A count that stops at the top of its range (00_scope, Numbers). -/
def satAdd (top a b : Nat) : Nat := min top (a + b)

/-- Milliseconds as whole seconds rounded up (R109, R159). -/
def ceilSeconds (ms : Nat) : Nat := (ms + 999) / 1000

/-! ### Timers -/

namespace Timer

/-- `n` milliseconds pass. Only a running timer counts; it does not fall below its expiry. -/
def elapse (n : Nat) : Timer → Timer
  | .running ms => .running (ms - n)
  | t => t

/-- The remaining time is kept (00_scope, Time). -/
def freeze : Timer → Timer
  | .running ms => .frozen ms
  | t => t

/-- A frozen timer runs on from what it kept. -/
def thaw : Timer → Timer
  | .frozen ms => .running ms
  | t => t

/-- The time left, 0 where the timer is stopped. -/
def left : Timer → Nat
  | .running ms => ms
  | .frozen ms => ms
  | .stopped => 0

def isRunning : Timer → Bool
  | .running _ => true
  | _ => false

/-- The timer runs and its time is up. -/
def isDue : Timer → Bool
  | .running 0 => true
  | _ => false

/-- A bar that lasts until a running timer's time has passed (R115): a held-until time lies in the future. -/
def isAhead : Timer → Bool
  | .running (_ + 1) => true
  | _ => false

end Timer

/-! ### The state's parts -/

/-- The parameters in use before an image is loaded, and in CONFIG_FAULT: none of them is used by a rule then (R188). -/
def blankKindSet : KindSet := ⟨[], 0, 0, 0, 0, 0, 0, 0⟩

def blankConfig : StationConfig where
  address := 0
  kinds := ⟨none, none, none, none⟩
  polarities := 0
  debounceMs := 0
  circuit := blankKindSet
  foam := blankKindSet
  analyser := ⟨0, 0, 0, 0, 0, 0, 0, 0, 0⟩
  halo := ⟨0, 0, 0, 0, 0⟩
  hydro := ⟨0, 0, 0, 0, 0⟩
  header := ⟨0, 0, 0, 0, 0⟩

namespace State

/-- The configuration the blocks work from (R187). -/
def cfg (s : State) : StationConfig := s.loader.cfg.getD blankConfig

/-- The station is in LOADED. -/
def loaded (s : State) : Bool :=
  match s.loader.state with
  | .loaded => true
  | _ => false

/-- The station is in CONFIG_FAULT. -/
def configFault (s : State) : Bool :=
  match s.loader.state with
  | .configFault _ => true
  | _ => false

def port (s : State) (p : PortId) : Port := s.ports.get p

def setPort (p : PortId) (x : Port) (s : State) : State := { s with ports := s.ports.set p x }

/-- The receiver unit of a class. -/
def rcv (s : State) : GasClass → Receiver
  | .halo => s.halo
  | .hydro => s.hydro

def setRcv (c : GasClass) (r : Receiver) (s : State) : State :=
  match c with
  | .halo => { s with halo := r }
  | .hydro => { s with hydro := r }

def setStore (x : CaseStore) (s : State) : State := { s with store := x }
def setAna (x : Analyser) (s : State) : State := { s with ana := x }
def setAgent (x : Agent) (s : State) : State := { s with agent := x }
def setLine (x : LineIf) (s : State) : State := { s with line := x }
def setLc (x : LineConditions) (s : State) : State := { s with lc := x }
def setField (x : FieldUnit) (s : State) : State := { s with field := x }
def setOp (x : OperatorPort) (s : State) : State := { s with op := x }
def setLoader (x : Loader) (s : State) : State := { s with loader := x }
def setFree (n : Nat) (s : State) : State := { s with free := n }

def peer (s : State) (a : Address) : Peer := s.peers[a]

def setPeer (a : Address) (x : Peer) (s : State) : State := { s with peers := s.peers.set a x }

def recordLink (s : State) : RecordLink → RecordLinkState
  | .scale => s.scaleLink
  | .analyser => s.anaLink

def setRecordLink (l : RecordLink) (x : RecordLinkState) (s : State) : State :=
  match l with
  | .scale => { s with scaleLink := x }
  | .analyser => { s with anaLink := x }

/-- An operation on each of the four ports in turn. -/
def eachPort (f : PortId → State → State) (s : State) : State := f .p3 (f .p2 (f .p1 (f .p0 s)))

/-- Whole seconds since reset, rounded down, 32-bit (00_scope, Time). They stop at the top of their range, so that no later time
is below an earlier one (R87; log 19). -/
def seconds (s : State) : Nat := min 4294967295 (s.clock / 1000)

/-- Hydrocarbon inhibit is active from the hold that starts it until its end is taken (R155, R158; log 14). -/
def inhibited (s : State) : Bool := s.lc.inhibit.isRunning

/-- Inhibit seconds remaining, rounded up (R155). -/
def inhibitSeconds (s : State) : Nat := ceilSeconds s.lc.inhibit.left

end State

/-! ### Time passes -/

def Port.elapse (n : Nat) (x : Port) : Port :=
  { x with
    dwell := x.dwell.elapse n, connect := x.connect.elapse n, settle := x.settle.elapse n,
    classifyWait := x.classifyWait.elapse n, hold := x.hold.elapse n }

def Receiver.elapse (n : Nat) (r : Receiver) : Receiver :=
  { r with silence := r.silence.elapse n, stall := r.stall.elapse n }

def Analyser.elapse (n : Nat) (a : Analyser) : Analyser :=
  { a with sampleT := a.sampleT.elapse n, resultT := a.resultT.elapse n, leakT := a.leakT.elapse n }

def Agent.elapse (n : Nat) (a : Agent) : Agent :=
  { a with
    heldH := a.heldH.elapse n, heldK := a.heldK.elapse n, window := a.window.elapse n, drain := a.drain.elapse n,
    purge := a.purge.elapse n, backoff := a.backoff.elapse n, overRepeat := a.overRepeat.elapse n,
    conflictRepeat := a.conflictRepeat.elapse n }

def LineIf.elapse (n : Nat) (l : LineIf) : LineIf :=
  { l with listenT := l.listenT.elapse n, clashT := l.clashT.elapse n, beaconT := l.beaconT.elapse n }

def Peer.elapse (n : Nat) (x : Peer) : Peer := { x with timer := x.timer.elapse n }

def LineConditions.elapse (n : Nat) (x : LineConditions) : LineConditions :=
  { x with estopRepeat := x.estopRepeat.elapse n, inhibit := x.inhibit.elapse n }

def LineInput.elapse (n : Nat) (i : LineInput) : LineInput := { i with filter := i.filter.elapse n }

def FieldUnit.elapse (n : Nat) (x : FieldUnit) : FieldUnit :=
  { x with
    clamp := x.clamp.map (LineInput.elapse n), confirm := x.confirm.map (LineInput.elapse n),
    release := x.release.map (LineInput.elapse n), estop := x.estop.elapse n, selH := x.selH.elapse n,
    selK := x.selK.elapse n, sampleTs := x.sampleTs.map (Timer.elapse n), headerT := x.headerT.elapse n }

/-- `n` milliseconds pass: the clock advances and every running timer counts down; nothing else changes (00_scope, Time;
log 1). -/
def State.elapse (n : Nat) (s : State) : State :=
  { s with
    clock := s.clock + n
    ports := s.ports.map (Port.elapse n)
    ana := s.ana.elapse n
    halo := s.halo.elapse n
    hydro := s.hydro.elapse n
    agent := s.agent.elapse n
    line := s.line.elapse n
    peers := s.peers.map (Peer.elapse n)
    lc := s.lc.elapse n
    field := s.field.elapse n
    op := { s.op with gap := s.op.gap.elapse n }
    scaleLink := { s.scaleLink with gap := s.scaleLink.gap.elapse n }
    anaLink := { s.anaLink with gap := s.anaLink.gap.elapse n } }

/-- The expiry of a timer: where the timer runs, the time up to its expiry passes and the expiry is taken; where it does
not run, the expiry does not exist (log 1, log 3). -/
def State.onExpiry (t : Timer) (act : State → State) (s : State) : State :=
  match t with
  | .running ms => act (s.elapse ms)
  | _ => s

/-- A free value of Config.freePressure is drawn (log 7). -/
def State.drawPressure (s : State) : Nat × State :=
  ((Config.freePressure s.free).val, s.setFree (s.free + 1))

end Machine

end Sys2Proof
end

