-- ==== Sys2Proof/Machine/Wire.lean ====
section
/-! DEFINITION. Bytes: byte order, the CRC-16 of every check (R98), the codes of 11.1, and the layouts of the frames the
station sends and of every message's form (11.2, 9.1). -/

namespace Sys2Proof.Machine

/-! ### Byte order (11: multi-byte fields go high byte first) -/

def byteOf (n : Nat) : Byte := BitVec.ofNat 8 n

def bytes16 (n : Nat) : List Byte := [byteOf (n / 256), byteOf n]

def bytes32 (n : Nat) : List Byte :=
  [byteOf (n / 16777216), byteOf (n / 65536), byteOf (n / 256), byteOf n]

def word16Of (hi lo : Byte) : Nat := hi.toNat * 256 + lo.toNat

/-- A flag as the bit of a given place. -/
def flagBit (b : Bool) (place : Nat) : Nat := if b then 2 ^ place else 0

/-! ### The check (R98) -/

/-- One bit of the message shifted into the register of generator polynomial x^16 + x^12 + x^5 + 1. -/
def crcBit (crc : Nat) (bit : Nat) : Nat :=
  let shifted := crc * 2 % 65536
  if crc / 32768 = bit then shifted else shifted ^^^ 0x1021

/-- Each byte is taken most significant bit first. -/
def crcByte (crc : Nat) (b : Byte) : Nat :=
  let n := b.toNat
  [128, 64, 32, 16, 8, 4, 2, 1].foldl (fun r place => crcBit r (n / place % 2)) crc

/-- CRC-16 (R98): the register starts at 0xFFFF and no inversion is applied at the end. -/
def crc16 (bytes : List Byte) : Nat := bytes.foldl crcByte 0xFFFF

/-- The check bytes of a run, high byte first. -/
def checkBytes (bytes : List Byte) : List Byte := bytes16 (crc16 bytes)

/-- The start byte of frames, messages and records. -/
def startByte : Byte := 0xC3

/-- The form of an operator message or a record (9.1, 11.5): start, type, length, payload, check over all but the start. -/
def Message.bytes (m : Message) : List Byte :=
  let body := m.type :: byteOf m.payload.length :: m.payload
  startByte :: body ++ checkBytes body

/-! ### Codes (11.1) -/

def classCode : Option GasClass → Nat
  | none => 0
  | some .halo => 1
  | some .hydro => 2

def DState.code : DState → Nat
  | .idle => 0
  | .listenFlow => 1
  | .waiting => 2
  | .drain => 3
  | .listenPurge => 4
  | .purging => 5
  | .flowing => 6
  | .backoff => 7

def HoldClass.code : HoldClass → Nat
  | .halo => 1
  | .hydro => 2
  | .all => 3

def HoldReason.code : HoldReason → Nat
  | .inhibit => 1
  | .conflict => 2
  | .overpressure => 3

def PauseCause.code : PauseCause → Nat
  | .line => 1
  | .estop => 2
  | .operator => 3

def Purpose.code : Purpose → Nat
  | .flow => 1
  | .purge => 2

def kindCode : Option Kind → Nat
  | none => 0
  | some .circuit => 1
  | some .foam => 2

def MeasuredClass.code : MeasuredClass → Nat
  | .halo => 1
  | .hydro => 2
  | .mixed => 3
  | .none => 4

def QReason.code : QReason → Nat
  | .mixed => 1
  | .leak => 2
  | .analyser => 3

def CaseResult.code : CaseResult → Nat
  | .complete => 1
  | .completeStalled => 2
  | .residual => 3
  | .empty => 4
  | .quarantined => 5
  | .abandoned => 6
  | .abortedClamp => 7
  | .abortedSensor => 8
  | .notConnected => 9

def PortState.code : PortState → Nat
  | .unused => 0
  | .vacant => 1
  | .opened => 2
  | .settle => 3
  | .classify => 4
  | .extract => 5
  | .wait _ => 6
  | .riseTest => 7
  | .quarantine _ => 8
  | .closing => 9
  | .unclamp => 10

def PortState.reasonCode : PortState → Nat
  | .wait .receiver => 1
  | .wait .inhibit => 2
  | .quarantine q => q.code
  | _ => 0

def ReceiverState.code : ReceiverState → Nat
  | .starting => 0
  | .accepting => 1
  | .full => 2
  | .discharging => 3
  | .fault _ => 4

def ReceiverState.causeCode : ReceiverState → Nat
  | .fault .scaleDrop => 1
  | .fault .scaleSilent => 2
  | .fault .scaleFaultRecord => 3
  | _ => 0

def TxState.code : TxState → Nat
  | .silent => 0
  | .idle => 1
  | .defer => 2
  | .sending => 3
  | .retry => 4

def ConfigCause.code : ConfigCause → Nat
  | .noAck => 1
  | .check => 2
  | .address => 3

/-! ### Line frames (05, 5.2 and 11.2) -/

/-- The kind code in the low four bits of the source and kind byte. -/
def Frame.kindCode : Frame → Nat
  | .beacon _ => 1
  | .intent _ _ _ => 2
  | .flowOn _ _ => 3
  | .flowOff _ => 4
  | .purgeStart _ _ => 5
  | .purgeDone _ _ => 6
  | .hold _ _ => 7
  | .pause _ => 8
  | .resume => 9
  | .alarm _ => 10

/-- The one payload length of each kind code, or none where the code names no kind. -/
def kindLength : Nat → Option Nat
  | 1 => some 10
  | 2 => some 3
  | 3 => some 2
  | 4 => some 1
  | 5 => some 2
  | 6 => some 2
  | 7 => some 2
  | 8 => some 1
  | 9 => some 0
  | 10 => some 3
  | _ => none

/-- The payload of a BEACON, byte by byte (11.2). -/
def Beacon.payload (b : Beacon) : List Byte :=
  [byteOf b.dstate.code, byteOf (classCode b.cls), byteOf b.key, byteOf (classCode b.viewClass), b.viewSerial,
    byteOf (flagBit b.paused 0)] ++ bytes16 b.inhibitS ++
  [byteOf (b.bandH * 16 + b.bandK),
    byteOf (flagBit b.warned 0 + flagBit b.analyserFault 1 + flagBit b.haloFault 2 + flagBit b.hydroFault 3)]

/-- The payload of a frame, byte by byte (11.2). -/
def Frame.payload : Frame → List Byte
  | .beacon b => b.payload
  | .intent u c key => [byteOf u.code, byteOf (classCode (some c)), byteOf key]
  | .flowOn c serial => [byteOf (classCode (some c)), serial]
  | .flowOff c => [byteOf (classCode (some c))]
  | .purgeStart c serial => [byteOf (classCode (some c)), serial]
  | .purgeDone c serial => [byteOf (classCode c), serial]
  | .hold c reason => [byteOf c.code, byteOf reason.code]
  | .pause cause => [byteOf cause.code]
  | .resume => []
  | .alarm seconds => byteOf (classCode (some .hydro)) :: bytes16 seconds

/-- The bytes of a frame sent from an address: start, source and kind, length, payload, check (R98, 11.2). -/
def Frame.bytes (src : Address) (f : Frame) : List Byte :=
  let body := byteOf (src.val * 16 + f.kindCode) :: byteOf f.payload.length :: f.payload
  startByte :: body ++ checkBytes body

/-- The bytes the transmitter drives while SENDING (R97): the frame at the head of its queue. -/
def State.driven (s : State) : List Byte :=
  match s.line.tx, s.line.queue with
  | .sending, q :: _ => q.frame.bytes s.cfg.address
  | _, _ => []

end Sys2Proof.Machine
end

