-- ==== Sys2Proof/Machine/Operands.lean ====
section
/-! DEFINITION. The operands of the commands as they stand on the wires, judged and turned into the values the blocks
work with: the defined field values of line frames (R198), the field checks of requests (R85, R199), samples (R170) and
the readings of the two record links (R35, R61). -/

namespace Sys2Proof.Machine

/-! ### Codes read -/

/-- Class 1 or 2. -/
def readClass : Nat → Option GasClass
  | 1 => some .halo
  | 2 => some .hydro
  | _ => none

/-- Class 0 to 2, 0 being UNKNOWN or none; the outer none is a code the table does not define. -/
def readClassOrNone : Nat → Option (Option GasClass)
  | 0 => some none
  | 1 => some (some .halo)
  | 2 => some (some .hydro)
  | _ => none

def readDState : Nat → Option DState
  | 0 => some .idle
  | 1 => some .listenFlow
  | 2 => some .waiting
  | 3 => some .drain
  | 4 => some .listenPurge
  | 5 => some .purging
  | 6 => some .flowing
  | 7 => some .backoff
  | _ => none

def readPurpose : Nat → Option Purpose
  | 1 => some .flow
  | 2 => some .purge
  | _ => none

def readHoldClass : Nat → Option HoldClass
  | 1 => some .halo
  | 2 => some .hydro
  | 3 => some .all
  | _ => none

def readHoldReason : Nat → Option HoldReason
  | 1 => some .inhibit
  | 2 => some .conflict
  | 3 => some .overpressure
  | _ => none

def readPauseCause : Nat → Option PauseCause
  | 1 => some .line
  | 2 => some .estop
  | 3 => some .operator
  | _ => none

/-! ### The defined values of a frame's fields (R198) -/

/-- Class and key of a BEACON against its discharge state: class 0 and key 0 with IDLE, class 1 or 2 and key 0 to 15
with every other state. -/
def beaconFit (d : DState) (c : Option GasClass) (key : Nat) : Bool :=
  match d, c with
  | .idle, none => decide (key = 0)
  | .idle, some _ => false
  | _, none => false
  | _, some _ => decide (key ≤ 15)

/-- A BEACON's fields, where each holds a value R198 defines. -/
def readBeacon (b : BeaconPayload) : Option Frame :=
  match readDState b.dstate.toNat, readClassOrNone b.cls.toNat, readClassOrNone b.viewClass.toNat with
  | some d, some c, some v =>
    if beaconFit d c b.key.toNat && decide (b.flags.toNat ≤ 1) && decide (b.inhibit.toNat ≤ 600)
        && decide (b.summary.toNat ≤ 15) then
      some (.beacon
        { dstate := d, cls := c, key := b.key.toNat, viewClass := v, viewSerial := b.viewSerial,
          paused := b.flags.getLsbD 0, inhibitS := b.inhibit.toNat,
          bandH := b.bands.toNat / 16, bandK := b.bands.toNat % 16,
          warned := b.summary.getLsbD 0, analyserFault := b.summary.getLsbD 1,
          haloFault := b.summary.getLsbD 2, hydroFault := b.summary.getLsbD 3 })
    else none
  | _, _, _ => none

def readIntent (purpose cls key : Byte) : Option Frame :=
  match readPurpose purpose.toNat, readClass cls.toNat with
  | some u, some c => if key.toNat ≤ 15 then some (.intent u c key.toNat) else none
  | _, _ => none

def readFlowOn (cls serial : Byte) : Option Frame := (readClass cls.toNat).map fun c => .flowOn c serial

def readFlowOff (cls : Byte) : Option Frame := (readClass cls.toNat).map .flowOff

def readPurgeStart (cls serial : Byte) : Option Frame := (readClass cls.toNat).map fun c => .purgeStart c serial

def readPurgeDone (cls serial : Byte) : Option Frame := (readClassOrNone cls.toNat).map fun c => .purgeDone c serial

def readHold (cls reason : Byte) : Option Frame :=
  match readHoldClass cls.toNat, readHoldReason reason.toNat with
  | some h, some r => some (.hold h r)
  | _, _ => none

def readPause (cause : Byte) : Option Frame := (readPauseCause cause.toNat).map .pause

/-- Class 2 and a hold of 1 to 600 s. -/
def readAlarm (cls : Byte) (seconds : Word16) : Option Frame :=
  if cls.toNat = 2 ∧ 1 ≤ seconds.toNat ∧ seconds.toNat ≤ 600 then some (.alarm seconds.toNat) else none

/-! ### Requests (R85, R199) -/

/-- The port a port byte names; above 3 it is BAD_PORT. -/
def readPort (b : Byte) : Option PortId := PortId.named b.toNat

/-- A receiver byte: 1 HALO, 2 HYDRO, and BAD_FIELD otherwise. -/
def readReceiver (b : Byte) : Option GasClass := readClass b.toNat

/-- The payload length of an OPEN_CASE with these fields (R199): 4, plus 2 for each figure, plus the tag. -/
def openCaseLength (charge foam : Option Word16) (tag : List Byte) : Nat :=
  4 + (if charge.isSome then 2 else 0) + (if foam.isSome then 2 else 0) + tag.length

/-- 1 to 16 characters, each in 0x20 to 0x7E. -/
def tagOk (tag : List Byte) : Bool :=
  decide (1 ≤ tag.length) && decide (tag.length ≤ 16) &&
    tag.all fun c => decide (0x20 ≤ c.toNat) && decide (c.toNat ≤ 0x7E)

/-- A declared charge may be given on a CIRCUIT port only, and is 1 to 65535. -/
def chargeOk (kind : Kind) : Option Word16 → Bool
  | none => true
  | some w => decide (kind = .circuit) && decide (1 ≤ w.toNat)

/-- A foam mass may be given on a FOAM port only, and is 1 to 999. -/
def foamOk (kind : Kind) : Option Word16 → Bool
  | none => true
  | some w => decide (kind = .foam) && decide (1 ≤ w.toNat) && decide (w.toNat ≤ 999)

/-- The field checks of an OPEN_CASE (R85). -/
def openFieldsOk (kind : Kind) (cls : Byte) (charge foam : Option Word16) (tag : List Byte) : Bool :=
  tagOk tag && (readClassOrNone cls.toNat).isSome && chargeOk kind charge && foamOk kind foam

/-- Whether a type code is a request type (R176, 11.3). -/
def isRequestType (type : Byte) : Bool := decide (1 ≤ type.toNat) && decide (type.toNat ≤ 8)

/-! ### Samples and records -/

/-- The sample a transducer's signal gives (R170). -/
def sampleOf : Signal → Sample
  | .belowLiveZero => .sensorFault
  | .hpa n => if n ≤ 9999 then .good n else .overRange

/-- The pressure every block takes a sample for: over-range stands as 9999, a sensor fault and an absent sample have
none (R170). -/
def Sample.pressure : Sample → Option Nat
  | .good n => some n
  | .overRange => some 9999
  | .sensorFault => none
  | .absent => none

/-- A reading with the over-range mark is 65535, whatever its field holds (R35, R200). -/
def readingValue (overMark : Bool) (value : Word16) : Word16 := if overMark then 65535 else value

/-- A classify reading above 1000 is taken as 1000 (R61). -/
def perMille (w : Word16) : Nat := min 1000 w.toNat

end Sys2Proof.Machine
end

