-- ==== Sys2Proof/WellFormed.lean ====
section
/-! DEFINITION. Which commands can stand for an event of their row: an image of 128 bytes, a request whose length the
message form allows, a type that is no request's, and frames whose fields are defined (a frame with an undefined field
is FRAME_DROPPED, R100). -/

namespace Sys2Proof

open Machine

/-- A command that is well formed. Machine.exec does not ask for it: on the other commands it does what the rules say of
such a message. -/
def Instr.wellFormed : Instr → Bool
  | .loadingFinishes (.bytes image) _ => decide (image.length = 128)
  | .openCase _ _ charge foam tag => decide (openCaseLength charge foam tag ≤ 40)
  | .unknownRequest type => !isRequestType type
  | .beacon _ payload => (readBeacon payload).isSome
  | .intent _ purpose cls key => (readIntent purpose cls key).isSome
  | .flowOn _ cls serial => (readFlowOn cls serial).isSome
  | .flowOff _ cls => (readFlowOff cls).isSome
  | .purgeStart _ cls serial => (readPurgeStart cls serial).isSome
  | .purgeDone _ cls serial => (readPurgeDone cls serial).isSome
  | .hold _ cls reason => (readHold cls reason).isSome
  | .pause _ cause => (readPause cause).isSome
  | .alarm _ cls seconds => (readAlarm cls seconds).isSome
  | .loadingFinishes .noAck _ => true
  | .reset => true
  | .abandonCase _ => true
  | .takeReport => true
  | .portStatus _ => true
  | .stationStatus => true
  | .clearReceiver _ => true
  | .pauseLine => true
  | .resumeLine => true
  | .malformed => true
  | .lengthAbove40 => true
  | .operatorGapExpiry => true
  | .operatorLinkQuiet => true
  | .operatorTxDone => true
  | .resume _ => true
  | .clashFrame => true
  | .frameDropped _ => true
  | .frameTruncated _ => true
  | .transmitStart => true
  | .frameSent => true
  | .collision => true
  | .listenInEnd => true
  | .clashTimerExpiry => true
  | .beaconTimerExpiry => true
  | .peerStale _ => true
  | .estopAssert => true
  | .estopDeassert => true
  | .estopRepeatExpiry => true
  | .inhibitTimerExpiry => true
  | .debounceChange _ => true
  | .clampAssert _ => true
  | .clampDeassert _ => true
  | .confirmEdge _ _ => true
  | .releaseReqAssert _ => true
  | .releaseReqDeassert _ => true
  | .readbackAssert _ => true
  | .readbackDeassert _ => true
  | .portSample _ _ => true
  | .headerSample _ => true
  | .connectTimeout _ => true
  | .settleExpiry _ => true
  | .classifyWaitExpiry _ => true
  | .dwellExpiry _ => true
  | .holdTimerExpiry _ => true
  | .reading _ _ _ => true
  | .faultMarkedRecord _ => true
  | .silenceExpiry _ => true
  | .stallTimerExpiry _ => true
  | .ready => true
  | .result _ _ => true
  | .sampleTimerExpiry => true
  | .sniffTimerExpiry => true
  | .resultTimeout => true
  | .sniffWarning => true
  | .sniffDue => true
  | .leakRecentExpiry => true
  | .flowWindowExpiry => true
  | .purgeWindowExpiry => true
  | .drainExpiry => true
  | .purgeExpiry => true
  | .backoffExpiry => true
  | .overpressureRepeat => true
  | .conflictRepeatExpiry => true
  | .holdRunsOut _ => true
  | .recordDiscarded _ _ => true
  | .recordLinkQuiet _ => true

end Sys2Proof
end

