-- ==== Sys2Proof/Machine/LineFramer.lean ====
section
/-! DEFINITION. The receive framer of the station line (R99 to R101): which command a run of bytes is, and what a collision
leaves in the framer of the frame the station drove. -/

namespace Sys2Proof.Machine

/-! ### Bytes as commands -/

/-- The defect found at the length byte (R100), in the order of the table. -/
def lengthDefect (sourceKind len : Byte) : Option FrameDefect :=
  if 12 < len.toNat then some .lengthAbove12
  else
    match kindLength (sourceKind.toNat % 16) with
    | none => some .unknownKind
    | some n => if len.toNat = n then none else some .wrongLength

/-- The command of a frame's kind and payload, where the payload has the kind's length (11.2). -/
def frameInstr (src : Address) (kind : Nat) (payload : List Byte) : Option Instr :=
  match kind, payload with
  | 1, [d, c, k, v, n, f, i1, i0, b, u] => some (.beacon src ⟨d, c, k, v, n, f, i1 ++ i0, b, u⟩)
  | 2, [u, c, k] => some (.intent src u c k)
  | 3, [c, n] => some (.flowOn src c n)
  | 4, [c] => some (.flowOff src c)
  | 5, [c, n] => some (.purgeStart src c n)
  | 6, [c, n] => some (.purgeDone src c n)
  | 7, [c, r] => some (.hold src c r)
  | 8, [c] => some (.pause src c)
  | 9, [] => some (.resume src)
  | 10, [c, h1, h0] => some (.alarm src c (h1 ++ h0))
  | _, _ => none

/-- The fields of a frame command hold defined values (R198). -/
def fieldsDefined (i : Instr) : Bool := i.wellFormed

/-- A complete frame (R100, R101): a check mismatch is not examined for its fields, and a valid frame with the station's own
address is a clash. -/
def frameCommand (own : Address) (sourceKind len : Byte) (payload check : List Byte) : Instr :=
  if check ≠ checkBytes (sourceKind :: len :: payload) then .frameDropped .badCheck
  else
    match frameInstr (Fin.ofNat 16 (sourceKind.toNat / 16)) (sourceKind.toNat % 16) payload with
    | none => .frameDropped .wrongLength
    | some i =>
      if fieldsDefined i = false then .frameDropped .badField
      else if sourceKind.toNat / 16 = own.val then .clashFrame
      else i

/-- One byte at the line's framer, no gap before it (R99): the framer it leaves, and the command that is complete with it. -/
def LineFramer.take (own : Address) (b : Byte) : LineFramer → LineFramer × Option Instr
  | .hunting => (if b = startByte then .inFrame [] else .hunting, none)
  | .skipping => (.skipping, none)
  | .inFrame bytes =>
    match bytes ++ [b] with
    | [sourceKind, len] =>
      match lengthDefect sourceKind len with
      | some d => (.skipping, some (.frameDropped d))
      | none => (.inFrame [sourceKind, len], none)
    | sourceKind :: len :: rest =>
      if rest.length = len.toNat + 2 then
        let c := frameCommand own sourceKind len (rest.take len.toNat) (rest.drop len.toNat)
        match c with
        | .frameDropped _ => (.skipping, some c)
        | _ => (.hunting, some c)
      else (.inFrame (sourceKind :: len :: rest), none)
    | l => (.inFrame l, none)

/-- A run of bytes with no gap in it, from a framer: the commands it completes, in order. -/
def LineFramer.run (own : Address) (f : LineFramer) : List Byte → List Instr
  | [] => []
  | b :: rest =>
    match f.take own b with
    | (g, some i) => i :: g.run own rest
    | (g, none) => g.run own rest

/-- The framer after a gap of more than two byte times, at the byte that comes next (R99). -/
def framerAfterGap (next : Byte) : LineFramer := if next = startByte then .inFrame [] else .hunting

/-! ### The line interface takes bytes -/

def LineIf.setFramer (f : LineFramer) (l : LineIf) : LineIf := { l with framer := f }

/-- A frame is dropped: `rx_errors` counts, and the framer skips (R100). -/
def LineIf.dropFrame (l : LineIf) : LineIf := { l with rxErrors := satAdd 65535 l.rxErrors 1, framer := .skipping }

/-- One byte with no gap before it, as far as it can go in a frame that no peer completes (R99, R100). -/
def LineIf.takeByte (own : Address) (l : LineIf) (b : Byte) : LineIf :=
  match l.framer.take own b with
  | (_, some (.frameDropped _)) => l.dropFrame
  | (f, _) => l.setFramer f

/-- What a collision leaves on the line of the frame the station drove (R103): the bytes that came back as driven, and the one
that came back as another, if any did. At which byte the collision falls and what comes back is a free value (log 13). -/
def collisionRemainder (driven : List Byte) (echo : Nat × Option Byte) : List Byte :=
  let n := echo.1 % driven.length
  driven.take n ++ (echo.2.filter fun b => decide (driven[n]? ≠ some b)).toList

/-- The framer takes the truncated remainder of the station's own frame as any receiver does (R99): the gap before its first
byte has ended a frame or a skip, and with no byte there is no gap yet. -/
def LineIf.takeRemainder (own : Address) (bytes : List Byte) (l : LineIf) : LineIf :=
  match bytes with
  | [] => l
  | b :: rest => (b :: rest).foldl (LineIf.takeByte own) (l.setFramer .hunting)

end Sys2Proof.Machine
end

