-- ==== Sys2Proof/Machine/Inputs.lean ====
section
/-! DEFINITION. The fifteen input lines (08): their numbers, their polarities, what each line shows, the filter time of a
change, and the edge commands of their latches. -/

namespace Sys2Proof.Machine

/-! ### The lines by number (11.4, 11.6) -/

/-- The number of a line in the FIELD part and in the polarity field (11.4, 11.6). -/
def lineNumber : InputLine → Nat
  | .clamp p => 3 * p.num
  | .confirm p => 3 * p.num + 1
  | .release p => 3 * p.num + 2
  | .estop => 12
  | .selH => 13
  | .selK => 14

/-- The fifteen input lines in the order of their numbers. -/
def allLines : List InputLine :=
  (PortId.all.flatMap fun p => [.clamp p, .confirm p, .release p]) ++ [.estop, .selH, .selK]

def FieldUnit.input (x : FieldUnit) : InputLine → LineInput
  | .clamp p => x.clamp.get p
  | .confirm p => x.confirm.get p
  | .release p => x.release.get p
  | .estop => x.estop
  | .selH => x.selH
  | .selK => x.selK

def FieldUnit.setInput (l : InputLine) (i : LineInput) (x : FieldUnit) : FieldUnit :=
  match l with
  | .clamp p => { x with clamp := x.clamp.set p i }
  | .confirm p => { x with confirm := x.confirm.set p i }
  | .release p => { x with release := x.release.set p i }
  | .estop => { x with estop := i }
  | .selH => { x with selH := i }
  | .selK => { x with selK := i }

def State.setInput (l : InputLine) (i : LineInput) (s : State) : State := s.setField (s.field.setInput l i)

/-- An operation on each of the fifteen lines. -/
def FieldUnit.mapLines (f : InputLine → LineInput → LineInput) (x : FieldUnit) : FieldUnit :=
  let each (l : PortId → InputLine) (q : Quad LineInput) : Quad LineInput :=
    ⟨f (l .p0) q.at0, f (l .p1) q.at1, f (l .p2) q.at2, f (l .p3) q.at3⟩
  { x with
    clamp := each .clamp x.clamp, confirm := each .confirm x.confirm, release := each .release x.release,
    estop := f .estop x.estop, selH := f .selH x.selH, selK := f .selK x.selK }

/-- The readback input of a class. -/
def readbackLine : GasClass → InputLine
  | .halo => .selH
  | .hydro => .selK

/-! ### Polarity and the wired selector lines (R161, R166) -/

/-- The readbacks take nothing from the image: they are asserted when low (R161). -/
def fixedLow : InputLine → Bool
  | .selH => true
  | .selK => true
  | _ => false

/-- An electrical level through its line's polarity: a set polarity bit means asserted-low (11.6). -/
def levelOf (polarities : Word16) (l : InputLine) (high : Bool) : Bool :=
  let low := if fixedLow l then true else polarities.getLsbD (lineNumber l)
  if low then !high else high

/-- The level of a line at the end of loading, from the fifteen pins (R160). -/
def lineLevel (polarities : Word16) (pins : BitVec 15) (l : InputLine) : Bool :=
  levelOf polarities l (pins.getLsbD (lineNumber l))

/-- The electrical level of a line: a selector line is open-drain, and the station's own selector pulls it low as well as
any other station's (R166). -/
def State.wire (s : State) (l : InputLine) : Bool :=
  match l with
  | .selH => (s.field.input l).pin && !s.agent.selH
  | .selK => (s.field.input l).pin && !s.agent.selK
  | _ => (s.field.input l).pin

/-- What a line shows now, taken through its polarity (R161). -/
def State.lineNow (s : State) (l : InputLine) : Bool := levelOf s.cfg.polarities l (s.wire l)

/-- A line's filter time in ms (R161): the configured debounce, and 2 ms for the readbacks. -/
def State.filterMs (s : State) (l : InputLine) : Nat := if fixedLow l then Config.readbackMs else s.cfg.debounceMs

/-! ### Latches and levels (R160 to R164) -/

/-- A pending edge of the line. -/
def LineInput.isPending (i : LineInput) : Bool := i.assertLatch || i.deassertLatch

/-- The pending latch of an edge's kind. -/
def LineInput.latch (i : LineInput) (asserted : Bool) : Bool := if asserted then i.assertLatch else i.deassertLatch

/-- An edge sets the latch of its kind (R162). -/
def LineInput.setLatch (asserted : Bool) (i : LineInput) : LineInput :=
  { i with assertLatch := asserted, deassertLatch := !asserted }

def LineInput.clearLatches (i : LineInput) : LineInput := { i with assertLatch := false, deassertLatch := false }

/-- The level is asserted (R165, R166). -/
def LineInput.isAsserted (i : LineInput) : Bool :=
  match i.level with
  | some b => b
  | none => false

/-- The debounced level changes (R161): with a pause record it makes no edge (R163), with an edge pending it is held (R162). -/
def LineInput.change (i : LineInput) : LineInput :=
  match i.level with
  | none => i
  | some b =>
    if i.isPending then i
    else
      match i.pauseRec with
      | some _ => { i with level := some !b, filter := .stopped }
      | none => ({ i with level := some !b, filter := .stopped } : LineInput).setLatch !b

/-- The filter of a line that shows `now` (R161, R162): it runs while the line differs from its level with no edge pending,
from the start of the difference, and stops when the difference is gone. -/
def LineInput.watch (now : Bool) (ms : Nat) (i : LineInput) : LineInput :=
  match i.level with
  | none => { i with filter := .stopped }
  | some b =>
    if i.isPending = true ∨ b = now then { i with filter := .stopped }
    else if i.filter.isRunning then i
    else { i with filter := .running ms }

/-- Every line's filter follows what the line shows. The station's own selectors are among what the readbacks show (R166). -/
def State.watchLines (s : State) : State :=
  s.setField (s.field.mapLines fun l i => i.watch (s.lineNow l) (s.filterMs l))

/-- The command by which a line's owner takes an edge (R162). -/
def edgeCommand : InputLine → Bool → Instr
  | .clamp p, true => .clampAssert p
  | .clamp p, false => .clampDeassert p
  | .confirm p, b => .confirmEdge p b
  | .release p, true => .releaseReqAssert p
  | .release p, false => .releaseReqDeassert p
  | .estop, true => .estopAssert
  | .estop, false => .estopDeassert
  | .selH, true => .readbackAssert .halo
  | .selH, false => .readbackDeassert .halo
  | .selK, true => .readbackAssert .hydro
  | .selK, false => .readbackDeassert .hydro

end Sys2Proof.Machine
end

