-- ==== Sys2Proof/Machine/Flags.lean ====
section
/-! DEFINITION. The flags the station shows: the thirteen operator event flags and the EVENTS message (R183, 11.4), the
lamp (R168), and the end of every event, where these and the input filters are brought up to date. -/

namespace Sys2Proof.Machine

/-- The operator event kinds (09, 9.4), in the order of the EVENTS mask (11.4). -/
inductive EventKind where
  | caseReport
  | quarantine
  | leak
  | hydroAlarm
  | pause
  | resume
  | receiverFault
  | analyserFault
  | headerConflict
  | dischargeStall
  | lineTxLoss
  | addressClash
  | configWarning
  deriving DecidableEq, Repr

/-- The bit of a kind in the EVENTS mask. -/
def EventKind.bit : EventKind → Fin 13
  | .caseReport => 0
  | .quarantine => 1
  | .leak => 2
  | .hydroAlarm => 3
  | .pause => 4
  | .resume => 5
  | .receiverFault => 6
  | .analyserFault => 7
  | .headerConflict => 8
  | .dischargeStall => 9
  | .lineTxLoss => 10
  | .addressClash => 11
  | .configWarning => 12

def EventKind.mask (e : EventKind) : BitVec 13 := 1#13 <<< e.bit.val

/-- The pending flag of a kind. -/
def OperatorPort.flag (x : OperatorPort) (e : EventKind) : Bool := x.flags.getLsbD e.bit.val

/-- Raising an event sets the flag of its kind (R183). -/
def State.raise (e : EventKind) (s : State) : State := s.setOp { s.op with flags := s.op.flags ||| e.mask }

/-- The EVENTS message of a set of flags (11.4). -/
def eventsMessage (flags : BitVec 13) : Message := ⟨0x87, bytes16 flags.toNat⟩

/-- An EVENTS message starts in any event that leaves the transmitter IDLE with no refusal owed and a flag set; its flags
clear (R183). -/
def State.startEvents (s : State) : State :=
  match s.op.tx, s.op.owed with
  | .idle, none =>
    if s.op.flags = 0 then s
    else s.setOp { s.op with tx := .notifying (eventsMessage s.op.flags), flags := 0 }
  | _, _ => s

/-- A port in QUARANTINE. -/
def PortState.quarantined : PortState → Bool
  | .quarantine _ => true
  | _ => false

/-- LAMP's three conditions (R168). -/
def State.lampLit (s : State) : Bool :=
  s.ports.toList.any (fun x => x.state.quarantined) || s.ana.leakRecent || s.inhibited

/-- LAMP is recomputed (R168). -/
def State.updateLamp (s : State) : State := s.setField { s.field with lamp := s.lampLit }

/-- The end of an event: LAMP follows its conditions, the input filters follow their lines (R161, R166), and an EVENTS message
starts where one may. -/
def State.finish (s : State) : State := s.updateLamp.watchLines.startEvents

end Sys2Proof.Machine
end

