-- ==== Sys2Proof/Machine/Account.lean ====
section
/-! DEFINITION. A receiver's figures (02): content and fill band, the booking of a reading's delta into the mass account,
the apportionment of inflow among open ports, and the yield of a closing case. -/

namespace Sys2Proof.Machine

/-! ### Content and fill band -/

/-- The latest reading less the tare, or 0 below the tare and before the first good reading (R33). -/
def Receiver.content (g : ReceiverSet) (r : Receiver) : Nat := if r.first then r.latest.toNat - g.tare else 0

/-- The content in threshold comparisons and the fill band: with the over-range mark, not below F (R33). -/
def Receiver.level (g : ReceiverSet) (r : Receiver) : Nat :=
  if r.overMark then max (r.content g) g.full else r.content g

/-- Fill band: floor(content * 16 / F), clamped to 15; 0 in STARTING (R34). -/
def Receiver.band (g : ReceiverSet) (r : Receiver) : Nat :=
  match r.state with
  | .starting => 0
  | _ => min 15 (r.level g * 16 / g.full)

/-- The fill band of the station's receiver of a class. -/
def State.band (s : State) (c : GasClass) : Nat := (s.rcv c).band (s.cfg.rcvSet c)

/-- The content of the station's receiver of a class in threshold comparisons. -/
def State.level (s : State) (c : GasClass) : Nat := (s.rcv c).level (s.cfg.rcvSet c)

/-- The receiver of a class is ACCEPTING, which a port asks before it opens its valve (R5). -/
def State.accepting (s : State) (c : GasClass) : Bool :=
  match (s.rcv c).state with
  | .accepting => true
  | _ => false

def ReceiverState.isFault : ReceiverState → Bool
  | .fault _ => true
  | _ => false

/-- Whether R46's check raises the request: in ACCEPTING, FULL or DISCHARGING with the content at or above D_on. -/
def Receiver.wantsDischarge (g : ReceiverSet) (r : Receiver) : Bool :=
  match r.state with
  | .accepting => decide (g.dOn ≤ r.level g)
  | .full => decide (g.dOn ≤ r.level g)
  | .discharging => decide (g.dOn ≤ r.level g)
  | .starting => false
  | .fault _ => false

/-- ACCEPTING below F, FULL at or above it (R37, R51, R54). -/
def Receiver.restState (g : ReceiverSet) (r : Receiver) : ReceiverState :=
  if r.level g < g.full then .accepting else .full

/-! ### The open-port set (R5, R41) -/

/-- The port's valve to the receiver of a class is open. -/
def Port.valve (x : Port) : GasClass → Bool
  | .halo => x.valveH
  | .hydro => x.valveK

/-- The open-port set of a receiver: the ports whose valve to it is open, in port order. -/
def State.openPorts (s : State) (c : GasClass) : List PortId := PortId.all.filter fun p => (s.port p).valve c

/-! ### Apportionment (R41 to R43) -/

/-- What one open port weighs and receives of a delta. -/
structure Share where
  port : PortId
  weight : Nat
  deriving DecidableEq, Repr

/-- A port's weight: its latest sample in hPa, a sensor fault 0 (R41). For a port that never had a sample the manual gives
none, since none can be open: a free value (log 7). -/
def weightOf (free : Nat) : Sample → Nat
  | .good n => n
  | .overRange => 9999
  | .sensorFault => 0
  | .absent => (Config.freePressure free).val

/-- The weights of the open ports of a receiver. -/
def State.weights (s : State) (c : GasClass) : List Share :=
  (s.openPorts c).map fun p => ⟨p, weightOf (s.free + p.num) (s.field.samples.get p)⟩

/-- W, the sum of the weights. -/
def totalWeight (l : List Share) : Nat := (l.map Share.weight).sum

/-- floor(delta * w / W) -/
def floorShare (delta total : Nat) (x : Share) : Nat := delta * x.weight / total

/-- (delta * w) mod W -/
def remainderOf (delta total : Nat) (x : Share) : Nat := delta * x.weight % total

/-- L, the delta less the sum of the floor shares. -/
def leftover (delta : Nat) (l : List Share) : Nat := delta - (l.map (floorShare delta (totalWeight l))).sum

/-- `y` comes before `x` for a leftover gram: larger remainder, or an equal one and a lower port number (R42). -/
def goesBefore (delta total : Nat) (x y : Share) : Bool :=
  decide (remainderOf delta total x < remainderOf delta total y) ||
    (decide (remainderOf delta total x = remainderOf delta total y) && decide (y.port.num < x.port.num))

/-- How many ports come before `x` for a leftover gram. -/
def rankOf (delta : Nat) (l : List Share) (x : Share) : Nat :=
  (l.filter (goesBefore delta (totalWeight l) x)).length

/-- A port's final share: its floor share, and a gram more where it is among the L first by remainder (R42, R43). -/
def finalShare (delta : Nat) (l : List Share) (x : Share) : Nat :=
  floorShare delta (totalWeight l) x + (if rankOf delta l x < leftover delta l then 1 else 0)

/-! ### Booking (R38, R39, R40) -/

/-- The delta of a reading: the reading less `last`, from -65535 to 65535 (R38). -/
def Receiver.delta (r : Receiver) (value : Word16) : Int := (value.toNat : Int) - (r.last.toNat : Int)

/-- Which account figure a delta is booked to (R39). -/
inductive Booking where
  | attributed
  | unattributed
  | outflow
  | drift
  | nothing
  deriving DecidableEq, Repr

/-- R39's table; `shared` says that the open-port set holds a port and the total weight is above 0. A reading event finds no
receiver in STARTING (R37, R54), whose row books nothing; there the delta would go to drift, so that R40 stands. -/
def bookingOf (st : ReceiverState) (delta : Int) (shared : Bool) : Booking :=
  match st with
  | .accepting =>
    if 0 < delta then (if shared then .attributed else .unattributed) else if delta = 0 then .nothing else .drift
  | .full => if 0 < delta then .unattributed else if delta = 0 then .nothing else .drift
  | .discharging => if delta < 0 then .outflow else .drift
  | .fault _ => .drift
  | .starting => .drift

/-- The delta booked, in 32-bit arithmetic that wraps (R40); `outflow` takes its negation. -/
def Receiver.book (b : Booking) (delta : Int) (r : Receiver) : Receiver :=
  match b with
  | .attributed => { r with attributed := r.attributed + BitVec.ofInt 32 delta }
  | .unattributed => { r with unattributed := r.unattributed + BitVec.ofInt 32 delta }
  | .outflow => { r with outflow := r.outflow + BitVec.ofInt 32 (-delta) }
  | .drift => { r with drift := r.drift + BitVec.ofInt 32 delta }
  | .nothing => r

/-- A fall of more than N grams in ACCEPTING or FULL faults the receiver (R39). -/
def dropFault (g : ReceiverSet) (st : ReceiverState) (delta : Int) : Bool :=
  match st with
  | .accepting => decide (delta < -(g.noise : Int))
  | .full => decide (delta < -(g.noise : Int))
  | _ => false

/-- The latest reading, its mark and `last` follow the reading (R38). -/
def Receiver.record (value : Word16) (overMark : Bool) (r : Receiver) : Receiver :=
  { r with latest := value, overMark := overMark, last := value }

/-! ### Yield (R55, R56) -/

/-- The results whose cases have a yield. -/
def CaseResult.hasYield : CaseResult → Bool
  | .complete => true
  | .completeStalled => true
  | .residual => true
  | .quarantined => true
  | .empty => false
  | .abandoned => false
  | .abortedClamp => false
  | .abortedSensor => false
  | .notConnected => false

/-- R55: percent of the declared charge for a circuit, grams per kilogram for foam, clamped to 255. -/
def yieldOf (r : CaseRecord) (res : CaseResult) : Option Nat :=
  if res.hasYield then
    match r.kind with
    | .circuit => r.declaredCharge.map fun d => min 255 (r.massG * 100 / d)
    | .foam => r.foamMass.map fun d => min 255 (r.massG / d)
  else none

/-- LOW_YIELD: the yield is present and below the kind's threshold (R56). -/
def lowYieldOf (threshold : Nat) : Option Nat → Bool
  | some y => decide (y < threshold)
  | none => false

/-- The record's completion (R87), with the clock's whole seconds. -/
def CaseRecord.complete (threshold now : Nat) (res : CaseResult) (r : CaseRecord) : CaseRecord :=
  { r with
    result := some res
    closedS := some now
    yieldFig := yieldOf r res
    lowYield := lowYieldOf threshold (yieldOf r res) }

/-- A share reaches the case's mass, which saturates with MASS_SAT (R17). -/
def CaseRecord.addMass (share : Nat) (r : CaseRecord) : CaseRecord :=
  if 65535 < r.massG + share then { r with massG := 65535, massSat := true } else { r with massG := r.massG + share }

end Sys2Proof.Machine
end

