-- ==== Sys2Proof/Machine/LineOps.lean ====
section
/-! DEFINITION. The peer table (07, 7.1) and the transmit queue (05, 5.5): what the station knows of its peers, the BEACON it
composes, and what becomes of a frame a block offers. -/

namespace Sys2Proof.Machine

/-! ### Peer entries (R140 to R144) -/

/-- The position a stored frame states (R142). -/
def Frame.position : Frame → Option (DState × Option GasClass)
  | .beacon b => some (b.dstate, match b.dstate with | .idle => none | _ => b.cls)
  | .intent .flow c _ => some (.listenFlow, some c)
  | .intent .purge c _ => some (.listenPurge, some c)
  | .flowOn c _ => some (.flowing, some c)
  | .flowOff _ => some (.idle, none)
  | .purgeStart c _ => some (.purging, some c)
  | .purgeDone _ _ => some (.idle, none)
  | .hold _ _ => none
  | .pause _ => none
  | .resume => none
  | .alarm _ => none

/-- The last BEACON of an entry, where it is not void. -/
def Peer.liveBeacon (x : Peer) : Option Beacon := if x.beaconVoid then none else x.beacon

/-- The last discharge frame of an entry, where it is not void. -/
def Peer.liveDisch (x : Peer) : Option Frame := if x.dischVoid then none else x.disch

/-- The frame a position is taken from: the later of the two, ignoring any that is void (R142). -/
def Peer.source (x : Peer) : Option Frame :=
  match x.liveBeacon, x.liveDisch with
  | some b, some d => if x.beaconLater then some (.beacon b) else some d
  | some b, none => some (.beacon b)
  | none, d => d

/-- An entry's position; none is NONE (R142). -/
def Peer.position (x : Peer) : Option (DState × Option GasClass) := x.source.bind Frame.position

/-- An entry that is present and not stale. -/
def Peer.fresh (x : Peer) : Bool := x.present && !x.stale

/-- The class with which a fresh entry stands in the set of a position (R144). -/
def Peer.inSet (d : DState) (x : Peer) : Option GasClass :=
  match x.position with
  | some (e, some c) => if x.fresh && decide (e = d) then some c else none
  | _ => none

/-- The sixteen addresses. -/
def addresses : List Address := List.finRange 16

/-- The fresh peers in a position, with their classes, by address (R144). -/
def State.peersIn (d : DState) (s : State) : List (Address × GasClass) :=
  addresses.filterMap fun a => ((s.peer a).inSet d).map fun c => (a, c)

/-- The fresh peers of the flowing set. -/
def State.flowingPeers (s : State) : List (Address × GasClass) := s.peersIn .flowing

/-- The fresh peers of the waiting set. -/
def State.waitingPeers (s : State) : List (Address × GasClass) := s.peersIn .waiting

/-- A set's member of a class. -/
def hasClass (l : List (Address × GasClass)) (c : GasClass) : Bool := l.any fun m => decide (m.2 = c)

/-- A derived set with the station itself, whose own discharge state puts it there (R144). -/
def State.fullSet (d : DState) (s : State) : List (Address × GasClass) :=
  match s.agent.sought with
  | some c => if s.agent.dstate = d then (s.cfg.address, c) :: s.peersIn d else s.peersIn d
  | none => s.peersIn d

/-- Whether a frame is stored as an entry's last discharge frame (R141). -/
def Frame.isDischarge : Frame → Bool
  | .intent _ _ _ => true
  | .flowOn _ _ => true
  | .flowOff _ => true
  | .purgeStart _ _ => true
  | .purgeDone _ _ => true
  | .beacon _ => false
  | .hold _ _ => false
  | .pause _ => false
  | .resume => false
  | .alarm _ => false

/-- An accepted frame refreshes its source's entry and is stored where its kind is (R141, steps 1 and 2). -/
def Peer.take (now : Nat) (f : Frame) (x : Peer) : Peer :=
  let y := { x with present := true, lastHeard := now, stale := false, timer := .running Config.staleMs }
  match f with
  | .beacon b => { y with beacon := some b, beaconAt := now, beaconVoid := false, beaconLater := true }
  | _ =>
    if f.isDischarge then { y with disch := some f, dischAt := now, dischVoid := false, beaconLater := false } else y

/-- An entry goes stale: its stored frames become void, their contents kept (R143). -/
def Peer.goStale (x : Peer) : Peer :=
  { x with stale := true, timer := .stopped, beaconVoid := x.beacon.isSome, dischVoid := x.disch.isSome }

/-! ### The BEACON (R109) -/

/-- Whether the loader left any warning (R194). -/
def Warnings.any (w : Warnings) : Bool :=
  decide (0 < w.clamped) || w.truncatedCircuit || w.truncatedFoam || w.disabledCircuit || w.disabledFoam ||
    w.adjustedHalo || w.adjustedHydro || w.adjustedAnalyser

def AnalyserState.isFault : AnalyserState → Bool
  | .fault => true
  | _ => false

/-- The BEACON as composed from the present state of its owning blocks (R109); class and key are 0 in IDLE (R198). -/
def State.composeBeacon (s : State) : Beacon where
  dstate := s.agent.dstate
  cls := if s.agent.dstate = .idle then none else s.agent.sought
  key := if s.agent.dstate = .idle then 0 else s.agent.key
  viewClass := s.agent.viewClass
  viewSerial := s.agent.viewSerial
  paused := s.lc.paused
  inhibitS := s.inhibitSeconds
  bandH := s.band .halo
  bandK := s.band .hydro
  warned := s.loader.warnings.any
  analyserFault := s.ana.state.isFault
  haloFault := s.halo.state.isFault
  hydroFault := s.hydro.state.isFault

/-! ### The transmit queue (R104) -/

/-- What becomes of an offered frame at once. A loss for a full queue is told with LINE_TX_LOSS, one for address clash
without (R105). -/
inductive Fate where
  | taken
  | lostFull
  | lostClash
  deriving DecidableEq, Repr

def Frame.isBeacon : Frame → Bool
  | .beacon _ => true
  | _ => false

/-- The frames of the queue the transmitter is not SENDING (R104). -/
def LineIf.waitingPart (l : LineIf) : List QueuedFrame := if l.tx = .sending then l.queue.tail else l.queue

/-- The frame being driven, which is not waiting. -/
def LineIf.sendingPart (l : LineIf) : List QueuedFrame := if l.tx = .sending then l.queue.take 1 else []

/-- A waiting frame whose place a new one takes: a BEACON for a BEACON, a HOLD for a HOLD of the same class. -/
def replaces (new old : Frame) : Bool :=
  match new, old with
  | .beacon _, .beacon _ => true
  | .hold c _, .hold d _ => decide (c = d)
  | _, _ => false

/-- The new frame takes the place of the first frame it replaces, if there is one (R104, tests 2 and 3). Where a head that fell back
to RETRY and a newer one of its kind both wait, which of the two is replaced is open: DESIGN CHOICE, the first, and the other
stays (log 38). -/
def replaceIn (q : QueuedFrame) : List QueuedFrame → Option (List QueuedFrame)
  | [] => none
  | x :: rest => if replaces q.frame x.frame then some (q :: rest) else (replaceIn q rest).map (x :: ·)

/-- The list without its first BEACON, if it has one. -/
def dropBeacon : List QueuedFrame → Option (List QueuedFrame)
  | [] => none
  | x :: rest => if x.frame.isBeacon then some rest else (dropBeacon rest).map (x :: ·)

/-- A frame at the head of an IDLE transmitter's queue sends it to DEFER (R102). -/
def LineIf.wake (l : LineIf) : LineIf :=
  if l.tx = .idle ∧ l.queue ≠ [] then { l with tx := .defer } else l

/-- The head BEACON was discarded for room: the new head has met no collision, so the count is 0 and a RETRY falls back
to DEFER (DESIGN CHOICE, log 10). -/
def LineIf.headDropped (l : LineIf) : LineIf :=
  { l with headCount := 0, tx := if l.tx = .retry then .defer else l.tx }

/-- The head of the queue is a waiting BEACON. -/
def LineIf.headIsBeacon (l : LineIf) : Bool :=
  match l.waitingPart, l.sendingPart with
  | x :: _, [] => x.frame.isBeacon
  | _, _ => false

/-- A frame is offered (R104, tests 1 to 6 in order). -/
def LineIf.offer (q : QueuedFrame) (l : LineIf) : LineIf × Fate :=
  if l.clash then (l, .lostClash)
  else
    match replaceIn q l.waitingPart with
    | some w => ({ l with queue := l.sendingPart ++ w }, .taken)
    | none =>
      if l.queue.length < Config.frameRoom then (({ l with queue := l.queue ++ [q] } : LineIf).wake, .taken)
      else
        match dropBeacon l.waitingPart with
        | some w =>
          let l1 := if l.headIsBeacon then l.headDropped else l
          ({ l1 with queue := l.sendingPart ++ w ++ [q] }, .taken)
        | none => (l, .lostFull)

/-- A block offers a frame; a loss on a full queue raises LINE_TX_LOSS (R104, R105). In CONFIG_FAULT a frame is discarded
(test 1). -/
def State.offerEntry (f : Frame) (entry : Nat) (s : State) : State × Fate :=
  if s.loaded then
    let offered := s.line.offer ⟨f, entry⟩
    match offered.2 with
    | .lostFull => ((s.setLine offered.1).raise .lineTxLoss, .lostFull)
    | .taken => (s.setLine offered.1, .taken)
    | .lostClash => (s.setLine offered.1, .lostClash)
  else (s, .lostClash)

/-- A frame whose fate changes nothing in the block that offers it (R139). -/
def State.offer (f : Frame) (s : State) : State := (s.offerEntry f 0).1

/-- A BEACON is composed and offered (R109); its fate is told to nobody (R105). -/
def State.offerBeacon (s : State) : State := s.offer (.beacon s.composeBeacon)

end Sys2Proof.Machine
end

