-- ==== Sys2Proof/Machine/AnalyserOps.lean ====
section
/-! DEFINITION. The analyser scheduler (03): paths, the classify queue, the serving check, withdrawal, the start and the skip
of a sniff, and the two decisions on a result. -/

namespace Sys2Proof.Machine

/-! ### Periods (R70) -/

/-- The sweep period in ms; 0 is "sweep off". -/
def periodMs : Nat → Nat
  | 1 => 5000
  | 2 => 10000
  | 3 => 20000
  | 4 => 40000
  | 5 => 80000
  | 6 => 160000
  | 7 => 320000
  | _ => 0

def sweepPeriod (g : AnalyserSet) : Nat := periodMs g.periodCode

/-- The lead, in steps of 200 ms (R70). -/
def sweepLead (g : AnalyserSet) : Nat := g.leadCode * 200

/-! ### Paths (R59) -/

/-- A path opens in one event: AMODE takes the mode, then the one valve opens, and the sample timer starts. -/
def Analyser.openPath (p : PortId) (sniff : Bool) (ms : Nat) (a : Analyser) : Analyser :=
  { a with
    amodeSniff := sniff
    sampleV := if sniff then a.sampleV else a.sampleV.set p true
    sniffV := if sniff then a.sniffV.set p true else a.sniffV
    sampleT := .running ms }

/-- The path of port p closes, and the result window starts (R63, R65, R74). -/
def Analyser.closePath (p : PortId) (a : Analyser) : Analyser :=
  { a with
    sampleV := a.sampleV.set p false
    sniffV := a.sniffV.set p false
    sampleT := .stopped
    resultT := .running Config.resultMs }

/-! ### The classify queue (R62 to R64) -/

/-- The serving check's conditions (R64). -/
def State.mayServe (s : State) : Bool :=
  match s.ana.state with
  | .idle => !s.ana.warning && !s.lc.paused
  | _ => false

/-- The serving check (R64): the head entry leaves the queue and its sample starts. -/
def State.serve (s : State) : State :=
  if s.mayServe then
    match s.ana.queue with
    | [] => s
    | e :: rest =>
      s.setAna
        (({ s.ana with state := .classifying e.port .sample false, queue := rest } : Analyser).openPath e.port false
          (s.cfg.analyser.sampleS * 1000))
  else s

/-- A port puts itself at the tail (R9, R62), and the serving check is made. -/
def State.joinClassify (p : PortId) (s : State) : State :=
  (s.setAna { s.ana with queue := s.ana.queue ++ [⟨p, false⟩] }).serve

/-- A port withdraws its request (R63). -/
def Analyser.withdraw (p : PortId) (a : Analyser) : Analyser :=
  let b := { a with queue := a.queue.filter fun e => decide (e.port ≠ p) }
  match b.state with
  | .classifying q .sample _ =>
    if q = p then ({ b with state := .classifying q .result true } : Analyser).closePath p else b
  | .classifying q .result _ => if q = p then { b with state := .classifying q .result true } else b
  | _ => b

def State.withdraw (p : PortId) (s : State) : State := s.setAna (s.ana.withdraw p)

/-! ### Sniffs (R72, R73) -/

/-- A port whose state is neither UNUSED nor VACANT is a target (R73). -/
def PortState.busy : PortState → Bool
  | .unused => false
  | .vacant => false
  | _ => true

/-- A case is open in every state from OPENED to QUARANTINE (R73). -/
def PortState.active : PortState → Bool
  | .opened => true
  | .settle => true
  | .classify => true
  | .extract => true
  | .wait _ => true
  | .riseTest => true
  | .quarantine _ => true
  | .unused => false
  | .vacant => false
  | .closing => false
  | .unclamp => false

/-- The number of the open case at a port, absent where the port has none. -/
def Port.openCase (x : Port) : Option Nat := if x.state.active then x.slot.map CaseRecord.caseNo else none

/-- The ports after the pointer in sweep order, the pointer's own port last (R73). -/
def sweepOrder (p : PortId) : List PortId := [p.succ, p.succ.succ, p.succ.succ.succ, p]

/-- The target of a sniff (R73). -/
def State.sniffTarget (s : State) : Option PortId :=
  (sweepOrder s.ana.pointer).find? fun p => (s.port p).state.busy

/-- A skipped sniff: the warning drops, and the next due time is one period after this one (R72). -/
def Analyser.skipSniff (period : Nat) (a : Analyser) : Analyser :=
  { a with warning := false, pendingSniff := false, dueAt := a.dueAt.map (· + period) }

/-- The start of a due sniff in IDLE (R73), or its skip where no port is eligible, followed by the serving check (R72). -/
def State.startSniff (s : State) : State :=
  match s.sniffTarget with
  | some p =>
    s.setAna
      (({ s.ana with
          state := .sniffing p .sample (s.port p).openCase
          pointer := p
          warning := false
          pendingSniff := false
          dueAt := some (s.clock + (sweepPeriod s.cfg.analyser)) } : Analyser).openPath p true Config.sniffMs)
  | none => (s.setAna (s.ana.skipSniff (sweepPeriod s.cfg.analyser))).serve

/-- On entering IDLE the scheduler starts a pending sniff, and otherwise makes its serving check (R66, R68). -/
def State.analyserIdle (s : State) : State :=
  let t := s.setAna { s.ana with state := .idle }
  if t.ana.pendingSniff then t.startSniff else t.serve

/-! ### Judging a result (R67, R75) -/

/-- The classification decision (R67). -/
def classifyDecision (g : AnalyserSet) (halo hydro : Nat) : MeasuredClass :=
  if g.ti ≤ halo ∧ g.ti ≤ hydro then .mixed
  else if g.tp ≤ halo then .halo
  else if g.tp ≤ hydro then .hydro
  else .none

inductive SniffOutcome where
  | leak
  | trace
  | clean
  deriving DecidableEq, Repr

/-- The judgement of a sniff (R75). -/
def sniffJudgement (g : AnalyserSet) (halo hydro : Nat) : SniffOutcome :=
  if g.haloLeak ≤ halo ∨ g.hydroLeak ≤ hydro then .leak
  else if g.traceLimit ≤ halo ∨ g.traceLimit ≤ hydro then .trace
  else .clean

end Sys2Proof.Machine
end

