-- ==== Sys2Proof/Machine/PortOps.lean ====
section
/-! DEFINITION. The port controller (01): valves and timers, the way into EXTRACT or WAIT, the close of a case and its
record's way to the report queue, quarantine, and the port's reactions to receiver notices, pause, RESUME and inhibit. -/

namespace Sys2Proof

namespace Machine

/-! ### Valves and timers -/

def Port.closeValves (x : Port) : Port := { x with valveH := false, valveK := false }

/-- The port opens its valve to the receiver of a class, the other staying closed (R5). -/
def Port.openValve (c : GasClass) (x : Port) : Port :=
  match c with
  | .halo => { x with valveH := true, valveK := false }
  | .hydro => { x with valveH := false, valveK := true }

/-- Every timer of the port stops. -/
def Port.stopTimers (x : Port) : Port :=
  { x with dwell := .stopped, connect := .stopped, settle := .stopped, classifyWait := .stopped, hold := .stopped }

/-- Either receiver valve of the port is open. -/
def Port.valveOpen (x : Port) : Bool := x.valveH || x.valveK

/-- The receiver class of a measured class: MIXED and NONE have none (R47). -/
def MeasuredClass.gas : MeasuredClass → Option GasClass
  | .halo => some .halo
  | .hydro => some .hydro
  | .mixed => Option.none
  | .none => Option.none

/-- The receiver class of the case at the port. -/
def Port.gas (x : Port) : Option GasClass := x.slot.bind fun r => r.measured.bind fun m => m.cls.gas

/-- The parameter set of the case's kind. -/
def State.portSet (s : State) (x : Port) : KindSet :=
  match x.slot with
  | some r => s.cfg.kindSet r.kind
  | none => blankKindSet

end Machine

/-- The number of steps of a profile. -/
def KindSet.stepCount (g : KindSet) : Nat := g.steps.length

/-- The target of step i, 1 to n (R2). -/
def KindSet.target (g : KindSet) (i : Nat) : Option Nat := (g.steps[i - 1]?).map Step.target

/-- The full dwell of step i in ms. -/
def KindSet.dwellMs (g : KindSet) (i : Nat) : Nat := ((g.steps[i - 1]?).map Step.dwellS).getD 0 * 1000

namespace Machine

/-- A change of the record in the slot. -/
def Port.mapSlot (f : CaseRecord → CaseRecord) (x : Port) : Port := { x with slot := x.slot.map f }

/-- A change of one port. -/
def State.modPort (p : PortId) (f : Port → Port) (s : State) : State := s.setPort p (f (s.port p))

/-! ### Into EXTRACT or WAIT (R10, R12, R16, R19, R27) -/

/-- Step k with its full dwell, not yet running. -/
def Port.startStep (g : KindSet) (k : Nat) (x : Port) : Port := { x with k := some k, dwell := .frozen (g.dwellMs k) }

/-- The port waits with its valve closed and its dwell kept (R15, R16). -/
def Port.toWait (r : WaitReason) (x : Port) : Port :=
  { x.closeValves with state := .wait r, dwell := x.dwell.freeze }

/-- The port extracts: in RUN its valve opens and the dwell runs; while PAUSED the valve stays closed and the dwell
frozen (R12). -/
def Port.toExtract (paused : Bool) (c : GasClass) (x : Port) : Port :=
  if paused then { x.closeValves with state := .extract, dwell := x.dwell.freeze }
  else { x.openValve c with state := .extract, dwell := x.dwell.thaw }

/-- The three tests of R10, in their order. -/
def State.route (p : PortId) (s : State) : State :=
  match (s.port p).gas with
  | none => s
  | some c =>
    if c = .hydro ∧ s.inhibited = true then s.modPort p (Port.toWait .inhibit)
    else if s.accepting c = false then s.modPort p (Port.toWait .receiver)
    else s.modPort p (Port.toExtract s.lc.paused c)

/-- The re-check of a port in WAIT: while PAUSED it stays (R16). -/
def State.recheck (p : PortId) (s : State) : State := if s.lc.paused then s else s.route p

/-! ### The close of a case (R29, R87, R88) -/

/-- Where a port goes once its record has left the slot (R29, R30). -/
def Port.afterClose (x : Port) : PortState := if x.clamp then .unclamp else .vacant

/-- A complete record enters the report queue at its tail and leaves the slot, with CASE_REPORT (R88, R91). -/
def State.enqueueRecord (p : PortId) (r : CaseRecord) (s : State) : State :=
  ((s.setStore { s.store with queue := s.store.queue ++ [r] }).modPort p fun x =>
    { x with slot := none, state := x.afterClose }).raise .caseReport

/-- The close of the case at a port with a result: valves closed, timers stopped, any classify request withdrawn, k and
P_start dropped, the record completed and offered to the case store (R29, R87, R88). -/
def State.closeCase (p : PortId) (res : CaseResult) (s : State) : State :=
  let x := s.port p
  match x.slot with
  | none => s
  | some r =>
    let t := if x.state = .classify then s.withdraw p else s
    let done := r.complete (s.cfg.kindSet r.kind).lowYield s.seconds res
    let u := t.setPort p { x.closeValves.stopTimers with k := none, pStart := none, slot := some done, state := .closing }
    if s.store.queue.length < Config.reportRoom then u.enqueueRecord p done else u

/-- A port enters QUARANTINE (R20); one that was in CLASSIFY withdraws its request (R9). -/
def State.quarantine (p : PortId) (q : QReason) (s : State) : State :=
  let x := s.port p
  let t := if x.state = .classify then s.withdraw p else s
  (t.setPort p
    { (x.closeValves.stopTimers.mapSlot fun r => { r with qReason := some q }) with
      k := none, pStart := none, state := .quarantine q }).raise .quarantine

/-! ### Connection, settle, classify (R6 to R9) -/

/-- The connection test of R7: with CLAMP and CONFIRM both asserted the port goes to SETTLE. -/
def State.tryConnect (p : PortId) (s : State) : State :=
  let x := s.port p
  if x.clamp = true ∧ x.confirm = true then
    s.setPort p
      { x with state := .settle, connect := .stopped, settle := .running ((s.portSet x).settleTenths * 100) }
  else s

/-- Entry to CLASSIFY (R9). -/
def State.toClassify (p : PortId) (s : State) : State :=
  (s.modPort p fun x =>
    { x with state := .classify, classifyWait := .running (s.cfg.analyser.classifyWaitS * 1000) }).joinClassify p

/-- Entry to RISE_TEST with the valve closed (R18). -/
def State.toRiseTest (p : PortId) (s : State) : State :=
  s.modPort p fun x =>
    { x.closeValves with
      state := .riseTest, dwell := x.dwell.freeze, hold := .running ((s.portSet x).holdS * 1000), pStart := none }

/-! ### Steps (R13) -/

/-- The last step completed by a sample, from step k on: every remaining step whose target the sample is at or below; k - 1
where it completes none (R13). -/
def completedTo (g : KindSet) (hpa : Nat) : (fuel k : Nat) → Nat
  | 0, k => k - 1
  | fuel + 1, k =>
    match g.target k with
    | some t => if hpa ≤ t then completedTo g hpa fuel (k + 1) else k - 1
    | none => k - 1

/-- A good sample at a port in EXTRACT whose valve is open (R13). A sample that completes step n and steps before it leaves k at
the step it found: R2 and R13 move k only while steps remain (DESIGN CHOICE, log 34). -/
def State.takeStepSample (p : PortId) (hpa : Nat) (s : State) : State :=
  let x := s.port p
  let g := s.portSet x
  match x.k with
  | none => s
  | some k =>
    let m := completedTo g hpa g.steps.length k
    if m < k then s
    else
      let y := x.mapSlot fun r => { r with stepsDone := m }
      if m < g.steps.length then s.setPort p { y with k := some (m + 1), dwell := .running (g.dwellMs (m + 1)) }
      else (s.setPort p y).toRiseTest p

/-- R23's states: a sensor fault there aborts the case, as a CLAMP deassert does (R22). -/
def PortState.abortable : PortState → Bool
  | .settle => true
  | .classify => true
  | .extract => true
  | .wait _ => true
  | .riseTest => true
  | _ => false

/-- A port takes a pressure sample by its state (R171, R13, R18, R23). While PAUSED a rise test waits for its restart
(log 18). -/
def State.portTakesSample (p : PortId) (x : Sample) (s : State) : State :=
  match x.pressure with
  | none => if (s.port p).state.abortable then s.closeCase p .abortedSensor else s
  | some hpa =>
    match (s.port p).state with
    | .extract => if (s.port p).valveOpen then s.takeStepSample p hpa else s
    | .riseTest =>
      if (s.port p).pStart = none ∧ s.lc.paused = false then s.modPort p fun y => { y with pStart := some hpa } else s
    | _ => s

/-! ### Notices -/

/-- A receiver's notice at one port of its class (R15, R16, R47). -/
def State.portNotice (c : GasClass) (accepting : Bool) (p : PortId) (s : State) : State :=
  if (s.port p).gas = some c then
    match (s.port p).state with
    | .extract => if accepting then s else s.modPort p (Port.toWait .receiver)
    | .wait _ => if accepting then s.recheck p else s
    | _ => s
  else s

/-- The receiver of a class tells its ports its present state (R47). -/
def State.tellPorts (c : GasClass) (s : State) : State :=
  s.eachPort (State.portNotice c (s.accepting c))

/-- A port at pause start (R26). -/
def Port.pauseStart (x : Port) : Port :=
  match x.state with
  | .opened => { x with connect := x.connect.freeze }
  | .settle => { x with settle := .stopped }
  | .classify => { x with classifyWait := x.classifyWait.freeze }
  | .extract => { x.closeValves with dwell := x.dwell.freeze }
  | .riseTest => { x with hold := .stopped, pStart := none }
  | .unused => x
  | .vacant => x
  | .wait _ => x
  | .quarantine _ => x
  | .closing => x
  | .unclamp => x

/-- A port at RESUME (R27). -/
def State.portResume (p : PortId) (s : State) : State :=
  let x := s.port p
  match x.state with
  | .opened => (s.setPort p { x with connect := x.connect.thaw }).tryConnect p
  | .settle => s.setPort p { x with settle := .running ((s.portSet x).settleTenths * 100) }
  | .classify => s.setPort p { x with classifyWait := x.classifyWait.thaw }
  | .extract => s.route p
  | .wait _ => s.recheck p
  | .riseTest => s.setPort p { x with hold := .running ((s.portSet x).holdS * 1000), pStart := none }
  | .unused => s
  | .vacant => s
  | .quarantine _ => s
  | .closing => s
  | .unclamp => s

/-- A port at the start of hydrocarbon inhibit (R15, R28). -/
def Port.inhibitStart (x : Port) : Port :=
  match x.state with
  | .extract => if x.gas = some .hydro then x.toWait .inhibit else x
  | _ => x

/-- A port at the end of hydrocarbon inhibit (R28). -/
def State.portInhibitEnd (p : PortId) (s : State) : State :=
  match (s.port p).state with
  | .wait _ => s.recheck p
  | _ => s

/-- A sniff's outcome at a port whose noted case is open (R21, R24). -/
def State.portSniff (p : PortId) (o : SniffOutcome) (s : State) : State :=
  let counted := s.modPort p (Port.mapSlot fun r => { r with traceHits := satAdd 255 r.traceHits 1 })
  match o with
  | .clean => s
  | .trace => counted
  | .leak => if (s.port p).state.quarantined then counted else counted.quarantine p .leak

/-- A share of a reading's gain reaches a port (R17, R43). -/
def State.deliverShare (delta : Nat) (l : List Share) (x : Share) (s : State) : State :=
  s.modPort x.port (Port.mapSlot (CaseRecord.addMass (finalShare delta l x)))

end Machine

end Sys2Proof
end

