-- ==== Sys2Proof/Machine/ReceiverOps.lean ====
section
/-! DEFINITION. The receiver unit (02): the notices it takes from the header agent, its checks after a reading, and its
faults, as far as the receiver and its ports are concerned. What it tells the agent is in AgentOps and Scale. -/

namespace Sys2Proof.Machine

/-- A change of one receiver. -/
def State.modRcv (c : GasClass) (f : Receiver → Receiver) (s : State) : State := s.setRcv c (f (s.rcv c))

/-- R46's check of the discharge request. -/
def Receiver.checkRequest (g : ReceiverSet) (r : Receiver) : Receiver := { r with request := r.wantsDischarge g }

/-- The stall timer stops and the flow's figures are dropped (R51, R52). -/
def Receiver.dropFlow (r : Receiver) : Receiver :=
  { r with stall := .stopped, lowest := none, doneSent := false, stallSent := false }

/-- Whether the done notice is due: content at or below D_off (R49). -/
def Receiver.atDone (g : ReceiverSet) (r : Receiver) : Bool := decide (r.level g ≤ g.dOff)

/-- The receiver enters DISCHARGING (R48): the lowest content is the present content of R33, for which F stands in comparisons
only; the stall timer starts, and where the content is already at or below D_off the done notice is sent, which stops the
timer (R49). -/
def Receiver.startFlow (g : ReceiverSet) (stallMs : Nat) (r : Receiver) : Receiver :=
  { r with
    state := .discharging
    lowest := some (r.content g)
    stall := if r.atDone g then .stopped else .running stallMs
    doneSent := r.atDone g
    stallSent := false }

/-- How a receiver answers the flow-start notice (R48). -/
inductive FlowAnswer where
  | flowing (done : Bool)
  | faultNotice
  deriving DecidableEq, Repr

/-- The flow-start notice (R48): the receiver goes to DISCHARGING and its ports close their valves, or it answers with a
fault notice; one already DISCHARGING ignores it. -/
def State.receiverFlowStart (c : GasClass) (s : State) : State × FlowAnswer :=
  let r := s.rcv c
  let g := s.cfg.rcvSet c
  match r.state with
  | .starting => (s, .faultNotice)
  | .fault _ => (s, .faultNotice)
  | .discharging => (s, .flowing false)
  | .accepting =>
    ((s.setRcv c (r.startFlow g (s.cfg.header.stallS * 1000))).tellPorts c, .flowing (r.atDone g))
  | .full =>
    ((s.setRcv c (r.startFlow g (s.cfg.header.stallS * 1000))).tellPorts c, .flowing (r.atDone g))

/-- The flow-end notice (R51). The agent takes the change of the request as that of a flow that ends: it looks at the
request in its next state. -/
def State.receiverFlowEnd (c : GasClass) (s : State) : State :=
  let r := s.rcv c
  let g := s.cfg.rcvSet c
  match r.state with
  | .discharging => (s.setRcv c (({ r.dropFlow with state := r.restState g } : Receiver).checkRequest g)).tellPorts c
  | _ => s

/-- The receiver's own part of entering FAULT (R52). -/
def Receiver.enterFault (cause : ReceiverCause) (r : Receiver) : Receiver :=
  { r.dropFlow with state := .fault cause, request := false }

/-- The checks of a reading event in DISCHARGING after booking (R49): a new lowest content restarts the stall timer, and the
first content at or below D_off sends the done notice and stops it. -/
def Receiver.flowChecks (g : ReceiverSet) (stallMs : Nat) (r : Receiver) : Receiver :=
  let fell : Bool := match r.lowest with | some l => decide (r.level g < l) | none => true
  let r1 := if fell then { r with lowest := some (r.level g), stall := .running stallMs } else r
  if r.atDone g && !r.doneSent then { r1 with doneSent := true, stall := .stopped } else r1

/-- The state after the threshold checks of a reading event (R45). -/
def Receiver.thresholdState (g : ReceiverSet) (r : Receiver) : ReceiverState :=
  match r.state with
  | .accepting => if g.full ≤ r.level g then .full else .accepting
  | .full => if r.level g < g.dOn then .accepting else .full
  | st => st

/-- The threshold checks of a reading event, all of them (R38, step 4). -/
def Receiver.checks (g : ReceiverSet) (stallMs : Nat) (r : Receiver) : Receiver :=
  let r1 :=
    match r.state with
    | .discharging => r.flowChecks g stallMs
    | _ => { r with state := r.thresholdState g }
  r1.checkRequest g

end Sys2Proof.Machine
end

