-- ==== Sys2Proof/Machine/AgentOps.lean ====
section
/-! DEFINITION. The header agent (06): view and serial, holds, the discharge states and every way between them, the start and
the end of a flow, the purge and its abort. -/

namespace Sys2Proof.Machine

/-! ### View, keys, holds -/

/-- A serial s is newer than v when (s - v) mod 256 lies between 1 and 127 (R112). -/
def newer (s v : Byte) : Bool := decide (1 ≤ (s - v).toNat) && decide ((s - v).toNat ≤ 127)

/-- Key A beats key B: higher band, or equal bands and lower address (R120). -/
def beats (bandA addrA bandB addrB : Nat) : Bool :=
  decide (bandB < bandA) || (decide (bandA = bandB) && decide (addrA < addrB))

/-- The frame's class and serial taken into the view (R113). -/
def Agent.adopt (c : Option GasClass) (serial : Byte) (a : Agent) : Agent :=
  if newer serial a.viewSerial then { a with viewClass := c, viewSerial := serial, owner := none }
  else
    match c, a.viewClass with
    | some x, some y => if serial = a.viewSerial ∧ x ≠ y then { a with viewClass := none } else a
    | _, _ => a

/-- The frame would change the view under R113. -/
def Agent.wouldAdopt (c : Option GasClass) (serial : Byte) (a : Agent) : Bool :=
  newer serial a.viewSerial ||
    (match c, a.viewClass with
    | some x, some y => decide (serial = a.viewSerial) && decide (x ≠ y)
    | _, _ => false)

/-- The view's purge owner is dropped and the view class becomes UNKNOWN (R114). -/
def Agent.dropOwner (a : Agent) : Agent := { a with owner := none, viewClass := none }

/-- The held-until time of a class, as time left. -/
def Agent.heldT (a : Agent) : GasClass → Timer
  | .halo => a.heldH
  | .hydro => a.heldK

/-- Held against a class: its held-until time lies ahead, or a flag that holds both is up (R115). -/
def Agent.held (a : Agent) (c : GasClass) : Bool := (a.heldT c).isAhead || a.overpressure || a.headerFault

/-- A hold class bars a gas class. -/
def HoldClass.bars : HoldClass → GasClass → Bool
  | .all, _ => true
  | .halo, .halo => true
  | .hydro, .hydro => true
  | .halo, .hydro => false
  | .hydro, .halo => false

/-- Held-until times are set by a HOLD, received or offered (R115). -/
def Agent.setHold (h : HoldClass) (a : Agent) : Agent :=
  let a1 := if h.bars .halo then { a with heldH := .running Config.heldMs } else a
  if h.bars .hydro then { a1 with heldK := .running Config.heldMs } else a1

/-- The reason of the last HOLD heard is kept for each class it bars (R111, R115). -/
def Agent.recordReason (h : HoldClass) (reason : HoldReason) (a : Agent) : Agent :=
  let a1 := if h.bars .halo then { a with reasonH := some reason } else a
  if h.bars .hydro then { a1 with reasonK := some reason } else a1

/-- The agent offers a HOLD, which also sets its own held-until times (R115); the reason shown stays that of the last HOLD heard,
as no station hears its own frame (R97, R111, R139). What the hold does to its own state is for the caller. -/
def State.offerHoldOnly (h : HoldClass) (reason : HoldReason) (s : State) : State :=
  (s.setAgent (s.agent.setHold h)).offer (.hold h reason)

/-! ### Changes of the discharge state -/

/-- The agent takes a discharge state; the timers of the discharge states stop. The two repeat timers run on, those of a flag that
is up also where address clash stops the agent: R116 and R132 tie them to their flags (R137; DESIGN CHOICE, log 36). -/
def Agent.goTo (d : DState) (a : Agent) : Agent :=
  { a with dstate := d, window := .stopped, drain := .stopped, purge := .stopped, backoff := .stopped }

/-- The agent tells the line interface of a change of its discharge state, which offers a BEACON (R109; log 8). -/
def State.noticeChange (before : DState) (s : State) : State :=
  if s.agent.dstate = before then s else s.offerBeacon

/-- Entry to BACKOFF (R133): (100 + 10 * address) ms, ten times that after a stall. -/
def State.toBackoff (long : Bool) (s : State) : State :=
  let base := 100 + 10 * s.cfg.address.val
  (s.setAgent { s.agent.goTo .backoff with backoff := .running (if long then 10 * base else base) }).noticeChange
    s.agent.dstate

/-- Entry to LISTEN_FLOW or LISTEN_PURGE (R120, R124): an INTENT with the class sought and the fill band as key is offered;
lost at once, it sends the agent to BACKOFF. -/
def State.toListen (u : Purpose) (c : GasClass) (s : State) : State :=
  let d : DState := match u with | .flow => .listenFlow | .purge => .listenPurge
  let a : Agent :=
    { s.agent.goTo d with
      sought := some c, key := s.band c, contended := false, reserved := true, entry := s.agent.entry + 1 }
  let offered := (s.setAgent a).offerEntry (.intent u c a.key) a.entry
  let told := offered.1.noticeChange s.agent.dstate
  match offered.2 with
  | .taken => told
  | .lostFull => told.toBackoff false
  | .lostClash => told.toBackoff false

/-- A receiver is eligible (R119). -/
def State.eligible (s : State) (c : GasClass) : Bool :=
  (s.rcv c).request && !s.agent.held c && !(decide (c = .hydro) && s.inhibited)

/-- The receiver R119 chooses: with both eligible, that of the view class, or else the higher band, HALO on equal bands. -/
def State.chosen (s : State) : Option GasClass :=
  match s.eligible .halo, s.eligible .hydro with
  | true, true =>
    match s.agent.viewClass with
    | some v => some v
    | none => if s.band .halo < s.band .hydro then some .hydro else some .halo
  | true, false => some .halo
  | false, true => some .hydro
  | false, false => none

/-- R119's check: an agent in IDLE leaves it for LISTEN_FLOW. -/
def State.idleCheck (s : State) : State :=
  if s.agent.dstate = .idle ∧ s.lc.paused = false ∧ s.line.clash = false ∧ s.line.listenIn = false ∧ s.loaded = true then
    match s.chosen with
    | some c => s.toListen .flow c
    | none => s
  else s

/-- Arrival in IDLE: the class sought becomes absent, and R119's check is made. -/
def State.toIdle (s : State) : State :=
  ((s.setAgent { s.agent.goTo .idle with sought := none }).noticeChange s.agent.dstate).idleCheck

/-! ### The flow (R129, R130) -/

/-- Discharge valves closed and selectors released. -/
def Agent.shut (a : Agent) : Agent := { a with dischH := false, dischK := false, selH := false, selK := false }

/-- The discharge valve and the selector of one class, the other's closed and released (R129, R138). -/
def Agent.flowOut (c : GasClass) (a : Agent) : Agent :=
  match c with
  | .halo => { a with dischH := true, selH := true, dischK := false, selK := false }
  | .hydro => { a with dischH := false, selH := false, dischK := true, selK := true }

/-- Where a flow or a purge that ends leaves the agent. -/
inductive NextState where
  | idle
  | backoff
  | longBackoff
  deriving DecidableEq, Repr

def State.goNext (n : NextState) (s : State) : State :=
  match n with
  | .idle => s.toIdle
  | .backoff => s.toBackoff false
  | .longBackoff => s.toBackoff true

/-- The end of a flow (R130): valve and selector, the HOLD(ALL, CONFLICT) where the table puts one, the flow-end notice,
FLOW_OFF where it is offered, and the next state. -/
def State.endFlow (conflictHold sendOff : Bool) (n : NextState) (s : State) : State :=
  match s.agent.sought with
  | none => s
  | some c =>
    let s1 := s.setAgent s.agent.shut
    let s2 := if conflictHold then s1.offerHoldOnly .all .conflict else s1
    let s3 := s2.receiverFlowEnd c
    let s4 := if sendOff then s3.offer (.flowOff c) else s3
    s4.goNext n

/-- Entry to FLOWING (R129). A fault notice of the receiver stops it after step 1; a done notice sent in the flow-start is
taken once the flow has begun (log 11). -/
def State.startFlow (c : GasClass) (s : State) : State :=
  let started := s.receiverFlowStart c
  match started.2 with
  | .faultNotice => s.toIdle
  | .flowing done =>
    let s2 := started.1.setAgent ({ s.agent.goTo .flowing with sought := some c } : Agent).shut
    let s3 := s2.setAgent (s2.agent.flowOut c)
    let s4 := (s3.offer (.flowOn c s3.agent.viewSerial)).noticeChange s.agent.dstate
    if done then s4.endFlow false true .idle else s4

/-! ### The purge (R126 to R128) -/

/-- The abort of a purge (R127): PURGE closes, the view becomes UNKNOWN at the aborted serial with no owner, and then come
the HOLD(ALL, CONFLICT) and the PURGE_DONE(UNKNOWN) where the table has them. -/
def State.abortPurge (conflictHold sendDone : Bool) (n : NextState) (s : State) : State :=
  let s1 := s.setAgent
    { s.agent with purgeV := false, purge := .stopped, viewClass := none, viewSerial := s.agent.purgeSerial, owner := none }
  let s2 := if conflictHold then s1.offerHoldOnly .all .conflict else s1
  let s3 := if sendDone then s2.offer (.purgeDone none s.agent.purgeSerial) else s2
  s3.goNext n

/-- Entry to PURGING (R126); a PURGE_START lost at once aborts the purge. -/
def State.toPurging (s : State) : State :=
  match s.agent.sought with
  | none => s
  | some c =>
    let serial := s.agent.viewSerial + 1
    let a : Agent :=
      { (s.agent.goTo .purging).shut with
        purgeSerial := serial, purgeV := true, owner := some s.cfg.address, viewClass := none,
        purge := .running (s.cfg.header.purgeS * 1000) }
    let offered := (s.setAgent a).offerEntry (.purgeStart c serial) 0
    let told := offered.1.noticeChange s.agent.dstate
    match offered.2 with
    | .taken => told
    | .lostFull => told.abortPurge false true .backoff
    | .lostClash => told.abortPurge false true .backoff

/-! ### WAITING and DRAIN (R122, R123) -/

/-- Entry to WAITING. -/
def State.toWaiting (s : State) : State := (s.setAgent (s.agent.goTo .waiting)).noticeChange s.agent.dstate

/-- Entry to DRAIN: with a purge owner present the agent goes to WAITING in the same event, its drain not started
(R123). -/
def State.toDrain (s : State) : State :=
  match s.agent.owner with
  | some _ => s.toWaiting
  | none =>
    (s.setAgent { s.agent.goTo .drain with drain := .running (s.cfg.header.drainS * 1000) }).noticeChange s.agent.dstate

/-- No fresh peer flows the other class or waits for it (R121, R122). -/
def State.noOther (s : State) (c : GasClass) : Bool :=
  !hasClass s.flowingPeers c.other && !hasClass s.waitingPeers c.other

/-- The re-evaluation of WAITING (R122). -/
def State.reevaluate (s : State) : State :=
  match s.agent.sought with
  | none => s
  | some c =>
    if s.agent.viewClass = some c ∧ s.agent.held c = false ∧ s.noOther c = true then s.toListen .flow c
    else if s.agent.viewClass ≠ some c ∧ s.flowingPeers = [] ∧ s.agent.owner = none then s.toDrain
    else s

/-! ### Effects of holds (R118) -/

/-- The effect on the agent of a hold against the class sought, in the event that starts it (R118). -/
def State.holdEffect (h : HoldClass) (s : State) : State :=
  match s.agent.sought with
  | none => s
  | some c =>
    if h.bars c then
      match s.agent.dstate with
      | .listenPurge => s.setAgent { s.agent with reserved := false }
      | .purging => s.abortPurge false true .backoff
      | .flowing => s.endFlow false true .backoff
      | .idle => s
      | .listenFlow => s
      | .waiting => s
      | .drain => s
      | .backoff => s
    else s

/-- The agent offers a HOLD and takes its effect (R115, R118). -/
def State.offerHold (h : HoldClass) (reason : HoldReason) (s : State) : State :=
  (s.offerHoldOnly h reason).holdEffect h

/-- The end of a hold against both classes or against one: the agent in IDLE makes its check, and in WAITING, where the
class is the one sought, its re-evaluation (R118). -/
def State.holdEnd (h : HoldClass) (s : State) : State :=
  match s.agent.dstate with
  | .idle => s.idleCheck
  | .waiting =>
    match s.agent.sought with
    | some c => if h.bars c then s.reevaluate else s
    | none => s
  | _ => s

/-! ### Notices of the receivers (R130, R134) -/

/-- A change of a receiver's discharge request is told to the agent (R46): a rise is looked at in IDLE (R119), a fall of the
chosen receiver's ends the negotiation (R134). -/
def State.requestNotice (c : GasClass) (was : Bool) (s : State) : State :=
  if (s.rcv c).request = was then s
  else if (s.rcv c).request then s.idleCheck
  else if s.agent.sought = some c then
    match s.agent.dstate with
    | .listenFlow => s.toIdle
    | .waiting => s.toIdle
    | .drain => s.toIdle
    | .listenPurge => s.toIdle
    | .idle => s
    | .purging => s
    | .flowing => s
    | .backoff => s
  else s

/-- A done, stall or fault notice of a receiver ends the flow of its class; outside FLOWING it is ignored (R130, R134). -/
def State.flowNotice (c : GasClass) (n : NextState) (s : State) : State :=
  if s.agent.dstate = .flowing ∧ s.agent.sought = some c then s.endFlow false true n else s

/-! ### Changes of the view and of the sets -/

/-- The agent's states take a change of view, owner or sets (R122, R123, R130). `flowing` are the fresh flowing peers before
the event, `told` says that the view, the owner or a set changed. In DRAIN an event that adds a fresh flowing peer and makes
the view class the class sought leads to WAITING, the first that R123 names (DESIGN CHOICE, log 35). -/
def State.viewReaction (flowing : List (Address × GasClass)) (told : Bool) (s : State) : State :=
  match s.agent.dstate with
  | .waiting => if told then s.reevaluate else s
  | .drain =>
    if (s.flowingPeers.any fun m => decide (m ∉ flowing)) || s.agent.owner.isSome then s.toWaiting
    else
      match s.agent.sought with
      | some c => if s.agent.viewClass = some c then s.toListen .flow c else s
      | none => s
  | .flowing => if s.agent.viewClass = s.agent.sought then s else s.endFlow false true .backoff
  | .idle => s
  | .listenFlow => s
  | .listenPurge => s
  | .purging => s
  | .backoff => s

/-! ### Pause, inhibit, clash (R135 to R137) -/

/-- The agent stops what it does and goes to IDLE: a flow ends with FLOW_OFF and a purge aborts with PURGE_DONE(UNKNOWN)
where frames are offered at all. -/
def State.agentStop (frames : Bool) (s : State) : State :=
  match s.agent.dstate with
  | .idle => s
  | .flowing => s.endFlow false frames .idle
  | .purging => s.abortPurge false frames .idle
  | .listenFlow => s.toIdle
  | .waiting => s.toIdle
  | .drain => s.toIdle
  | .listenPurge => s.toIdle
  | .backoff => s.toIdle

/-- Hydrocarbon inhibit starts (R136): an agent that seeks HYDRO stops. An INTENT of it that is queued already stays, since R104
and R105 withdraw no frame (DESIGN CHOICE, log 37). -/
def State.agentInhibit (s : State) : State := if s.agent.sought = some .hydro then s.agentStop true else s

/-- Under inhibit a HYDRO frame is answered with HOLD(HYDRO, INHIBIT) (R136). -/
def State.inhibitAnswer (c : GasClass) (s : State) : State :=
  if c = .hydro ∧ s.inhibited = true then s.offerHold .hydro .inhibit else s

end Sys2Proof.Machine
end

