-- ==== Sys2Proof/Machine/ConditionOps.lean ====
section
/-! DEFINITION. Line conditions and the field unit's inputs (07, 08): entering and leaving PAUSED, the hydrocarbon inhibit,
what becomes of offered frames, and the edges of the input lines with their suspension and their resynthesis. -/

namespace Sys2Proof.Machine

/-! ### Input lines (R160 to R164) -/

/-- A port line at pause start (R163): a pending edge is discarded, and the record is the level the port last took. -/
def LineInput.pauseStart (i : LineInput) : LineInput :=
  { i.clearLatches with pauseRec := if i.isPending then i.level.map (fun b => !b) else i.level }

/-- A port line at RESUME (R164): a level that differs from its record makes one synthetic edge. -/
def LineInput.resume (i : LineInput) : LineInput :=
  match i.level, i.pauseRec with
  | some b, some r => if b = r then { i with pauseRec := none } else ({ i with pauseRec := none } : LineInput).setLatch b
  | _, _ => { i with pauseRec := none }

/-- An operation on each of the twelve port lines. -/
def FieldUnit.mapPortLines (f : LineInput → LineInput) (x : FieldUnit) : FieldUnit :=
  { x with clamp := x.clamp.map f, confirm := x.confirm.map f, release := x.release.map f }

/-- The owner takes a pending edge, whose latch clears (R162); without that edge pending there is nothing to take (log 3). -/
def State.takeEdge (l : InputLine) (asserted : Bool) (act : State → State) (s : State) : State :=
  if (s.field.input l).latch asserted then act (s.setInput l (s.field.input l).clearLatches) else s

/-! ### Frames of line conditions and their fate (R105, R154) -/

/-- Whether a PAUSE, RESUME or ALARM that was lost is still to be offered again, and as which frame (R154). An inhibit whose time
has passed is active no more (R155), its expiry taken or not, and no ALARM has a hold of 0 (R198). -/
def State.reofferOf (f : Frame) (s : State) : Option Frame :=
  match f with
  | .pause c => if s.lc.paused then some (.pause c) else none
  | .resume => if s.lc.paused then none else some .resume
  | .alarm _ => if s.lc.inhibit.isAhead then some (.alarm s.inhibitSeconds) else none
  | _ => none

/-- Line conditions offers a frame. One lost on a full queue is owed a further offer, made when the queue has room (R154,
log 9); one lost to address clash is not. -/
def State.lcOffer (f : Frame) (s : State) : State :=
  let offered := s.offerEntry f 0
  match offered.2 with
  | .lostFull => offered.1.setLc { s.lc with owed := s.lc.owed ++ [f] }
  | .taken => offered.1
  | .lostClash => offered.1

/-- A frame of line conditions was lost: it is offered again while its condition holds, and ignored during clash (R154). -/
def State.lcLost (f : Frame) (s : State) : State :=
  if s.line.clash then s
  else
    match s.reofferOf f with
    | some g => s.lcOffer g
    | none => s

/-- The owed frames are offered, the queue having room again (log 9). -/
def State.payOwed (s : State) : State := s.lc.owed.foldl (fun t f => t.lcLost f) (s.setLc { s.lc with owed := [] })

/-- The lost notice of a frame at its offering block (R105): an INTENT of the present entry sends the agent to BACKOFF
(R120, R124), the present purge's PURGE_START aborts it (R127), and line conditions offers its own again (R154). -/
def State.lostNotice (q : QueuedFrame) (s : State) : State :=
  match q.frame with
  | .intent u _ _ =>
    let here := match u with
      | .flow => decide (s.agent.dstate = .listenFlow)
      | .purge => decide (s.agent.dstate = .listenPurge)
    if here && decide (q.entry = s.agent.entry) then s.toBackoff false else s
  | .purgeStart _ serial =>
    if s.agent.dstate = .purging ∧ serial = s.agent.purgeSerial then s.abortPurge false true .backoff else s
  | .pause c => s.lcLost (.pause c)
  | .resume => s.lcLost .resume
  | .alarm n => s.lcLost (.alarm n)
  | .beacon _ => s
  | .flowOn _ _ => s
  | .flowOff _ => s
  | .purgeDone _ _ => s
  | .hold _ _ => s

/-- The sent notice of a frame at its offering block (R105): that of the INTENT of the present entry starts the window
(R120, R124). -/
def State.sentNotice (q : QueuedFrame) (s : State) : State :=
  match q.frame with
  | .intent u _ _ =>
    let here := match u with
      | .flow => decide (s.agent.dstate = .listenFlow)
      | .purge => decide (s.agent.dstate = .listenPurge)
    if here && decide (q.entry = s.agent.entry) then s.setAgent { s.agent with window := .running Config.windowMs } else s
  | _ => s

/-! ### The pause (R146 to R153) -/

/-- The cause joins the causes of the present pause. -/
def LineConditions.addCause (c : PauseCause) (x : LineConditions) : LineConditions :=
  match c with
  | .line => { x with causeLine := true }
  | .estop => { x with causeEstop := true }
  | .operator => { x with causeOperator := true }

/-- Every block takes the pause start, after the pause state has changed (R153): the ports (R26), the header agent (R135)
and the field unit (R163); the scheduler holds what it holds (R78). -/
def State.tellPause (s : State) : State :=
  let s1 := s.eachPort fun p => State.modPort p Port.pauseStart
  let s2 := s1.agentStop true
  s2.setField (s2.field.mapPortLines LineInput.pauseStart)

/-- Every block takes RESUME (R153): the ports (R27), the scheduler (R78), the header agent (R135), the field unit (R164). -/
def State.tellResume (s : State) : State :=
  let s1 := (s.eachPort State.portResume).serve.idleCheck
  s1.setField (s1.field.mapPortLines LineInput.resume)

/-- The station enters PAUSED with a cause, or the cause is added to a pause already running, which tells nobody (R153). -/
def State.enterPause (c : PauseCause) (s : State) : State :=
  if s.lc.paused then s.setLc (s.lc.addCause c)
  else ((s.setLc { s.lc.addCause c with paused := true }).raise .pause).tellPause

/-- The pause state becomes RUN and the causes are cleared (R150, R151). -/
def LineConditions.clearPause (x : LineConditions) : LineConditions :=
  { x with paused := false, causeLine := false, causeEstop := false, causeOperator := false }

/-- PAUSE(ESTOP) is offered, and the repeat timer starts or restarts (R148, R150). -/
def State.estopPause (s : State) : State :=
  (s.setLc { s.lc with estopRepeat := .running Config.estopRepeatMs }).lcOffer (.pause .estop)

/-! ### The hydrocarbon inhibit (R155 to R158) -/

/-- A hold is taken (R155): the inhibit-until time becomes the later of the two, and where the inhibit was not active it
starts and the ports, the agent and the field unit are told (R158). The field unit's lamp follows at the event's end. -/
def State.takeInhibit (seconds : Nat) (s : State) : State :=
  let t := s.setLc { s.lc with inhibit := .running (max s.lc.inhibit.left (seconds * 1000)) }
  if s.inhibited then t else (t.eachPort fun p => State.modPort p Port.inhibitStart).agentInhibit

/-- The inhibit ends (R158): the ports in WAIT make their re-check (R28), and the agent in IDLE its check (R119). -/
def State.endInhibit (s : State) : State :=
  ((s.setLc { s.lc with inhibit := .stopped }).eachPort State.portInhibitEnd).idleCheck

/-- A hydrocarbon LEAK of the station's own sweep (R157). -/
def State.hydroLeak (s : State) : State :=
  ((s.takeInhibit s.cfg.header.alarmS).lcOffer (.alarm s.cfg.header.alarmS)).raise .hydroAlarm

end Sys2Proof.Machine
end

