-- ==== Sys2Proof/Machine/Image.lean ====
section
/-! DEFINITION. The configuration image (10, 11.6): its checks (R188), the clamping of its fields (R190), the truncation of
profiles (R191), disabled kinds (R192), the order of thresholds (R193) and the warning record (R194). -/

namespace Sys2Proof.Machine

/-! ### Fields of the image map (11.6), each with its range (R190) -/

/-- A field: its first byte, its width in bytes, and its range. -/
structure ImageField where
  first : Nat
  width : Nat
  lo : Nat
  hi : Nat
  deriving DecidableEq, Repr

/-- A byte of the image. -/
def imageByte (b : List Byte) (i : Nat) : Nat := (b.getD i 0).toNat

/-- The value a field's bytes hold, high byte first. -/
def ImageField.raw (f : ImageField) (b : List Byte) : Nat :=
  if f.width = 1 then imageByte b f.first else imageByte b f.first * 256 + imageByte b (f.first + 1)

/-- The value clamped into its range (R190). -/
def ImageField.value (f : ImageField) (b : List Byte) : Nat := max f.lo (min f.hi (f.raw b))

/-- The field's bytes hold a value outside its range, which counts towards FIELD_CLAMPED (R190, R201). -/
def ImageField.clamped (f : ImageField) (b : List Byte) : Bool := decide (f.raw b ≠ f.value b)

def debounceField : ImageField := ⟨7, 1, 0, 255⟩
/-- The step count of the profile at `base`. -/
def countField (base : Nat) : ImageField := ⟨base, 1, 1, 6⟩
/-- Target and dwell of step i + 1 of the profile at `base`. -/
def targetField (base i : Nat) : ImageField := ⟨base + 1 + 3 * i, 2, 0, 9999⟩
def dwellField (base i : Nat) : ImageField := ⟨base + 3 + 3 * i, 1, 1, 255⟩
/-- The fields of the kind set at `base`. -/
def settleField (base : Nat) : ImageField := ⟨base, 1, 1, 255⟩
def connectField (base : Nat) : ImageField := ⟨base + 1, 1, 5, 255⟩
def holdField (base : Nat) : ImageField := ⟨base + 2, 1, 5, 255⟩
def riseField (base : Nat) : ImageField := ⟨base + 3, 2, 1, 999⟩
def recyclesField (base : Nat) : ImageField := ⟨base + 5, 1, 0, 7⟩
def emptyField (base : Nat) : ImageField := ⟨base + 6, 2, 1, 9999⟩
def lowYieldField (base : Nat) : ImageField := ⟨base + 8, 1, 0, 255⟩
/-- The analyser's fields. -/
def sampleField : ImageField := ⟨64, 1, 1, 10⟩
def tpField : ImageField := ⟨65, 2, 2, 1000⟩
def tiField : ImageField := ⟨67, 2, 1, 999⟩
def traceField : ImageField := ⟨69, 2, 1, 65535⟩
def haloLeakField : ImageField := ⟨71, 2, 1, 65535⟩
def hydroLeakField : ImageField := ⟨73, 2, 1, 65535⟩
def periodField : ImageField := ⟨75, 1, 0, 7⟩
def leadField : ImageField := ⟨76, 1, 0, 15⟩
def classifyWaitField : ImageField := ⟨77, 1, 10, 255⟩
/-- The fields of the receiver at `base`. -/
def tareField (base : Nat) : ImageField := ⟨base, 2, 0, 60000⟩
def fullField (base : Nat) : ImageField := ⟨base + 2, 2, 2, 60000⟩
def dOnField (base : Nat) : ImageField := ⟨base + 4, 2, 1, 59999⟩
def dOffField (base : Nat) : ImageField := ⟨base + 6, 2, 0, 59998⟩
def noiseField (base : Nat) : ImageField := ⟨base + 8, 1, 0, 15⟩
/-- The header's fields and the alarm hold. -/
def drainField : ImageField := ⟨96, 1, 1, 60⟩
def purgeField : ImageField := ⟨97, 1, 5, 120⟩
def overLimitField : ImageField := ⟨98, 2, 1000, 9000⟩
def stallField : ImageField := ⟨100, 1, 10, 120⟩
def alarmField : ImageField := ⟨101, 2, 10, 600⟩

/-- First bytes of the two profiles, the two kind sets and the two receivers (11.6). -/
def profileBase : Kind → Nat
  | .circuit => 8
  | .foam => 27
def kindSetBase : Kind → Nat
  | .circuit => 46
  | .foam => 55
def receiverBase : GasClass → Nat
  | .halo => 78
  | .hydro => 87

/-- The kind bytes are 1 to 4 (11.6). -/
def kindByte (p : PortId) : Nat := 1 + p.num

/-- A kind byte read; an undefined code becomes UNUSED (R190). -/
def readKind : Nat → Option Kind
  | 1 => some .circuit
  | 2 => some .foam
  | _ => none

/-- The fields of one profile: the count, and target and dwell of each step within it (R190). -/
def profileFields (k : Kind) (b : List Byte) : List ImageField :=
  let base := profileBase k
  countField base ::
    (List.range ((countField base).value b)).flatMap fun i => [targetField base i, dwellField base i]

def kindSetFields (k : Kind) : List ImageField :=
  let base := kindSetBase k
  [settleField base, connectField base, holdField base, riseField base, recyclesField base, emptyField base,
    lowYieldField base]

def receiverFields (c : GasClass) : List ImageField :=
  let base := receiverBase c
  [tareField base, fullField base, dOnField base, dOffField base, noiseField base]

/-- Every field of the image that has a range (R190), the kinds apart. -/
def rangedFields (b : List Byte) : List ImageField :=
  [debounceField] ++ profileFields .circuit b ++ profileFields .foam b ++ kindSetFields .circuit ++
    kindSetFields .foam ++
    [sampleField, tpField, tiField, traceField, haloLeakField, hydroLeakField, periodField, leadField,
      classifyWaitField] ++
    receiverFields .halo ++ receiverFields .hydro ++ [drainField, purgeField, overLimitField, stallField, alarmField]

/-- The number of fields clamped, each kind byte above 2 counting one, saturating at 255 (R190, R194, R201). -/
def clampedCount (b : List Byte) : Nat :=
  min 255
    (((rangedFields b).filter fun f => f.clamped b).length +
      (PortId.all.filter fun p => decide (2 < imageByte b (kindByte p))).length)

/-! ### Profiles, kinds, thresholds (R191 to R193) -/

/-- The steps of a profile as clamped. -/
def clampedSteps (k : Kind) (b : List Byte) : List Step :=
  let base := profileBase k
  (List.range ((countField base).value b)).map fun i => ⟨(targetField base i).value b, (dwellField base i).value b⟩

/-- The steps after one that are kept: up to the first whose target is not strictly below the one before (R191). -/
def fallingFrom (prev : Nat) : List Step → List Step
  | [] => []
  | x :: rest => if x.target < prev then x :: fallingFrom x.target rest else []

/-- A profile cut at its first step that does not fall; step 1 always stands (R191). -/
def truncate : List Step → List Step
  | [] => []
  | x :: rest => x :: fallingFrom x.target rest

/-- The parameter set of a kind from the image. -/
def readKindSet (k : Kind) (b : List Byte) : KindSet :=
  let base := kindSetBase k
  { steps := truncate (clampedSteps k b)
    settleTenths := (settleField base).value b
    connectS := (connectField base).value b
    holdS := (holdField base).value b
    riseLimit := (riseField base).value b
    maxRecycles := (recyclesField base).value b
    emptyThreshold := (emptyField base).value b
    lowYield := (lowYieldField base).value b }

/-- The profile was cut (R191). -/
def wasTruncated (k : Kind) (b : List Byte) : Bool :=
  decide ((truncate (clampedSteps k b)).length < (clampedSteps k b).length)

/-- The kind is disabled: its first target is at or above its empty threshold (R192). -/
def isDisabled (g : KindSet) : Bool :=
  match g.target 1 with
  | some t => decide (g.emptyThreshold ≤ t)
  | none => false

/-- D_on below F, then D_off below D_on (R193). -/
def orderReceiver (g : ReceiverSet) : ReceiverSet :=
  let g1 := if g.full ≤ g.dOn then { g with dOn := g.full - 1 } else g
  if g1.dOn ≤ g1.dOff then { g1 with dOff := g1.dOn - 1 } else g1

def clampedReceiver (c : GasClass) (b : List Byte) : ReceiverSet :=
  let base := receiverBase c
  ⟨(tareField base).value b, (fullField base).value b, (dOnField base).value b, (dOffField base).value b,
    (noiseField base).value b⟩

/-- Ti below Tp (R193). -/
def orderAnalyser (g : AnalyserSet) : AnalyserSet := if g.tp ≤ g.ti then { g with ti := g.tp - 1 } else g

def clampedAnalyser (b : List Byte) : AnalyserSet where
  sampleS := sampleField.value b
  tp := tpField.value b
  ti := tiField.value b
  traceLimit := traceField.value b
  haloLeak := haloLeakField.value b
  hydroLeak := hydroLeakField.value b
  periodCode := periodField.value b
  leadCode := leadField.value b
  classifyWaitS := classifyWaitField.value b

/-- The kind a port runs as: its configured kind, UNUSED where that kind is disabled (R1, R192). -/
def runKind (circuit foam : KindSet) : Option Kind → Option Kind
  | some .circuit => if isDisabled circuit then none else some .circuit
  | some .foam => if isDisabled foam then none else some .foam
  | none => none

/-- The image as clamped and adjusted (R190 to R193). -/
def readConfig (b : List Byte) : StationConfig :=
  let circuit := readKindSet .circuit b
  let foam := readKindSet .foam b
  let kindAt (p : PortId) : Option Kind := runKind circuit foam (readKind (imageByte b (kindByte p)))
  { address := Fin.ofNat 16 (imageByte b 0)
    kinds := ⟨kindAt .p0, kindAt .p1, kindAt .p2, kindAt .p3⟩
    polarities := BitVec.ofNat 16 (imageByte b 5 * 256 + imageByte b 6)
    debounceMs := debounceField.value b
    circuit := circuit
    foam := foam
    analyser := orderAnalyser (clampedAnalyser b)
    halo := orderReceiver (clampedReceiver .halo b)
    hydro := orderReceiver (clampedReceiver .hydro b)
    header :=
      ⟨drainField.value b, purgeField.value b, overLimitField.value b, stallField.value b, alarmField.value b⟩ }

/-- The warning record of an image (R190 to R194). -/
def readWarnings (b : List Byte) : Warnings where
  clamped := clampedCount b
  truncatedCircuit := wasTruncated .circuit b
  truncatedFoam := wasTruncated .foam b
  disabledCircuit := isDisabled (readKindSet .circuit b)
  disabledFoam := isDisabled (readKindSet .foam b)
  adjustedHalo := decide (orderReceiver (clampedReceiver .halo b) ≠ clampedReceiver .halo b)
  adjustedHydro := decide (orderReceiver (clampedReceiver .hydro b) ≠ clampedReceiver .hydro b)
  adjustedAnalyser := decide (orderAnalyser (clampedAnalyser b) ≠ clampedAnalyser b)

/-! ### The checks (R188) -/

/-- The first check of R188 that fails, or none. -/
def imageFault : ReadOutcome → Option ConfigCause
  | .noAck => some .noAck
  | .bytes b =>
    if crc16 (b.take 126) ≠ imageByte b 126 * 256 + imageByte b 127 then some .check
    else if 14 < imageByte b 0 then some .address
    else none

/-- The loader at the end of the read (R187, R188, R194). No field of a failed image is used. -/
def loaderAfter (r : ReadOutcome) : Loader :=
  match r with
  | .noAck => ⟨.configFault .noAck, none, none, .none⟩
  | .bytes b =>
    match imageFault (.bytes b) with
    | some cause => ⟨.configFault cause, some b, none, .none⟩
    | none => ⟨.loaded, some b, some (readConfig b), readWarnings b⟩

/-- The address STATION_STATUS shows: absent for NO_ACK and CHECK, the value read for ADDRESS (R188). -/
def State.shownAddress (s : State) : Option Nat :=
  match s.loader.state with
  | .loaded => some s.cfg.address.val
  | .configFault .address => s.loader.image.map fun b => imageByte b 0
  | .configFault .noAck => none
  | .configFault .check => none
  | .loading => none

/-! ### The input lines at the end of loading (R160, R161) -/

/-- A line with its pin's level and its debounced level set, and no edge (R160). -/
def initInput (polarities : Word16) (pins : BitVec 15) (l : InputLine) : LineInput :=
  { LineInput.reset with level := some (lineLevel polarities pins l), pin := pins.getLsbD (lineNumber l) }

/-- The field unit's levels at the end of loading (R160). -/
def FieldUnit.initialise (polarities : Word16) (pins : BitVec 15) (x : FieldUnit) : FieldUnit :=
  x.mapLines fun l _ => initInput polarities pins l

end Sys2Proof.Machine
end

