-- ==== Sys2Proof/Machine/Messages.lean ====
section
/-! DEFINITION. The messages the station sends on the operator port, byte by byte (11.4), and how a message from the terminal
is answered or owed a refusal (R177, R178). -/

namespace Sys2Proof.Machine

/-! ### Refusals and acceptances (11.4) -/

inductive RefusalCode where
  | malformed
  | unknownRequest
  | busy
  | badPort
  | portUnused
  | portBusy
  | noOpenCase
  | badField
  | paused
  | notReady
  | configFault
  | notInFault
  | estopActive
  deriving DecidableEq, Repr

def RefusalCode.code : RefusalCode → Nat
  | .malformed => 1
  | .unknownRequest => 2
  | .busy => 3
  | .badPort => 4
  | .portUnused => 5
  | .portBusy => 6
  | .noOpenCase => 7
  | .badField => 8
  | .paused => 9
  | .notReady => 10
  | .configFault => 11
  | .notInFault => 12
  | .estopActive => 13

/-- REFUSE with the type of the request it refuses. -/
def refuse (r : RefusalCode) (type : Byte) : Message := ⟨0x82, [byteOf r.code, type]⟩

/-- REFUSE(MALFORMED), which carries no type. -/
def refuseMalformed : Message := ⟨0x82, [byteOf RefusalCode.malformed.code]⟩

/-- ACCEPT of a request that concerns no case. -/
def accept (type : Byte) : Message := ⟨0x81, [type]⟩

/-- ACCEPT of OPEN_CASE and ABANDON_CASE, with the case number. -/
def acceptCase (type : Byte) (caseNo : Nat) : Message := ⟨0x81, type :: bytes16 caseNo⟩

/-! ### REPORT (11.4, "The case report") -/

/-- The presence mask of a record. -/
def presenceMask (r : CaseRecord) : Nat :=
  flagBit r.declaredCharge.isSome 0 + flagBit r.foamMass.isSome 1 + flagBit r.measured.isSome 2 +
    flagBit r.initialHpa.isSome 3 + flagBit r.stallStep.isSome 4 + flagBit r.lastRise.isSome 5 +
    flagBit r.yieldFig.isSome 6 + flagBit r.qReason.isSome 7

/-- The first message of a REPORT, 35 bytes. -/
def reportFirst (left : Nat) (r : CaseRecord) : Message :=
  ⟨0x83,
    [1] ++ bytes16 r.caseNo ++
    [byteOf left, byteOf (presenceMask r), byteOf r.port.num, byteOf (kindCode (some r.kind)),
      byteOf (classCode r.declaredClass), byteOf ((r.result.map CaseResult.code).getD 0),
      byteOf (flagBit r.mismatch 0 + flagBit r.lowYield 1 + flagBit r.massSat 2)] ++
    bytes32 r.openedS ++ bytes32 (r.closedS.getD 0) ++ [byteOf r.tag.length] ++
    (r.tag ++ List.replicate (16 - r.tag.length) 0)⟩

/-- The second message of a REPORT, 24 bytes. -/
def reportSecond (r : CaseRecord) : Message :=
  ⟨0x83,
    [2] ++ bytes16 r.caseNo ++ bytes16 (r.declaredCharge.getD 0) ++ bytes16 (r.foamMass.getD 0) ++
    [byteOf ((r.measured.map fun m => m.cls.code).getD 0)] ++
    bytes16 ((r.measured.map Measurement.haloPm).getD 0) ++ bytes16 ((r.measured.map Measurement.hydroPm).getD 0) ++
    bytes16 (r.initialHpa.getD 0) ++
    [byteOf r.stepsDone, byteOf (r.stallStep.getD 0), byteOf r.recycles] ++
    bytes16 (r.lastRise.getD 0) ++ bytes16 r.massG ++
    [byteOf (r.yieldFig.getD 0), byteOf r.traceHits, byteOf ((r.qReason.map QReason.code).getD 0)]⟩

def report (left : Nat) (r : CaseRecord) : List Message := [reportFirst left r, reportSecond r]

def noReport : Message := ⟨0x84, []⟩

/-! ### PORT_STATE (R180) -/

def Sample.status : Sample → Nat
  | .absent => 0
  | .good _ => 1
  | .overRange => 2
  | .sensorFault => 3

/-- A sample as status and pressure (11.1, 11.4). -/
def Sample.shown (x : Sample) : List Byte := byteOf x.status :: bytes16 (x.pressure.getD 0)

def State.portState (s : State) (p : PortId) : Message :=
  let x := s.port p
  ⟨0x85,
    [byteOf p.num, byteOf (kindCode (s.cfg.kinds.get p)), byteOf x.state.code, byteOf x.state.reasonCode,
      byteOf (x.k.getD 0)] ++
    (s.field.samples.get p).shown ++
    bytes16 ((x.slot.map CaseRecord.caseNo).getD 0) ++ bytes16 ((x.slot.map CaseRecord.massG).getD 0) ++
    [byteOf (flagBit ((x.slot.map CaseRecord.massSat).getD false) 0)]⟩

/-! ### STATUS (R181, 11.4 "The STATUS parts") -/

/-- A part before its place in the run is known: its code and its fields after the two leading bytes. -/
structure StatusPart where
  code : Nat
  fields : List Byte
  deriving DecidableEq, Repr

def ownerCode : Option Address → Nat
  | some a => a.val
  | none => 0xFF

def LoaderState.stateCode (warned : Bool) : LoaderState → Nat
  | .configFault _ => 2
  | .loaded => if warned then 1 else 0
  | .loading => 0

def LoaderState.causeCode : LoaderState → Nat
  | .configFault c => c.code
  | .loaded => 0
  | .loading => 0

def State.stationPart (s : State) : StatusPart :=
  let w := s.loader.warnings
  ⟨1,
    [byteOf (s.shownAddress.getD 0xFF), byteOf (s.loader.state.stateCode w.any), byteOf s.loader.state.causeCode,
      byteOf w.clamped, byteOf (flagBit w.truncatedCircuit 0 + flagBit w.truncatedFoam 1),
      byteOf (flagBit w.disabledCircuit 0 + flagBit w.disabledFoam 1),
      byteOf (flagBit w.adjustedHalo 0 + flagBit w.adjustedHydro 1 + flagBit w.adjustedAnalyser 2)] ++
    bytes32 s.seconds ++
    [byteOf (flagBit s.line.listenIn 0 + flagBit s.lc.paused 1 + flagBit s.lc.estopRepeat.isRunning 2),
      byteOf (flagBit s.lc.causeLine 0 + flagBit s.lc.causeEstop 1 + flagBit s.lc.causeOperator 2),
      byteOf ((s.lc.lastPause.map PauseCause.code).getD 0)] ++
    bytes16 s.inhibitSeconds⟩

def State.receiverPart (s : State) (c : GasClass) : StatusPart :=
  let r := s.rcv c
  ⟨2,
    [byteOf (classCode (some c)), byteOf r.state.code, byteOf r.state.causeCode] ++
    bytes16 (r.content (s.cfg.rcvSet c)) ++
    [byteOf (flagBit r.overMark 0), byteOf (s.band c), byteOf (flagBit r.request 0)] ++
    bytes16 r.baseline.toNat ++ bytes16 r.last.toNat ++ bytes32 r.attributed.toNat ++ bytes32 r.unattributed.toNat ++
    bytes32 r.outflow.toNat ++ bytes32 r.drift.toNat⟩

def AnalyserState.code : AnalyserState → Nat
  | .notReady => 0
  | .idle => 1
  | .classifying _ _ _ => 2
  | .sniffing _ _ _ => 3
  | .fault => 4

def Phase.code : Phase → Nat
  | .sample => 1
  | .result => 2

def AnalyserState.portCode : AnalyserState → Nat
  | .classifying p _ _ => p.num
  | .sniffing p _ _ => p.num
  | _ => 0

def AnalyserState.phaseCode : AnalyserState → Nat
  | .classifying _ ph _ => ph.code
  | .sniffing _ ph _ => ph.code
  | _ => 0

def State.analyserPart (s : State) : StatusPart :=
  let a := s.ana
  ⟨3,
    [byteOf a.state.code, byteOf a.state.portCode, byteOf a.state.phaseCode, byteOf a.queue.length] ++
    ((a.queue.map fun e => byteOf e.port.num) ++ List.replicate (4 - a.queue.length) 0) ++
    [byteOf (flagBit ((a.queue.head?.map ClassifyEntry.retry).getD false) 0),
      byteOf (flagBit a.warning 0 + flagBit a.leakRecent 1), byteOf a.pointer.num, byteOf a.count]⟩

/-- The waiting set of the case store: the ports in CLOSING with the closing time of their records, by port (R80). -/
def State.waitingSet (s : State) : List (PortId × Nat) :=
  PortId.all.filterMap fun p =>
    match (s.port p).state, (s.port p).slot with
    | .closing, some r => some (p, r.closedS.getD 0)
    | _, _ => none

def State.casesPart (s : State) : StatusPart :=
  let closed (p : PortId) : Nat := ((s.waitingSet.find? fun m => decide (m.1 = p)).map Prod.snd).getD 0
  ⟨4,
    [byteOf s.store.queue.length, byteOf ((s.waitingSet.map fun m => 2 ^ m.1.num).sum)] ++
    (PortId.all.flatMap fun p => bytes32 (closed p)) ++ bytes16 s.store.nextNo⟩

/-- The time left on a hold, 0 when not held. -/
def Timer.holdLeft (t : Timer) : Nat := if t.isAhead then t.left else 0

def reasonCode : Option HoldReason → Nat
  | some r => r.code
  | none => 0

def State.headerPart (s : State) : StatusPart :=
  let a := s.agent
  ⟨5,
    [byteOf a.dstate.code, byteOf (classCode a.sought), byteOf a.key, byteOf (classCode a.viewClass), a.viewSerial,
      byteOf (ownerCode a.owner)] ++
    bytes16 a.heldH.holdLeft ++ [byteOf (reasonCode a.reasonH)] ++
    bytes16 a.heldK.holdLeft ++ [byteOf (reasonCode a.reasonK)] ++
    [byteOf (flagBit a.overpressure 0 + flagBit a.headerFault 1 + flagBit a.conflict 2)] ++
    s.field.headerSample.shown⟩

/-- A set as two bits an address (11.4). -/
def setBits (l : List (Address × GasClass)) : Nat := (l.map fun m => classCode (some m.2) * 4 ^ m.1.val).sum

def State.linePart (s : State) : StatusPart :=
  let l := s.line
  ⟨6,
    bytes16 l.rxErrors ++ bytes16 l.collisions ++
    [byteOf l.tx.code, byteOf l.queue.length, byteOf (flagBit l.listenIn 0 + flagBit l.clash 1),
      byteOf (l.clashT.left / 1000)] ++
    bytes32 (setBits (s.fullSet .flowing)) ++ bytes32 (setBits (s.fullSet .waiting))⟩

/-- A 16-bit field with a bit for each line (11.4). -/
def State.lineBits (s : State) (f : LineInput → Bool) : Nat :=
  (allLines.map fun l => flagBit (f (s.field.input l)) (lineNumber l)).sum

def State.fieldPart (s : State) : StatusPart :=
  let records := flagBit s.lc.paused 15
  ⟨7,
    bytes16 (s.lineBits LineInput.isAsserted) ++ bytes16 (s.lineBits LineInput.assertLatch) ++
    bytes16 (s.lineBits LineInput.deassertLatch) ++
    bytes16 (s.lineBits (fun i => i.pauseRec.getD false) + records) ++
    bytes16
      ((PortId.all.map fun p =>
        flagBit (s.port p).valveH (4 * p.num) + flagBit (s.port p).valveK (4 * p.num + 1) +
          flagBit (s.ana.sampleV.get p) (4 * p.num + 2) + flagBit (s.ana.sniffV.get p) (4 * p.num + 3)).sum) ++
    [byteOf
      (flagBit s.agent.dischH 0 + flagBit s.agent.dischK 1 + flagBit s.agent.purgeV 2 + flagBit s.agent.selH 3 +
        flagBit s.agent.selK 4 + flagBit s.field.lamp 5 + flagBit s.ana.amodeSniff 6)] ++
    (s.field.samples.toList.flatMap Sample.shown) ++ s.field.headerSample.shown⟩

def positionCode : Option (DState × Option GasClass) → Nat
  | some (d, _) => d.code
  | none => 8

def positionClass : Option (DState × Option GasClass) → Nat
  | some (_, c) => classCode c
  | none => 0

/-- The fields of an entry's last BEACON, void or not, zeros where it has none. -/
def beaconFields : Option Beacon → List Byte
  | some b =>
    [byteOf (classCode b.viewClass), b.viewSerial] ++ bytes16 b.inhibitS ++
      [byteOf (b.bandH * 16 + b.bandK),
        byteOf (flagBit b.warned 0 + flagBit b.analyserFault 1 + flagBit b.haloFault 2 + flagBit b.hydroFault 3)]
  | none => [0, 0, 0, 0, 0, 0]

def State.peerPart (s : State) (a : Address) : StatusPart :=
  let x := s.peer a
  ⟨8,
    [byteOf a.val,
      byteOf (flagBit x.stale 0 + flagBit x.beacon.isSome 1 + flagBit (x.beacon.isSome && x.beaconVoid) 2 +
        flagBit ((x.beacon.map Beacon.paused).getD false) 3)] ++
    bytes16 (min 65535 (s.clock - x.lastHeard)) ++
    [byteOf (positionCode x.position), byteOf (positionClass x.position)] ++ beaconFields x.beacon⟩

/-- The parts of a STATUS response in the order of R181's table. -/
def State.statusParts (s : State) : List StatusPart :=
  [s.stationPart, s.receiverPart .halo, s.receiverPart .hydro, s.analyserPart, s.casesPart, s.headerPart, s.linePart,
    s.fieldPart] ++ (addresses.filter fun a => (s.peer a).present).map s.peerPart

/-- The messages of a run: each with its index, the last marked (11.4). -/
def statusMessages (index : Nat) : List StatusPart → List Message
  | [] => []
  | [x] => [⟨0x86, byteOf x.code :: byteOf (128 + index) :: x.fields⟩]
  | x :: rest => ⟨0x86, byteOf x.code :: byteOf index :: x.fields⟩ :: statusMessages (index + 1) rest

def State.status (s : State) : List Message := statusMessages 0 s.statusParts

/-! ### Taking a message (R175 to R178) -/

/-- The framer is one that a message can complete in: HUNTING, its first byte seen or not (R175). -/
def LinkFramer.active : LinkFramer → Bool
  | .hunting => true
  | .inMessage _ => true
  | .waitingQuiet => false
  | .skipping => false

/-- Bytes that the framer ignores begin the wait for quiet again (R175). -/
def Timer.restart (ms : Nat) : Timer → Timer
  | .running _ => .running ms
  | t => t

/-- A response starts (R177, R179). -/
def State.respond (l : List Message) (s : State) : State := s.setOp { s.op with tx := .responding l }

/-- A message that completes or is discarded (R177): with the transmitter IDLE it is answered at once; otherwise a refusal
is owed, unless one is owed already. A framer that ignores bytes ignores it (R175). `after` is the framer it leaves. -/
def State.takeMessage (after : OperatorPort → OperatorPort) (owed : Owed) (answer : State → State × List Message)
    (s : State) : State :=
  if s.op.framer.active then
    let t := s.setOp (after s.op)
    match t.op.tx with
    | .idle =>
      let r := answer t
      r.1.respond r.2
    | _ =>
      match t.op.owed with
      | none => t.setOp { t.op with owed := some owed }
      | some _ => t
  else s.setOp { s.op with gap := s.op.gap.restart Config.quietMs }

/-- A complete message leaves the framer HUNTING. -/
def OperatorPort.hunt (x : OperatorPort) : OperatorPort := { x with framer := .hunting, gap := .stopped }

/-- A length above 40 leaves the framer SKIPPING until the link has been quiet (R175). -/
def OperatorPort.skip (x : OperatorPort) : OperatorPort :=
  { x with framer := .skipping, gap := .running Config.quietMs }

/-- The station-wide checks come first (R178), STATION_STATUS apart. -/
def State.stationChecks (type : Byte) (act : State → State × List Message) (s : State) : State × List Message :=
  if s.configFault then (s, [refuse .configFault type])
  else if s.line.listenIn then (s, [refuse .notReady type])
  else act s

/-- A well-formed request other than STATION_STATUS (R177, R178). -/
def State.request (type : Byte) (act : State → State × List Message) (s : State) : State :=
  s.takeMessage OperatorPort.hunt (.busy type) (State.stationChecks type act)

/-- The message of an owed refusal (R177). -/
def Owed.message : Owed → Message
  | .malformed => refuseMalformed
  | .busy type => refuse .busy type

end Sys2Proof.Machine
end

