-- ==== Sys2Proof/Machine/Start.lean ====
section
/-! DEFINITION. Start-up (10): RESET and LOADING_FINISHES. -/

namespace Sys2Proof.Machine

/-- What a command answers. -/
abbrev Answer := Host.Outcome State Fault Refusal

/-- Any reset puts every block in its reset state, with the loader in LOADING (R187). The queue of commands and the count of
free values are the model's own and stay (log 24). -/
def execReset (s : State) : Answer := .next { State.reset with pending := s.pending, free := s.free }

/-- A port when loading finishes in LOADED: VACANT where it has a kind, its valves closed (R1, R3), with the field unit's
levels (R195). -/
def State.startPort (p : PortId) (s : State) : State :=
  s.modPort p fun x =>
    { x.closeValves with
      state := match s.cfg.kinds.get p with | some _ => .vacant | none => .unused
      clamp := (s.field.clamp.get p).isAsserted
      confirm := (s.field.confirm.get p).isAsserted
      release := (s.field.release.get p).isAsserted }

/-- Pressure sampling and the operator port begin whether or not the image was good (R169, R174, R195). -/
def State.startAlways (s : State) : State :=
  let t : Timer := .running Config.pressureMs
  { s with
    field := { s.field with sampleTs := ⟨t, t, t, t⟩, headerT := t }
    op := { s.op with framer := .waitingQuiet, gap := .running Config.quietMs } }

/-- The blocks begin from a good image (R195): levels, ports, silence timers (R32), record links (R200), listen-in (R106),
the ESTOP level (R146) and CONFIG_WARNING (R194). -/
def State.startLoaded (pins : BitVec 15) (s : State) : State :=
  let s1 := s.setField (s.field.initialise s.cfg.polarities pins)
  let s2 := s1.eachPort State.startPort
  let s3 : State :=
    { s2 with
      halo := { s2.halo with silence := .running Config.silenceMs }
      hydro := { s2.hydro with silence := .running Config.silenceMs }
      scaleLink := ⟨.waitingQuiet, .running Config.quietMs⟩
      anaLink := ⟨.waitingQuiet, .running Config.quietMs⟩
      line := { s2.line with listenIn := true, listenT := .running Config.listenInMs }
      lc := { s2.lc with estop := s2.field.estop.isAsserted } }
  let s4 := if s3.loader.warnings.any then s3.raise .configWarning else s3
  if s4.field.estop.isAsserted then (s4.enterPause .estop).estopPause else s4

/-- The image read ends (R187, R188, R195). It ends only in LOADING. -/
def State.finishLoading (read : ReadOutcome) (pins : BitVec 15) (s : State) : State :=
  match s.loader.state with
  | .loading =>
    let s1 := (s.setLoader (loaderAfter read)).startAlways
    if s1.loaded then s1.startLoaded pins else s1
  | .loaded => s
  | .configFault _ => s

def execLoadingFinishes (read : ReadOutcome) (pins : BitVec 15) (s : State) : Answer :=
  .next (s.finishLoading read pins).finish

end Sys2Proof.Machine
end

