-- ==== Sys2Proof/Machine/Operator.lean ====
section
/-! DEFINITION. The operator port's commands (09): the eight requests, the messages that are none, the link's quiet and the
end of what the transmitter sends. -/

namespace Sys2Proof.Machine

/-! ### OPEN_CASE (R84 to R86) -/

/-- The number after a case number, from 65535 to 1 (R82). -/
def nextCaseNo (n : Nat) : Nat := if n = 65535 then 1 else n + 1

/-- The record of an accepted OPEN_CASE (R86). -/
def newRecord (s : State) (p : PortId) (kind : Kind) (cls : Byte) (charge foam : Option Word16) (tag : List Byte) :
    CaseRecord where
  caseNo := s.store.nextNo
  port := p
  kind := kind
  tag := tag
  declaredClass := readClass cls.toNat
  declaredCharge := charge.map BitVec.toNat
  foamMass := foam.map BitVec.toNat
  measured := none
  initialHpa := none
  stepsDone := 0
  stallStep := none
  recycles := 0
  lastRise := none
  massG := 0
  mismatch := false
  massSat := false
  lowYield := false
  yieldFig := none
  traceHits := 0
  qReason := none
  result := none
  openedS := s.seconds
  closedS := none

/-- The case is created and the port goes to OPENED, or on to SETTLE where it is connected already (R6, R82, R86). -/
def State.createCase (p : PortId) (r : CaseRecord) (s : State) : State :=
  ((s.setStore { s.store with nextNo := nextCaseNo s.store.nextNo }).modPort p fun x =>
    { x with
      slot := some r, state := .opened,
      connect := .running ((s.cfg.kindSet r.kind).connectS * 1000) }).tryConnect p

/-- The checks of R84 after the station-wide ones, in their order, and the effect. -/
def State.openCase (port cls : Byte) (charge foam : Option Word16) (tag : List Byte) (s : State) :
    State × List Message :=
  if s.lc.paused then (s, [refuse .paused 0x01])
  else
    match readPort port with
    | none => (s, [refuse .badPort 0x01])
    | some p =>
      match (s.port p).state, s.cfg.kinds.get p with
      | .unused, _ => (s, [refuse .portUnused 0x01])
      | .vacant, some kind =>
        if openFieldsOk kind cls charge foam tag then
          (s.createCase p (newRecord s p kind cls charge foam tag), [acceptCase 0x01 s.store.nextNo])
        else (s, [refuse .badField 0x01])
      | .vacant, none => (s, [refuse .portUnused 0x01])
      | _, _ => (s, [refuse .portBusy 0x01])

def execOpenCase (port cls : Byte) (charge foam : Option Word16) (tag : List Byte) (s : State) : Answer :=
  .next (s.request 0x01 (State.openCase port cls charge foam tag)).finish

/-! ### ABANDON_CASE (R25) -/

def State.abandonCase (port : Byte) (s : State) : State × List Message :=
  match readPort port with
  | none => (s, [refuse .badPort 0x02])
  | some p =>
    match (s.port p).state, (s.port p).openCase with
    | .unused, _ => (s, [refuse .portUnused 0x02])
    | _, some n => (s.closeCase p .abandoned, [acceptCase 0x02 n])
    | _, none => (s, [refuse .noOpenCase 0x02])

def execAbandonCase (port : Byte) (s : State) : Answer := .next (s.request 0x02 (State.abandonCase port)).finish

/-! ### TAKE_REPORT (R90, R91) -/

/-- The waiting port to release: the earliest closing time, and among equals the lowest port (R91). The set is given by
port, so the first of the earliest is kept. -/
def earliest : List (PortId × Nat) → Option (PortId × Nat)
  | [] => none
  | m :: rest =>
    match earliest rest with
    | none => some m
    | some n => if n.2 < m.2 then some n else some m

/-- The release of one waiting port, where there is one (R91). -/
def State.releaseWaiting (s : State) : State :=
  match earliest s.waitingSet with
  | none => s
  | some (p, _) =>
    match (s.port p).slot with
    | some r => s.enqueueRecord p r
    | none => s

/-- The oldest record leaves the queue, and a waiting port is released in the same event (R90, R91). The count in the
answer is that after the removal. -/
def State.takeReport (s : State) : State × List Message :=
  match s.store.queue with
  | [] => (s, [noReport])
  | r :: rest => ((s.setStore { s.store with queue := rest }).releaseWaiting, report rest.length r)

def execTakeReport (s : State) : Answer := .next (s.request 0x03 State.takeReport).finish

/-! ### Status requests (R180, R181) -/

def State.portStatus (port : Byte) (s : State) : State × List Message :=
  match readPort port with
  | none => (s, [refuse .badPort 0x04])
  | some p => (s, [s.portState p])

def execPortStatus (port : Byte) (s : State) : Answer := .next (s.request 0x04 (State.portStatus port)).finish

/-- STATION_STATUS passes the station-wide checks always (R178). -/
def execStationStatus (s : State) : Answer :=
  .next (s.takeMessage OperatorPort.hunt (.busy 0x05) fun t => (t, t.status)).finish

/-! ### CLEAR_RECEIVER (R54) -/

/-- The clearing of a faulted receiver: STARTING where no good reading was taken, and otherwise by its content. -/
def State.clearFault (c : GasClass) (s : State) : State :=
  let r := s.rcv c
  let g := s.cfg.rcvSet c
  let cleared : Receiver :=
    { r with state := if r.first then r.restState g else .starting, silence := .running Config.silenceMs }
  ((s.setRcv c (cleared.checkRequest g)).tellPorts c).requestNotice c r.request

def State.clearReceiver (receiver : Byte) (s : State) : State × List Message :=
  match readReceiver receiver with
  | none => (s, [refuse .badField 0x06])
  | some c =>
    if (s.rcv c).state.isFault then (s.clearFault c, [accept 0x06]) else (s, [refuse .notInFault 0x06])

def execClearReceiver (receiver : Byte) (s : State) : Answer :=
  .next (s.request 0x06 (State.clearReceiver receiver)).finish

/-! ### PAUSE_LINE and RESUME_LINE (R149, R151, R182) -/

def State.pauseLine (s : State) : State × List Message :=
  ((s.enterPause .operator).lcOffer (.pause .operator), [accept 0x07])

def execPauseLine (s : State) : Answer := .next (s.request 0x07 State.pauseLine).finish

/-- Unless the debounced ESTOP level is asserted, RESUME is offered, and a PAUSED station leaves PAUSED (R151). The pause
state changes first, then the frame is offered, then the blocks are told (R153; log 8). -/
def State.resumeLine (s : State) : State × List Message :=
  if s.field.estop.isAsserted then (s, [refuse .estopActive 0x08])
  else if s.lc.paused then
    ((((s.setLc s.lc.clearPause).raise .resume).lcOffer .resume).tellResume, [accept 0x08])
  else (s.lcOffer .resume, [accept 0x08])

def execResumeLine (s : State) : Answer := .next (s.request 0x08 State.resumeLine).finish

/-! ### Messages that are no request (R175 to R177) -/

/-- A check mismatch or a length the type does not allow (R176). -/
def execMalformed (s : State) : Answer :=
  .next (s.takeMessage OperatorPort.hunt .malformed fun t => (t, [refuseMalformed])).finish

/-- A type that is not a request type (R176); while the transmitter sends it is owed BUSY (R177). -/
def execUnknownRequest (type : Byte) (s : State) : Answer :=
  .next (s.takeMessage OperatorPort.hunt (.busy type) fun t => (t, [refuse .unknownRequest type])).finish

/-- A length byte above 40: the framer goes to SKIPPING (R175). -/
def execLengthAbove40 (s : State) : Answer :=
  .next (s.takeMessage OperatorPort.skip .malformed fun t => (t, [refuseMalformed])).finish

/-- How long a message's bytes stop until the gap is over (R175): what the gap timer has left, and in HUNTING, where the command
stands for the first bytes of a message as well (log 4), the whole gap. -/
def State.messageGap (s : State) : Nat :=
  match s.op.framer with
  | .inMessage _ => s.op.gap.left
  | _ => Config.quietMs

/-- Bytes and then a gap of more than 10 ms (R175): a message is discarded, with MALFORMED; in WAITING_QUIET and SKIPPING the
bytes are ignored, and the quiet after them sends the framer to HUNTING. -/
def State.bytesStop (s : State) : State :=
  if s.op.framer.active then
    (s.elapse s.messageGap).takeMessage OperatorPort.hunt .malformed fun t => (t, [refuseMalformed])
  else s.onExpiry (s.op.gap.restart Config.quietMs) fun t => t.setOp t.op.hunt

def execOperatorGapExpiry (s : State) : Answer := .next s.bytesStop.finish

/-- More than 10 ms of quiet in WAITING_QUIET or SKIPPING (R175). -/
def execOperatorLinkQuiet (s : State) : Answer :=
  .next (if s.op.framer.active then s else s.onExpiry s.op.gap fun t => t.setOp t.op.hunt).finish

/-- The last byte of a response or notice: an owed refusal goes out (R177), and otherwise the transmitter is IDLE, where a
pending EVENTS message starts (R183). -/
def State.txDone (s : State) : State :=
  match s.op.tx with
  | .idle => s
  | _ =>
    match s.op.owed with
    | some o => s.setOp { s.op with tx := .responding [o.message], owed := none }
    | none => s.setOp { s.op with tx := .idle }

def execOperatorTxDone (s : State) : Answer := .next s.txDone.finish

end Sys2Proof.Machine
end

