-- ==== Sys2Proof/Machine/Line.lean ====
section
/-! DEFINITION. The station line's commands (05, 07): the frames heard, address clash, the transmitter's events, listen-in,
beacons and stale peers. -/

namespace Sys2Proof.Machine

/-! ### A frame arrives (R99 to R101, R141) -/

/-- A frame is dropped (R100). -/
def State.dropFrame (s : State) : State := s.setLine s.line.dropFrame

/-- Every queued frame is lost on entry to address clash, and each offering block is told (R105, R107). -/
def State.loseQueue (l : List QueuedFrame) (s : State) : State := l.foldl (fun t q => t.lostNotice q) s

/-- A valid frame with the station's own address that it did not send (R107). -/
def State.clash (s : State) : State :=
  let l := { s.line with framer := .hunting, clashT := .running Config.clashMs }
  if s.line.clash then s.setLine l
  else
    let s1 := s.setLine { l with clash := true, tx := .silent, queue := [], headCount := 0 }
    let s2 := (s1.setLc { s1.lc with owed := [] }).loseQueue s.line.queue
    (s2.agentStop false).raise .addressClash

/-- What a frame's handing on is told beside the frame: the fresh flowing peers before it, and whether a derived set
changed with it (R141). -/
structure SetNews where
  flowing : List (Address × GasClass)
  changed : Bool
  deriving DecidableEq, Repr

/-- The news of the derived sets from one state to another (R144). -/
def setNews (before after : State) : SetNews :=
  ⟨before.flowingPeers,
    decide (before.flowingPeers ≠ after.flowingPeers) || decide (before.waitingPeers ≠ after.waitingPeers)⟩

/-- An accepted frame is taken by its source (R101): the peer table first, then the block the kind goes to (R141). A frame
with an undefined field is dropped (R100, R198). Only a station in LOADED hears (R96, R187). -/
def State.onFrame (src : Address) (f : Option Frame) (act : SetNews → State → State) (s : State) : State :=
  if s.loaded then
    match f with
    | none => s.dropFrame
    | some g =>
      if src = s.cfg.address then s.clash
      else
        let t := s.setLine (s.line.setFramer .hunting)
        let u := t.setPeer src ((t.peer src).take t.clock g)
        act (setNews t u) u
  else s

/-- The view or the owner differs (R114). -/
def Agent.viewDiffers (a b : Agent) : Bool :=
  decide (a.viewClass ≠ b.viewClass) || decide (a.viewSerial ≠ b.viewSerial) || decide (a.owner ≠ b.owner)

/-- The agent takes a changed view together with the news of the sets. -/
def State.takeView (n : SetNews) (a : Agent) (s : State) : State :=
  (s.setAgent a).viewReaction n.flowing (n.changed || a.viewDiffers s.agent)

/-- A change of the sets alone is told to the agent (R141, R144). -/
def State.tellSets (n : SetNews) (s : State) : State := if n.changed then s.viewReaction n.flowing true else s

/-- A PURGING agent aborts before its view changes (R113, R127). -/
def State.abortIf (c : Bool) (conflictHold : Bool) (s : State) : State :=
  if s.agent.dstate = .purging ∧ c = true then s.abortPurge conflictHold true .backoff else s

/-- The owner is dropped by a frame of its own that says its purge is over (R114). -/
def Agent.ownerSpoke (src : Address) (over' : Bool) (a : Agent) : Agent :=
  if a.owner = some src ∧ over' = true then a.dropOwner else a

/-- The reservation is lost in LISTEN_PURGE (R124). -/
def Agent.loseReservation (a : Agent) : Agent := if a.dstate = .listenPurge then { a with reserved := false } else a

/-- A peer's BEACON at the agent (R113, R114). -/
def State.agentBeacon (src : Address) (b : Beacon) (n : SetNews) (s : State) : State :=
  let t := s.abortIf (s.agent.wouldAdopt b.viewClass b.viewSerial) false
  t.takeView n ((t.agent.adopt b.viewClass b.viewSerial).ownerSpoke src (decide (b.dstate ≠ .purging)))

def execBeacon (src : Address) (payload : BeaconPayload) (s : State) : Answer :=
  .next (s.onFrame src (readBeacon payload) fun n t =>
    match readBeacon payload with
    | some (.beacon b) => t.agentBeacon src b n
    | _ => t).finish

/-- A peer's INTENT at the agent (R120, R124, R136). -/
def State.agentIntent (src : Address) (u : Purpose) (c : GasClass) (key : Nat) (n : SetNews) (s : State) : State :=
  let a := s.agent
  let better := beats key src.val a.key s.cfg.address.val
  let a1 : Agent :=
    match u, a.dstate with
    | .flow, .listenFlow =>
      if better = true ∧ a.sought ≠ some c then { a with contended := true } else a
    | .purge, .listenPurge => if better then { a with reserved := false } else a
    | _, _ => a
  ((s.setAgent a1).tellSets n).inhibitAnswer c

def execIntent (src : Address) (purpose cls key : Byte) (s : State) : Answer :=
  .next (s.onFrame src (readIntent purpose cls key) fun n t =>
    match readIntent purpose cls key with
    | some (.intent u c k) => t.agentIntent src u c k n
    | _ => t).finish

/-- A peer's FLOW_ON at the agent (R113, R124, R127, R136). -/
def State.agentFlowOn (c : GasClass) (serial : Byte) (n : SetNews) (s : State) : State :=
  let t := s.abortIf true true
  (t.takeView n (t.agent.adopt (some c) serial).loseReservation).inhibitAnswer c

def execFlowOn (src : Address) (cls serial : Byte) (s : State) : Answer :=
  .next (s.onFrame src (readFlowOn cls serial) fun n t =>
    match readFlowOn cls serial with
    | some (.flowOn c v) => t.agentFlowOn c v n
    | _ => t).finish

/-- A peer's FLOW_OFF changes the sets (R142). -/
def execFlowOff (src : Address) (cls : Byte) (s : State) : Answer :=
  .next (s.onFrame src (readFlowOff cls) State.tellSets).finish

/-- A peer's PURGE_START at the agent (R114, R124, R127, R131, R136). The serial it carries is not adopted. -/
def State.agentPurgeStart (src : Address) (c : GasClass) (n : SetNews) (s : State) : State :=
  let t := s.abortIf true false
  let a := ({ t.agent with owner := some src, viewClass := none } : Agent).loseReservation
  let u :=
    if t.agent.dstate = .flowing then (t.setAgent a).endFlow true true .backoff else t.takeView n a
  u.inhibitAnswer c

def execPurgeStart (src : Address) (cls serial : Byte) (s : State) : Answer :=
  .next (s.onFrame src (readPurgeStart cls serial) fun n t =>
    match readPurgeStart cls serial with
    | some (.purgeStart c _) => t.agentPurgeStart src c n
    | _ => t).finish

/-- A peer's PURGE_DONE at the agent (R113, R114). -/
def State.agentPurgeDone (src : Address) (c : Option GasClass) (serial : Byte) (n : SetNews) (s : State) : State :=
  let t := s.abortIf (s.agent.wouldAdopt c serial) false
  t.takeView n ((t.agent.adopt c serial).ownerSpoke src true)

def execPurgeDone (src : Address) (cls serial : Byte) (s : State) : Answer :=
  .next (s.onFrame src (readPurgeDone cls serial) fun n t =>
    match readPurgeDone cls serial with
    | some (.purgeDone c v) => t.agentPurgeDone src c v n
    | _ => t).finish

/-- A HOLD heard (R115, R118): its reason is recorded, which an own HOLD's is not (R111). -/
def State.agentHold (h : HoldClass) (reason : HoldReason) (n : SetNews) (s : State) : State :=
  ((s.setAgent ((s.agent.setHold h).recordReason h reason)).holdEffect h).tellSets n

def execHold (src : Address) (cls reason : Byte) (s : State) : Answer :=
  .next (s.onFrame src (readHold cls reason) fun n t =>
    match readHold cls reason with
    | some (.hold h r) => t.agentHold h r n
    | _ => t).finish

/-- A PAUSE heard (R147). -/
def State.lcPause (cause : PauseCause) (s : State) : State :=
  (s.setLc { s.lc with lastPause := some cause }).enterPause .line

def execPause (src : Address) (cause : Byte) (s : State) : Answer :=
  .next (s.onFrame src (readPause cause) fun n t =>
    match readPause cause with
    | some (.pause c) => (t.tellSets n).lcPause c
    | _ => t).finish

/-- A RESUME heard (R150): against an asserted ESTOP level it is answered with PAUSE(ESTOP). -/
def State.lcResume (s : State) : State :=
  if s.lc.paused then
    if s.field.estop.isAsserted then s.estopPause else ((s.setLc s.lc.clearPause).raise .resume).tellResume
  else s

def execResume (src : Address) (s : State) : Answer :=
  .next (s.onFrame src (some .resume) fun n t => (t.tellSets n).lcResume).finish

/-- An ALARM heard (R156). -/
def State.lcAlarm (seconds : Nat) (s : State) : State := (s.takeInhibit seconds).raise .hydroAlarm

def execAlarm (src : Address) (cls : Byte) (seconds : Word16) (s : State) : Answer :=
  .next (s.onFrame src (readAlarm cls seconds) fun n t =>
    match readAlarm cls seconds with
    | some (.alarm k) => (t.tellSets n).lcAlarm k
    | _ => t).finish

def execClashFrame (s : State) : Answer := .next (if s.loaded then s.clash else s).finish

/-- The five defects of R100 all count once and send the framer to skipping. -/
def execFrameDropped (_defect : FrameDefect) (s : State) : Answer := .next (if s.loaded then s.dropFrame else s).finish

/-- A gap of more than two byte times, and the byte after it (R99). -/
def execFrameTruncated (next : Byte) (s : State) : Answer :=
  .next (if s.loaded then s.setLine (s.line.setFramer (framerAfterGap next)) else s).finish

/-! ### The transmitter (R102, R103) -/

/-- The idle time the transmitter waits for, in byte times: 4 plus its address in DEFER, 12 plus it in RETRY (R102). -/
def State.accessGap (s : State) : Option Nat :=
  match s.line.tx with
  | .defer => some (4 + s.cfg.address.val)
  | .retry => some (12 + s.cfg.address.val)
  | _ => none

/-- The idle time reached what DEFER or RETRY waits for (R102). A gap acts on the framer at the byte after it, and no byte has
come back yet (R99; DESIGN CHOICE, log 4). -/
def LineIf.transmit (l : LineIf) : LineIf :=
  match l.tx, l.queue with
  | .defer, _ :: _ => { l with tx := .sending }
  | .retry, _ :: _ => { l with tx := .sending }
  | _, _ => l

def execTransmitStart (s : State) : Answer := .next (s.setLine s.line.transmit).finish

/-- DEFER with a frame in the queue, IDLE without (R102). -/
def restTx (l : List QueuedFrame) : TxState :=
  match l with
  | [] => .idle
  | _ :: _ => .defer

/-- The head frame leaves the queue (R102, R103). -/
def LineIf.popHead (rest : List QueuedFrame) (l : LineIf) : LineIf :=
  { l with queue := rest, headCount := 0, tx := restTx rest }

/-- The echo of the last check byte matches (R102); the framer takes the own-sent frame like any other (R97). -/
def State.frameSent (s : State) : State :=
  match s.line.tx, s.line.queue with
  | .sending, q :: rest => ((s.setLine ((s.line.popHead rest).setFramer .hunting)).sentNotice q).payOwed
  | _, _ => s

def execFrameSent (s : State) : Answer := .next s.frameSent.finish

/-- The receive framer at a collision takes what came back of the frame (R99; which bytes is a free value, log 13). -/
def State.hearRemainder (s : State) : State :=
  let t := s.setFree (s.free + 1)
  t.setLine (t.line.takeRemainder t.cfg.address (collisionRemainder t.driven (Config.freeEcho s.free)))

/-- The retry after a collision, and at the eighth in a row the drop of the frame, its block told (R103). -/
def State.retryOrDrop (s : State) : State :=
  match s.line.queue with
  | q :: rest =>
    let l := { s.line with collisions := satAdd 65535 s.line.collisions 1, headCount := s.line.headCount + 1 }
    if l.headCount < Config.collisionLimit then s.setLine { l with tx := .retry }
    else (((s.setLine (l.popHead rest)).raise .lineTxLoss).lostNotice q).payOwed
  | [] => s

/-- A collision while SENDING (R103). -/
def State.collide (s : State) : State :=
  match s.line.tx, s.line.queue with
  | .sending, _ :: _ => s.hearRemainder.retryOrDrop
  | _, _ => s

def execCollision (s : State) : Answer := .next s.collide.finish

/-! ### Listen-in, clash, beacons, stale peers -/

/-- A fresh peer whose live BEACON shows paused (R152). -/
def Peer.showsPaused (x : Peer) : Bool := x.fresh && ((x.liveBeacon.map Beacon.paused).getD false)

/-- Line conditions joins a pause the line is in (R152). -/
def State.adoptPause (s : State) : State :=
  if addresses.any fun a => (s.peer a).showsPaused then s.enterPause .line else s

/-- The transmitter leaves SILENT, unless address clash keeps it there (R106). -/
def LineIf.speak (l : LineIf) : LineIf := if l.clash then l else { l with tx := restTx l.queue }

/-- The end of listen-in (R106, R119, R152). -/
def State.endListenIn (s : State) : State :=
  let s1 := s.setLine { s.line with listenIn := false, listenT := .stopped, beaconT := .running Config.beaconMs }
  let s2 := s1.adoptPause.offerBeacon.idleCheck
  s2.setLine s2.line.speak

def execListenInEnd (s : State) : Answer := .next (s.onExpiry s.line.listenT State.endListenIn).finish

/-- The end of address clash (R108, R137): the BEACON is offered and the transmitter leaves SILENT before the agent makes its
check of R119, so an INTENT queues behind the BEACON (DESIGN CHOICE, log 8). -/
def State.endClash (s : State) : State :=
  let s1 := s.setLine { s.line with clash := false, clashT := .stopped }
  let s2 := if s1.line.listenIn then s1 else let t := s1.offerBeacon; t.setLine t.line.speak
  s2.idleCheck

def execClashTimerExpiry (s : State) : Answer := .next (s.onExpiry s.line.clashT State.endClash).finish

/-- Every 250 ms a BEACON (R109). -/
def execBeaconTimerExpiry (s : State) : Answer :=
  .next (s.onExpiry s.line.beaconT fun t =>
    (t.setLine { t.line with beaconT := .running Config.beaconMs }).offerBeacon).finish

/-- A peer's entry goes stale, and the agent is told; a silent purge owner is dropped (R114, R143). -/
def State.staleNow (a : Address) (s : State) : State :=
  let t := s.setPeer a (s.peer a).goStale
  t.takeView (setNews s t) (if t.agent.owner = some a then t.agent.dropOwner else t.agent)

def execPeerStale (peer : Address) (s : State) : Answer :=
  .next (s.onExpiry (s.peer peer).timer (State.staleNow peer)).finish

end Sys2Proof.Machine
end

