-- ==== Sys2Proof/Machine/Conditions.lean ====
section
/-! DEFINITION. Line conditions' own commands (07): the emergency stop's edges and its repeat, and the end of the hydrocarbon
inhibit. -/

namespace Sys2Proof.Machine

/-- The ESTOP assert edge (R148): the station is PAUSED with cause ESTOP, PAUSE(ESTOP) is offered and the repeat timer
starts. -/
def State.estopPressed (s : State) : State :=
  ((s.setLc { s.lc with estop := true }).enterPause .estop).estopPause

def execEstopAssert (s : State) : Answer := .next (s.takeEdge .estop true State.estopPressed).finish

/-- The ESTOP deassert edge (R148): the repeat timer stops, and the pause goes on. -/
def State.estopReleased (s : State) : State := s.setLc { s.lc with estop := false, estopRepeat := .stopped }

def execEstopDeassert (s : State) : Answer := .next (s.takeEdge .estop false State.estopReleased).finish

/-- The repeat timer's expiry (R148). -/
def State.estopRepeats (s : State) : State :=
  if s.lc.estop = true ∧ s.lc.paused = true then s.estopPause else s.setLc { s.lc with estopRepeat := .stopped }

def execEstopRepeatExpiry (s : State) : Answer := .next (s.onExpiry s.lc.estopRepeat State.estopRepeats).finish

/-- The inhibit timer's expiry (R158). -/
def execInhibitTimerExpiry (s : State) : Answer := .next (s.onExpiry s.lc.inhibit State.endInhibit).finish

end Sys2Proof.Machine
end

