-- ==== Sys2Proof/Machine/FieldLines.lean ====
section
/-! DEFINITION. The field unit's commands (08): the moves of the input lines, the edges their owners take, the selector
readbacks (R132), and the pressure samples. -/

namespace Sys2Proof.Machine

/-- The line's pin goes to an electrical level: with a filter time of 0 the debounced level follows at once (R161). -/
def State.movePin (l : InputLine) (high : Bool) (s : State) : State :=
  let t := s.setInput l { s.field.input l with pin := high }
  if t.filterMs l = 0 ∧ (t.field.input l).level = some (!t.lineNow l) then t.setInput l (t.field.input l).change else t

/-- The line has differed from its debounced level for its filter time (R161): the time left of it passes, and the level
changes. -/
def State.lineSettles (l : InputLine) (s : State) : State :=
  s.onExpiry (s.field.input l).filter fun t => t.setInput l (t.field.input l).change

/-- A move of an input line (R161 to R163; log 25). Before a level is set no filter runs and nothing changes (R160). -/
def execDebounceChange (change : LineChange) (s : State) : Answer :=
  .next
    (match change.move with
    | .pin high => s.movePin change.line high
    | .settles => s.lineSettles change.line).finish

/-! ### The port lines' edges (R4, R7, R21, R22, R30) -/

/-- An edge at its port: an UNUSED port ignores it (R1). -/
def State.portEdge (p : PortId) (level : Port → Port) (act : State → State) (s : State) : State :=
  if (s.port p).state = .unused then s else act (s.modPort p level)

/-- A CLAMP assert acts in OPENED (R4, R7). -/
def State.clampOn (p : PortId) (s : State) : State := if (s.port p).state = .opened then s.tryConnect p else s

def execClampAssert (p : PortId) (s : State) : Answer :=
  .next (s.takeEdge (.clamp p) true (State.portEdge p (fun x => { x with clamp := true }) (State.clampOn p))).finish

/-- A CLAMP deassert acts in SETTLE through RISE_TEST (R22), in QUARANTINE (R21) and in UNCLAMP (R30). -/
def State.clampOff (p : PortId) (s : State) : State :=
  match (s.port p).state with
  | .unclamp => s.modPort p fun x => { x with state := .vacant }
  | .quarantine _ => s.closeCase p .quarantined
  | st => if st.abortable then s.closeCase p .abortedClamp else s

def execClampDeassert (p : PortId) (s : State) : Answer :=
  .next (s.takeEdge (.clamp p) false (State.portEdge p (fun x => { x with clamp := false }) (State.clampOff p))).finish

/-- A CONFIRM edge of either kind acts in OPENED (R4, R7). -/
def execConfirmEdge (p : PortId) (asserted : Bool) (s : State) : Answer :=
  .next
    (s.takeEdge (.confirm p) asserted
      (State.portEdge p (fun x => { x with confirm := asserted }) (State.clampOn p))).finish

/-- A RELEASE_REQ assert acts in QUARANTINE (R21). -/
def State.releasePressed (p : PortId) (s : State) : State :=
  if (s.port p).state.quarantined then s.closeCase p .quarantined else s

def execReleaseReqAssert (p : PortId) (s : State) : Answer :=
  .next
    (s.takeEdge (.release p) true
      (State.portEdge p (fun x => { x with release := true }) (State.releasePressed p))).finish

/-- A RELEASE_REQ deassert updates the level and does nothing more (R4). -/
def execReleaseReqDeassert (p : PortId) (s : State) : Answer :=
  .next (s.takeEdge (.release p) false (State.portEdge p (fun x => { x with release := false }) fun t => t)).finish

/-! ### Selector readback (R132, R166) -/

/-- What the conflict does to a FLOWING agent and to any other; `hold` says that HOLD(ALL, CONFLICT) is due. -/
def State.conflictStops (hold : Bool) (s : State) : State :=
  if s.agent.dstate = .flowing then s.endFlow hold true .backoff
  else if hold then s.offerHold .all .conflict
  else s

/-- The onset of a selector conflict (R132). -/
def State.conflictBegins (s : State) : State :=
  let hold := !s.agent.conflictRepeat.isRunning
  let s1 := (s.setAgent { s.agent with conflict := true, viewClass := none }).raise .headerConflict
  let s2 := s1.conflictStops hold
  let s3 := if hold then s2.setAgent { s2.agent with conflictRepeat := .running Config.conflictRepeatMs } else s2
  s3.viewReaction s3.flowingPeers s.agent.viewClass.isSome

/-- A readback assert edge with the other readback's present level (R132, R166). -/
def State.readbackRises (c : GasClass) (s : State) : State :=
  if (s.field.input (readbackLine c.other)).isAsserted then s.conflictBegins else s

def execReadbackAssert (c : GasClass) (s : State) : Answer :=
  .next (s.takeEdge (readbackLine c) true (State.readbackRises c)).finish

/-- A readback deassert edge lowers the conflict flag (R132). -/
def execReadbackDeassert (c : GasClass) (s : State) : Answer :=
  .next (s.takeEdge (readbackLine c) false fun t => t.setAgent { t.agent with conflict := false }).finish

/-! ### Pressure samples (R169 to R172) -/

/-- A port channel's sample timer expires: the sample becomes the latest, the timer restarts, and the port takes the sample
(R169, R171). In CONFIG_FAULT no block takes it. -/
def State.samplePort (p : PortId) (x : Sample) (s : State) : State :=
  let t := s.setField
    { s.field with
      samples := s.field.samples.set p x
      sampleTs := s.field.sampleTs.set p (.running Config.pressureMs) }
  if t.loaded then t.portTakesSample p x else t

def execPortSample (p : PortId) (signal : Signal) (s : State) : Answer :=
  .next (s.onExpiry (s.field.sampleTs.get p) (State.samplePort p (sampleOf signal))).finish

/-- A sensor fault raises the header-fault flag (R117). -/
def State.headerFaults (s : State) : State :=
  if s.agent.headerFault then s else (s.setAgent { s.agent with headerFault := true }).holdEffect .all

/-- A good HEADER sample's effect on the two flags and the repeat timer (R116, R117): at or above neither level nothing
changes but the header-fault flag. -/
def Agent.takePressure (limit hpa : Nat) (a : Agent) : Agent :=
  let b := { a with headerFault := false }
  if limit < hpa then
    if a.overpressure then b else { b with overpressure := true, overRepeat := .running Config.overRepeatMs }
  else if hpa < limit - Config.resumeBand then { b with overpressure := false, overRepeat := .stopped }
  else b

/-- A good HEADER sample at the agent: a flag that rises offers HOLD(ALL, OVERPRESSURE) (R116), and a flag that drops is the
end of its hold (R118). -/
def State.headerPressure (hpa : Nat) (s : State) : State :=
  let a := s.agent
  let b := a.takePressure s.cfg.header.overLimit hpa
  let s1 := s.setAgent b
  let s2 := if b.overpressure && !a.overpressure then s1.offerHold .all .overpressure else s1
  if (a.headerFault && !b.headerFault) || (a.overpressure && !b.overpressure) then s2.holdEnd .all else s2

/-- The agent takes a HEADER sample (R172). -/
def State.headerTakesSample (x : Sample) (s : State) : State :=
  match x.pressure with
  | none => s.headerFaults
  | some hpa => s.headerPressure hpa

/-- The HEADER channel's sample timer expires (R169, R172). -/
def State.sampleHeader (x : Sample) (s : State) : State :=
  let t := s.setField { s.field with headerSample := x, headerT := .running Config.pressureMs }
  if t.loaded then t.headerTakesSample x else t

def execHeaderSample (signal : Signal) (s : State) : Answer :=
  .next (s.onExpiry s.field.headerT (State.sampleHeader (sampleOf signal))).finish

end Sys2Proof.Machine
end

