-- ==== Sys2Proof/Machine/PortTimers.lean ====
section
/-! DEFINITION. The expiries of the five port timers (01): connect, settle, classify wait, dwell, and the rise test's hold
with its judgement. -/

namespace Sys2Proof.Machine

/-- A port timer's expiry exists in the port state the timer belongs to, and in no other (R7; log 3). -/
def State.portExpiry (p : PortId) (st : PortState) (t : Timer) (act : State → State) (s : State) : State :=
  if (s.port p).state = st then s.onExpiry t act else s

/-- The connect timer expires first (R7). -/
def execConnectTimeout (p : PortId) (s : State) : Answer :=
  .next (s.portExpiry p .opened (s.port p).connect (State.closeCase p .notConnected)).finish

/-- A pressure, or where there is none the next free value (log 7). -/
def State.pressureOr (x : Option Nat) (s : State) : Nat × State :=
  match x with
  | some n => (n, s)
  | none => s.drawPressure

/-- The settle time is over (R8): the latest sample is the initial pressure, and below the empty threshold the case is
EMPTY. -/
def State.settled (p : PortId) (s : State) : State :=
  let drawn := s.pressureOr (s.field.samples.get p).pressure
  let t := drawn.2.modPort p fun x => { x.mapSlot (fun r => { r with initialHpa := some drawn.1 }) with settle := .stopped }
  if drawn.1 < (t.portSet (t.port p)).emptyThreshold then t.closeCase p .empty else t.toClassify p

def execSettleExpiry (p : PortId) (s : State) : Answer :=
  .next (s.portExpiry p .settle (s.port p).settle (State.settled p)).finish

/-- The classify wait is over (R11): the request is withdrawn and the port is in QUARANTINE(ANALYSER). -/
def execClassifyWaitExpiry (p : PortId) (s : State) : Answer :=
  .next (s.portExpiry p .classify (s.port p).classifyWait (State.quarantine p .analyser)).finish

/-- The first stall of a case is kept (R14). -/
def CaseRecord.stall (k : Option Nat) (r : CaseRecord) : CaseRecord :=
  match r.stallStep with
  | some _ => r
  | none => { r with stallStep := k }

/-- The dwell of step k is over in EXTRACT (R14). -/
def State.dwellOver (p : PortId) (s : State) : State :=
  (s.modPort p fun x => { x.mapSlot (CaseRecord.stall x.k) with dwell := .stopped }).toRiseTest p

def execDwellExpiry (p : PortId) (s : State) : Answer :=
  .next (s.portExpiry p .extract (s.port p).dwell (State.dwellOver p)).finish

/-- The three outcomes of a rise test (R19). -/
inductive RiseOutcome where
  | close (res : CaseResult)
  | recycle
  deriving DecidableEq, Repr

/-- R19's table. -/
def riseOutcome (g : KindSet) (rise : Nat) (r : CaseRecord) : RiseOutcome :=
  if rise ≤ g.riseLimit then .close (if r.stallStep.isSome then .completeStalled else .complete)
  else if r.recycles < g.maxRecycles then .recycle
  else .close .residual

/-- The recycle (R19): step n with its full dwell, and then the three tests of R10. -/
def State.recycle (p : PortId) (s : State) : State :=
  (s.modPort p fun x =>
    (x.mapSlot fun r => { r with recycles := r.recycles + 1 }).startStep (s.portSet x) (s.portSet x).stepCount).route p

/-- The hold time is over (R19): the rise is P_end less P_start, or 0, and the test is judged. -/
def State.riseOver (p : PortId) (s : State) : State :=
  let startP := s.pressureOr (s.port p).pStart
  let endP := startP.2.pressureOr (s.field.samples.get p).pressure
  let rise := endP.1 - startP.1
  let t := endP.2.modPort p fun x =>
    { x.mapSlot (fun r => { r with lastRise := some rise }) with hold := .stopped, pStart := none }
  match (t.port p).slot with
  | none => t
  | some r =>
    match riseOutcome (t.portSet (t.port p)) rise r with
    | .close res => t.closeCase p res
    | .recycle => t.recycle p

def execHoldTimerExpiry (p : PortId) (s : State) : Answer :=
  .next (s.portExpiry p .riseTest (s.port p).hold (State.riseOver p)).finish

end Sys2Proof.Machine
end

