-- ==== Sys2Proof/Machine/Scale.lean ====
section
/-! DEFINITION. The scale link's records and the receivers' timers (02): the first reading, the reading event, the fault-marked
record, silence and stall. -/

namespace Sys2Proof.Machine

/-- A record that completes on a record link (R200): the framer takes it in HUNTING or IN_MESSAGE; one that waits for quiet
ignores its bytes, and its wait begins again. Only a station in LOADED takes records (R31, R58). -/
def State.onRecord (l : RecordLink) (act : State → State) (s : State) : State :=
  if s.loaded then
    if (s.recordLink l).framer.active then act (s.setRecordLink l ⟨.hunting, .stopped⟩)
    else s.setRecordLink l { s.recordLink l with gap := (s.recordLink l).gap.restart Config.quietMs }
  else s

/-- Every accepted record restarts its receiver's silence timer (R35). -/
def State.restartSilence (c : GasClass) (s : State) : State :=
  s.modRcv c fun r => { r with silence := .running Config.silenceMs }

/-- A receiver enters FAULT (R52). In FAULT it keeps its cause and raises nothing (R53). -/
def State.receiverFault (c : GasClass) (cause : ReceiverCause) (s : State) : State :=
  let r := s.rcv c
  let t := (s.setRcv c (r.enterFault cause)).raise .receiverFault
  match r.state with
  | .fault _ => s
  | .accepting => (t.tellPorts c).requestNotice c r.request
  | .discharging => (t.requestNotice c r.request).flowNotice c .idle
  | .full => t.requestNotice c r.request
  | .starting => t.requestNotice c r.request

/-- The first good reading sets the account (R37); a receiver in FAULT stays there. -/
def Receiver.firstReading (g : ReceiverSet) (value : Word16) (overMark : Bool) (r : Receiver) : Receiver :=
  let set := { r.record value overMark with baseline := value, first := true }
  match r.state with
  | .starting => ({ set with state := set.restState g } : Receiver).checkRequest g
  | _ => set

def State.takeFirstReading (c : GasClass) (value : Word16) (overMark : Bool) (s : State) : State :=
  let r := s.rcv c
  let t := s.setRcv c (r.firstReading (s.cfg.rcvSet c) value overMark)
  match r.state with
  | .starting => (t.tellPorts c).requestNotice c r.request
  | _ => t

/-- How many free values the weights of a receiver's open ports used: none where each has a sample (R41; log 7). -/
def State.freeWeights (s : State) (c : GasClass) : Nat :=
  if (s.openPorts c).any (fun p => decide (s.field.samples.get p = .absent)) then 4 else 0

/-- The shares of a gain reach the open ports (R43). -/
def State.deliverShares (delta : Nat) (l : List Share) (s : State) : State :=
  l.foldl (fun t x => t.deliverShare delta l x) s

/-- The reading event (R38): the delta is booked, with its shares delivered, by the state as it stood; then come the checks and
the notices they call for. -/
def State.readingEvent (c : GasClass) (value : Word16) (overMark : Bool) (s : State) : State :=
  let g := s.cfg.rcvSet c
  let r := s.rcv c
  let delta := r.delta value
  let shares := s.weights c
  let booking := bookingOf r.state delta (decide (0 < totalWeight shares))
  let s1 := if booking = .attributed then s.deliverShares delta.toNat shares else s
  let s2 := s1.setFree (s1.free + s.freeWeights c)
  let booked := (r.record value overMark).book booking delta
  if dropFault g r.state delta then (s2.setRcv c booked).receiverFault c .scaleDrop
  else
    let r1 := booked.checks g (s.cfg.header.stallS * 1000)
    let s3 := s2.setRcv c r1
    let s4 := if r1.state = r.state then s3 else s3.tellPorts c
    let s5 := s4.requestNotice c r.request
    if r1.doneSent && !r.doneSent then s5.flowNotice c .idle else s5

/-- A good reading (R35). -/
def State.takeReading (c : GasClass) (value : Word16) (overMark : Bool) (s : State) : State :=
  let t := s.restartSilence c
  if (t.rcv c).first then t.readingEvent c value overMark else t.takeFirstReading c value overMark

def execReading (c : GasClass) (overMark : Bool) (value : Word16) (s : State) : Answer :=
  .next (s.onRecord .scale (State.takeReading c (readingValue overMark value) overMark)).finish

/-- A record with the fault mark is not a reading (R35). -/
def execFaultMarkedRecord (c : GasClass) (s : State) : Answer :=
  .next (s.onRecord .scale fun t => (t.restartSilence c).receiverFault c .scaleFaultRecord).finish

/-- No record for 500 ms (R36). -/
def State.silent (c : GasClass) (s : State) : State :=
  (s.modRcv c fun r => { r with silence := .stopped }).receiverFault c .scaleSilent

def execSilenceExpiry (c : GasClass) (s : State) : Answer :=
  .next (s.onExpiry (s.rcv c).silence (State.silent c)).finish

/-- No fall for the stall limit (R50): the stall notice, once in a flow. -/
def State.stalled (c : GasClass) (s : State) : State :=
  let t := s.modRcv c fun r => { r with stall := .stopped, stallSent := true }
  if (s.rcv c).stallSent then t else (t.raise .dischargeStall).flowNotice c .longBackoff

def execStallTimerExpiry (c : GasClass) (s : State) : Answer :=
  .next (s.onExpiry (s.rcv c).stall (State.stalled c)).finish

end Sys2Proof.Machine
end

