-- ==== Sys2Proof/Machine/Sampling.lean ====
section
/-! DEFINITION. The analyser scheduler's commands (03): READY and RESULT records, the sample and result timers, the sweep's
warning and due time, and the leak-recent timer. -/

namespace Sys2Proof.Machine

/-! ### READY (R60) -/

/-- The scheduler enters IDLE on READY; the sweep's due timer starts when this is the first time since reset (R60, R70). -/
def State.becomeReady (s : State) : State :=
  let due :=
    if s.ana.dueAt = none ∧ 0 < sweepPeriod s.cfg.analyser then some (s.clock + sweepPeriod s.cfg.analyser)
    else s.ana.dueAt
  (s.setAna { s.ana with count := 0, dueAt := due }).analyserIdle

def State.takeReady (s : State) : State :=
  match s.ana.state with
  | .notReady => s.becomeReady
  | .fault => s.becomeReady
  | .idle => s
  | .classifying _ _ _ => s
  | .sniffing _ _ _ => s

def execReady (s : State) : Answer := .next (s.onRecord .analyser State.takeReady).finish

/-! ### RESULT (R61, R66, R76) -/

/-- The measurement is recorded in the case (R10, R11): MISMATCH is set where a declared class differs from a measured HALO
or HYDRO. -/
def CaseRecord.measure (m : Measurement) (r : CaseRecord) : CaseRecord :=
  { r with
    measured := some m
    mismatch :=
      match m.cls.gas, r.declaredClass with
      | some c, some d => decide (d ≠ c)
      | _, _ => r.mismatch }

/-- A classify result reaches its port in CLASSIFY (R10, R11). -/
def State.portClassify (p : PortId) (m : Measurement) (s : State) : State :=
  if (s.port p).state = .classify then
    let t := s.modPort p fun x => { x.mapSlot (CaseRecord.measure m) with classifyWait := .stopped }
    match m.cls with
    | .halo => (t.modPort p fun x => x.startStep (t.portSet x) 1).route p
    | .hydro => (t.modPort p fun x => x.startStep (t.portSet x) 1).route p
    | .mixed => t.quarantine p .mixed
    | .none => t.closeCase p .empty
  else s

/-- The result of a sample is taken: the result timer stops, the count is 0, and the sample is over (R61). -/
def Analyser.endSample (a : Analyser) : Analyser := { a with state := .idle, resultT := .stopped, count := 0 }

/-- A LEAK raises its event, sets the leak-recent flag and restarts its timer at one sweep period (R76, R77). -/
def State.leakFound (s : State) : State :=
  (s.setAna { s.ana with leakRecent := true, leakT := .running (sweepPeriod s.cfg.analyser) }).raise .leak

/-- A sniff's outcome at its port, at the flags, and for a hydrocarbon LEAK at line conditions (R76). -/
def State.takeSniff (p : PortId) (noted : Option Nat) (halo hydro : Nat) (s : State) : State :=
  let o := sniffJudgement s.cfg.analyser halo hydro
  let told : Bool := noted.isSome && decide ((s.port p).openCase = noted)
  let s1 := if told then s.portSniff p o else s
  let s2 := if o = .leak then s1.leakFound else s1
  if s.cfg.analyser.hydroLeak ≤ hydro then s2.hydroLeak else s2

/-- The measurement a classify result gives (R66, R67). -/
def measurementOf (g : AnalyserSet) (halo hydro : Word16) : Measurement :=
  ⟨classifyDecision g (perMille halo) (perMille hydro), perMille halo, perMille hydro⟩

/-- A RESULT is taken in the result phase and discarded anywhere else (R61). -/
def State.takeResult (halo hydro : Word16) (s : State) : State :=
  let t := s.setAna s.ana.endSample
  match s.ana.state with
  | .classifying p .result withdrawn =>
    (if withdrawn then t else t.portClassify p (measurementOf s.cfg.analyser halo hydro)).analyserIdle
  | .sniffing p .result noted => (t.takeSniff p noted halo.toNat hydro.toNat).analyserIdle
  | _ => s

def execResult (halo hydro : Word16) (s : State) : Answer :=
  .next (s.onRecord .analyser (State.takeResult halo hydro)).finish

/-! ### The sample and result timers (R65, R68, R69, R74) -/

/-- The sample phase ends: the path closes and the result phase begins. -/
def Analyser.sampleOver (a : Analyser) : Analyser :=
  match a.state with
  | .classifying p .sample w => ({ a with state := .classifying p .result w } : Analyser).closePath p
  | .sniffing p .sample noted => ({ a with state := .sniffing p .result noted } : Analyser).closePath p
  | _ => a

def execSampleTimerExpiry (s : State) : Answer :=
  .next
    (match s.ana.state with
    | .classifying _ .sample _ => s.onExpiry s.ana.sampleT fun t => t.setAna t.ana.sampleOver
    | _ => s).finish

def execSniffTimerExpiry (s : State) : Answer :=
  .next
    (match s.ana.state with
    | .sniffing _ .sample _ => s.onExpiry s.ana.sampleT fun t => t.setAna t.ana.sampleOver
    | _ => s).finish

/-- The port of a classify sample that timed out goes back to the head of the queue, unless the sample was withdrawn (R68,
R69). -/
def Analyser.putBack (a : Analyser) : Analyser :=
  match a.state with
  | .classifying p _ false => { a with queue := ⟨p, true⟩ :: a.queue }
  | _ => a

/-- A sniff whose start is reached in FAULT is skipped (R72). -/
def State.analyserFaults (s : State) : State :=
  let t := (s.setAna { s.ana with state := .fault }).raise .analyserFault
  if t.ana.pendingSniff then t.setAna (t.ana.skipSniff (sweepPeriod t.cfg.analyser)) else t

/-- The scheduler is in the result phase of a sample (R58). -/
def AnalyserState.awaitsResult : AnalyserState → Bool
  | .classifying _ .result _ => true
  | .sniffing _ .result _ => true
  | _ => false

/-- A sample timed out: the first time in a row the scheduler goes on, the second it is in FAULT (R68, R69). -/
def State.timedOut (s : State) : State :=
  let t := s.setAna { s.ana.putBack with resultT := .stopped, count := min 2 (s.ana.count + 1) }
  if t.ana.count < 2 then t.analyserIdle else t.analyserFaults

/-- The result timer runs in the result phase only (R58). -/
def execResultTimeout (s : State) : Answer :=
  .next (if s.ana.state.awaitsResult then s.onExpiry s.ana.resultT State.timedOut else s).finish

/-! ### The sweep (R70 to R73, R77) -/

/-- A time of the station clock is reached: the time up to it passes, and then the act is taken (log 1). -/
def State.atTime (due : Nat) (act : State → State) (s : State) : State := act (s.elapse (due - s.clock))

/-- The sniff-warning flag rises the lead before the due time (R71). -/
def State.sniffWarns (s : State) : State :=
  match s.ana.dueAt with
  | some d =>
    if s.ana.warning then s
    else s.atTime (d - sweepLead s.cfg.analyser) fun t => t.setAna { t.ana with warning := true }
  | none => s

def execSniffWarning (s : State) : Answer := .next s.sniffWarns.finish

/-- The due time by the scheduler's state (R72). The warning flag stands until the sniff starts or is skipped (R71). -/
def State.sniffIsDue (s : State) : State :=
  let warned : Analyser := { s.ana with warning := true }
  match s.ana.state with
  | .idle => (s.setAna warned).startSniff
  | .classifying _ _ _ => s.setAna { warned with pendingSniff := true }
  | .sniffing _ _ _ => s.setAna { warned with pendingSniff := true }
  | .notReady => s.setAna (warned.skipSniff (sweepPeriod s.cfg.analyser))
  | .fault => s.setAna (warned.skipSniff (sweepPeriod s.cfg.analyser))

/-- The due time arrives; none can arrive while a sniff is pending (R72). -/
def State.sniffDue (s : State) : State :=
  match s.ana.dueAt with
  | some d => if s.ana.pendingSniff then s else s.atTime d State.sniffIsDue
  | none => s

def execSniffDue (s : State) : Answer := .next s.sniffDue.finish

/-- One sweep period without a further LEAK (R77). -/
def execLeakRecentExpiry (s : State) : Answer :=
  .next (s.onExpiry s.ana.leakT fun t => t.setAna { t.ana with leakRecent := false, leakT := .stopped }).finish

end Sys2Proof.Machine
end

