-- ==== Sys2Proof/Machine/Header.lean ====
section
/-! DEFINITION. The header agent's timers (06): the ends of the listen windows, of the drain, the purge and the backoff, the
two repeated HOLDs, and the end of a hold. -/

namespace Sys2Proof.Machine

/-- A timer's expiry that exists in one discharge state only. -/
def State.expiryIn (d : DState) (t : Timer) (act : State → State) (s : State) : State :=
  if s.agent.dstate = d then s.onExpiry t act else s

/-- The checks at the end of the window in LISTEN_FLOW, in their order (R121). -/
def State.flowWindowEnds (s : State) : State :=
  match s.agent.sought with
  | none => s
  | some c =>
    if s.agent.held c then s.toBackoff false
    else if s.agent.contended then s.toBackoff false
    else if s.agent.viewClass = some c then (if s.noOther c then s.startFlow c else s.toWaiting)
    else if s.flowingPeers = [] then s.toDrain
    else s.toWaiting

def execFlowWindowExpiry (s : State) : Answer :=
  .next (s.expiryIn .listenFlow s.agent.window State.flowWindowEnds).finish

/-- The checks at the end of the window in LISTEN_PURGE (R125); a lost reservation leads to WAITING, where the checks of R122
are made at once. -/
def State.purgeWindowEnds (s : State) : State :=
  match s.agent.sought with
  | none => s
  | some c =>
    if s.agent.held c then s.toBackoff false
    else if s.agent.reserved then s.toPurging
    else s.toWaiting.reevaluate

def execPurgeWindowExpiry (s : State) : Answer :=
  .next (s.expiryIn .listenPurge s.agent.window State.purgeWindowEnds).finish

/-- The checks at the end of the drain (R123). -/
def State.drainEnds (s : State) : State :=
  match s.agent.sought with
  | none => s
  | some c =>
    if s.agent.held c then s.toBackoff false
    else if s.agent.viewClass = some c then s.toListen .flow c
    else if s.agent.owner.isSome then s.toWaiting
    else s.toListen .purge c

def execDrainExpiry (s : State) : Answer := .next (s.expiryIn .drain s.agent.drain State.drainEnds).finish

/-- The header is purged to a class (R128, steps 1 and 2). -/
def Agent.purged (c : GasClass) (a : Agent) : Agent :=
  { a with purgeV := false, purge := .stopped, viewClass := some c, viewSerial := a.purgeSerial, owner := none }

/-- The end of the purge (R128): PURGE_DONE, and then FLOWING where the chosen receiver's request is up. -/
def State.purgeEnds (s : State) : State :=
  match s.agent.sought with
  | none => s
  | some c =>
    let t := (s.setAgent (s.agent.purged c)).offer (.purgeDone (some c) s.agent.purgeSerial)
    if (t.rcv c).request then t.startFlow c else t.toIdle

def execPurgeExpiry (s : State) : Answer := .next (s.expiryIn .purging s.agent.purge State.purgeEnds).finish

/-- The end of the backoff (R133). -/
def execBackoffExpiry (s : State) : Answer := .next (s.expiryIn .backoff s.agent.backoff State.toIdle).finish

/-- The overpressure HOLD is offered again while the flag is up (R116). -/
def State.overpressureAgain (s : State) : State :=
  if s.agent.overpressure then
    (s.setAgent { s.agent with overRepeat := .running Config.overRepeatMs }).offerHold .all .overpressure
  else s.setAgent { s.agent with overRepeat := .stopped }

def execOverpressureRepeat (s : State) : Answer :=
  .next (s.onExpiry s.agent.overRepeat State.overpressureAgain).finish

/-- The conflict HOLD is offered again while the flag is up, and otherwise the timer stops (R132). -/
def State.conflictAgain (s : State) : State :=
  if s.agent.conflict then
    (s.setAgent { s.agent with conflictRepeat := .running Config.conflictRepeatMs }).offerHold .all .conflict
  else s.setAgent { s.agent with conflictRepeat := .stopped }

def execConflictRepeatExpiry (s : State) : Answer :=
  .next (s.onExpiry s.agent.conflictRepeat State.conflictAgain).finish

/-- The held-until time of a class has passed (R115); its reason is kept (R139). -/
def Agent.release (c : GasClass) (a : Agent) : Agent :=
  match c with
  | .halo => { a with heldH := .stopped }
  | .hydro => { a with heldK := .stopped }

/-- The hold class that bars one class. -/
def holdOf : GasClass → HoldClass
  | .halo => .halo
  | .hydro => .hydro

/-- A hold runs out (R115, R118). -/
def State.holdRunsOut (c : GasClass) (s : State) : State := (s.setAgent (s.agent.release c)).holdEnd (holdOf c)

def execHoldRunsOut (c : GasClass) (s : State) : Answer :=
  .next (s.onExpiry (s.agent.heldT c) (State.holdRunsOut c)).finish

end Sys2Proof.Machine
end

