-- ==== Sys2Proof/Machine/Records.lean ====
section
/-! DEFINITION. The record links' own commands (11.5): a record that is discarded, and a link that has been quiet. -/

namespace Sys2Proof.Machine

/-- What a discarded record leaves of its link's framer (R175, R200): a length above 40 sends it to SKIPPING, every other
defect is found at a complete record. -/
def RecordLinkState.discard (d : RecordDefect) (x : RecordLinkState) : RecordLinkState :=
  match d with
  | .lengthAbove40 => { x with framer := .skipping, gap := .running Config.quietMs }
  | .badCheck => { x with framer := .hunting, gap := .stopped }
  | .badType => { x with framer := .hunting, gap := .stopped }
  | .wrongLength => { x with framer := .hunting, gap := .stopped }
  | .badMarks => { x with framer := .hunting, gap := .stopped }

/-- A record that is not good counts for nothing beyond its link's framer (R200; log 30). -/
def execRecordDiscarded (link : RecordLink) (defect : RecordDefect) (s : State) : Answer :=
  .next (s.onRecord link fun t => t.setRecordLink link ((t.recordLink link).discard defect)).finish

/-- More than 10 ms without a byte: a record that was being received is dropped once its gap is over, and a framer that waited is
HUNTING (R175, R200). -/
def State.linkQuiet (link : RecordLink) (s : State) : State :=
  match (s.recordLink link).framer with
  | .hunting => s
  | .inMessage _ => (s.elapse (s.recordLink link).gap.left).setRecordLink link ⟨.hunting, .stopped⟩
  | .waitingQuiet => s.onExpiry (s.recordLink link).gap fun t => t.setRecordLink link ⟨.hunting, .stopped⟩
  | .skipping => s.onExpiry (s.recordLink link).gap fun t => t.setRecordLink link ⟨.hunting, .stopped⟩

def execRecordLinkQuiet (link : RecordLink) (s : State) : Answer := .next (s.linkQuiet link).finish

end Sys2Proof.Machine
end

