-- ==== Sys2Proof/Machine/Dispatch.lean ====
section
/-! DEFINITION. The dispatch of every command to its meaning, one arm per constructor. -/

namespace Sys2Proof.Machine

def exec (i : Instr) (s : State) : Host.Outcome State Fault Refusal :=
  match i with
  | .reset => Sys2Proof.Machine.execReset s
  | .loadingFinishes read pins => Sys2Proof.Machine.execLoadingFinishes read pins s
  | .openCase port cls charge foam tag => Sys2Proof.Machine.execOpenCase port cls charge foam tag s
  | .abandonCase port => Sys2Proof.Machine.execAbandonCase port s
  | .takeReport => Sys2Proof.Machine.execTakeReport s
  | .portStatus port => Sys2Proof.Machine.execPortStatus port s
  | .stationStatus => Sys2Proof.Machine.execStationStatus s
  | .clearReceiver receiver => Sys2Proof.Machine.execClearReceiver receiver s
  | .pauseLine => Sys2Proof.Machine.execPauseLine s
  | .resumeLine => Sys2Proof.Machine.execResumeLine s
  | .malformed => Sys2Proof.Machine.execMalformed s
  | .unknownRequest type => Sys2Proof.Machine.execUnknownRequest type s
  | .lengthAbove40 => Sys2Proof.Machine.execLengthAbove40 s
  | .operatorGapExpiry => Sys2Proof.Machine.execOperatorGapExpiry s
  | .operatorLinkQuiet => Sys2Proof.Machine.execOperatorLinkQuiet s
  | .operatorTxDone => Sys2Proof.Machine.execOperatorTxDone s
  | .beacon src payload => Sys2Proof.Machine.execBeacon src payload s
  | .intent src purpose cls key => Sys2Proof.Machine.execIntent src purpose cls key s
  | .flowOn src cls serial => Sys2Proof.Machine.execFlowOn src cls serial s
  | .flowOff src cls => Sys2Proof.Machine.execFlowOff src cls s
  | .purgeStart src cls serial => Sys2Proof.Machine.execPurgeStart src cls serial s
  | .purgeDone src cls serial => Sys2Proof.Machine.execPurgeDone src cls serial s
  | .hold src cls reason => Sys2Proof.Machine.execHold src cls reason s
  | .pause src cause => Sys2Proof.Machine.execPause src cause s
  | .resume src => Sys2Proof.Machine.execResume src s
  | .alarm src cls seconds => Sys2Proof.Machine.execAlarm src cls seconds s
  | .clashFrame => Sys2Proof.Machine.execClashFrame s
  | .frameDropped defect => Sys2Proof.Machine.execFrameDropped defect s
  | .frameTruncated next => Sys2Proof.Machine.execFrameTruncated next s
  | .transmitStart => Sys2Proof.Machine.execTransmitStart s
  | .frameSent => Sys2Proof.Machine.execFrameSent s
  | .collision => Sys2Proof.Machine.execCollision s
  | .listenInEnd => Sys2Proof.Machine.execListenInEnd s
  | .clashTimerExpiry => Sys2Proof.Machine.execClashTimerExpiry s
  | .beaconTimerExpiry => Sys2Proof.Machine.execBeaconTimerExpiry s
  | .peerStale peer => Sys2Proof.Machine.execPeerStale peer s
  | .estopAssert => Sys2Proof.Machine.execEstopAssert s
  | .estopDeassert => Sys2Proof.Machine.execEstopDeassert s
  | .estopRepeatExpiry => Sys2Proof.Machine.execEstopRepeatExpiry s
  | .inhibitTimerExpiry => Sys2Proof.Machine.execInhibitTimerExpiry s
  | .debounceChange change => Sys2Proof.Machine.execDebounceChange change s
  | .clampAssert p => Sys2Proof.Machine.execClampAssert p s
  | .clampDeassert p => Sys2Proof.Machine.execClampDeassert p s
  | .confirmEdge p asserted => Sys2Proof.Machine.execConfirmEdge p asserted s
  | .releaseReqAssert p => Sys2Proof.Machine.execReleaseReqAssert p s
  | .releaseReqDeassert p => Sys2Proof.Machine.execReleaseReqDeassert p s
  | .readbackAssert c => Sys2Proof.Machine.execReadbackAssert c s
  | .readbackDeassert c => Sys2Proof.Machine.execReadbackDeassert c s
  | .portSample p signal => Sys2Proof.Machine.execPortSample p signal s
  | .headerSample signal => Sys2Proof.Machine.execHeaderSample signal s
  | .connectTimeout p => Sys2Proof.Machine.execConnectTimeout p s
  | .settleExpiry p => Sys2Proof.Machine.execSettleExpiry p s
  | .classifyWaitExpiry p => Sys2Proof.Machine.execClassifyWaitExpiry p s
  | .dwellExpiry p => Sys2Proof.Machine.execDwellExpiry p s
  | .holdTimerExpiry p => Sys2Proof.Machine.execHoldTimerExpiry p s
  | .reading c overMark value => Sys2Proof.Machine.execReading c overMark value s
  | .faultMarkedRecord c => Sys2Proof.Machine.execFaultMarkedRecord c s
  | .silenceExpiry c => Sys2Proof.Machine.execSilenceExpiry c s
  | .stallTimerExpiry c => Sys2Proof.Machine.execStallTimerExpiry c s
  | .ready => Sys2Proof.Machine.execReady s
  | .result halo hydro => Sys2Proof.Machine.execResult halo hydro s
  | .sampleTimerExpiry => Sys2Proof.Machine.execSampleTimerExpiry s
  | .sniffTimerExpiry => Sys2Proof.Machine.execSniffTimerExpiry s
  | .resultTimeout => Sys2Proof.Machine.execResultTimeout s
  | .sniffWarning => Sys2Proof.Machine.execSniffWarning s
  | .sniffDue => Sys2Proof.Machine.execSniffDue s
  | .leakRecentExpiry => Sys2Proof.Machine.execLeakRecentExpiry s
  | .flowWindowExpiry => Sys2Proof.Machine.execFlowWindowExpiry s
  | .purgeWindowExpiry => Sys2Proof.Machine.execPurgeWindowExpiry s
  | .drainExpiry => Sys2Proof.Machine.execDrainExpiry s
  | .purgeExpiry => Sys2Proof.Machine.execPurgeExpiry s
  | .backoffExpiry => Sys2Proof.Machine.execBackoffExpiry s
  | .overpressureRepeat => Sys2Proof.Machine.execOverpressureRepeat s
  | .conflictRepeatExpiry => Sys2Proof.Machine.execConflictRepeatExpiry s
  | .holdRunsOut c => Sys2Proof.Machine.execHoldRunsOut c s
  | .recordDiscarded link defect => Sys2Proof.Machine.execRecordDiscarded link defect s
  | .recordLinkQuiet link => Sys2Proof.Machine.execRecordLinkQuiet link s

end Sys2Proof.Machine
end

