-- ==== Sys2Proof/Machine/Tick.lean ====
section
/-! DEFINITION. Time (00_scope, Time): what the station does when no command waits. Every expiry, edge and sample the manual gives
is a row of the table; where one is due it is taken, and where none is due a millisecond passes (log 2). -/

namespace Sys2Proof.Machine

/-- A command, where its timer is due. -/
def dueIf (t : Timer) (i : Instr) : List Instr := if t.isDue then [i] else []

def State.duePorts (s : State) : List Instr :=
  PortId.all.flatMap fun p =>
    let x := s.port p
    match x.state with
    | .opened => dueIf x.connect (.connectTimeout p)
    | .settle => dueIf x.settle (.settleExpiry p)
    | .classify => dueIf x.classifyWait (.classifyWaitExpiry p)
    | .extract => dueIf x.dwell (.dwellExpiry p)
    | .riseTest => dueIf x.hold (.holdTimerExpiry p)
    | .unused => []
    | .vacant => []
    | .wait _ => []
    | .quarantine _ => []
    | .closing => []
    | .unclamp => []

def State.dueReceivers (s : State) : List Instr :=
  [GasClass.halo, GasClass.hydro].flatMap fun c =>
    dueIf (s.rcv c).silence (.silenceExpiry c) ++ dueIf (s.rcv c).stall (.stallTimerExpiry c)

/-- The sweep's warning rises the lead before the due time, and the sniff is due at it (R71, R72). -/
def State.dueSweep (s : State) : List Instr :=
  match s.ana.dueAt with
  | none => []
  | some d =>
    (if s.ana.warning = false ∧ d - sweepLead s.cfg.analyser ≤ s.clock then [.sniffWarning] else []) ++
      (if s.ana.pendingSniff = false ∧ d ≤ s.clock then [.sniffDue] else [])

def State.dueAnalyser (s : State) : List Instr :=
  (match s.ana.state with
    | .classifying _ .sample _ => dueIf s.ana.sampleT .sampleTimerExpiry
    | .sniffing _ .sample _ => dueIf s.ana.sampleT .sniffTimerExpiry
    | _ => []) ++
  (if s.ana.state.awaitsResult then dueIf s.ana.resultT .resultTimeout else []) ++ dueIf s.ana.leakT .leakRecentExpiry ++ s.dueSweep

def State.dueAgent (s : State) : List Instr :=
  (match s.agent.dstate with
    | .listenFlow => dueIf s.agent.window .flowWindowExpiry
    | .listenPurge => dueIf s.agent.window .purgeWindowExpiry
    | .drain => dueIf s.agent.drain .drainExpiry
    | .purging => dueIf s.agent.purge .purgeExpiry
    | .backoff => dueIf s.agent.backoff .backoffExpiry
    | .idle => []
    | .waiting => []
    | .flowing => []) ++
  dueIf s.agent.overRepeat .overpressureRepeat ++ dueIf s.agent.conflictRepeat .conflictRepeatExpiry ++
  dueIf s.agent.heldH (.holdRunsOut .halo) ++ dueIf s.agent.heldK (.holdRunsOut .hydro)

def State.dueLine (s : State) : List Instr :=
  dueIf s.line.listenT .listenInEnd ++ dueIf s.line.clashT .clashTimerExpiry ++
    dueIf s.line.beaconT .beaconTimerExpiry ++
    (addresses.flatMap fun a => dueIf (s.peer a).timer (.peerStale a)) ++
    dueIf s.lc.estopRepeat .estopRepeatExpiry ++ dueIf s.lc.inhibit .inhibitTimerExpiry

/-- The quiet of the three byte links in the states that wait for it, and the gap of a message or record in reception (R175,
R200). -/
def State.dueLinks (s : State) : List Instr :=
  (match s.op.framer with
    | .hunting => []
    | .inMessage _ => dueIf s.op.gap .operatorGapExpiry
    | .waitingQuiet => dueIf s.op.gap .operatorLinkQuiet
    | .skipping => dueIf s.op.gap .operatorLinkQuiet) ++
  [RecordLink.scale, RecordLink.analyser].flatMap fun l =>
    match (s.recordLink l).framer with
    | .hunting => []
    | _ => dueIf (s.recordLink l).gap (.recordLinkQuiet l)

/-- A pending edge is delivered to its owner, and a line that has differed for its filter time changes its level (R161, R162). -/
def State.dueInputs (s : State) : List Instr :=
  allLines.flatMap fun l =>
    (if (s.field.input l).assertLatch then [edgeCommand l true] else []) ++
      (if (s.field.input l).deassertLatch then [edgeCommand l false] else []) ++
      dueIf (s.field.input l).filter (.debounceChange ⟨l, .settles⟩)

/-- What a transducer shows when the station itself takes its sample: a free value (log 6). -/
def State.freeSignal (s : State) : Signal :=
  match Config.freeSignal s.free with
  | none => .belowLiveZero
  | some n => .hpa n

/-- The samples whose timers have expired (R169). -/
def State.dueSamples (s : State) : List Instr :=
  (PortId.all.flatMap fun p => dueIf (s.field.sampleTs.get p) (.portSample p s.freeSignal)) ++
    dueIf s.field.headerT (.headerSample s.freeSignal)

/-- Everything that is due: the expiries, the edges and the samples. -/
def State.dueNow (s : State) : List Instr :=
  s.duePorts ++ s.dueReceivers ++ s.dueAnalyser ++ s.dueAgent ++ s.dueLine ++ s.dueLinks ++ s.dueInputs ++ s.dueSamples

/-- Which of the due events is taken: the manual leaves their order open, and a free value says it (log 2). -/
def State.nextDue (s : State) : Option Instr := s.dueNow[Config.freeOrder s.free % s.dueNow.length]?

/-- A step on an empty queue: a due event is taken, or a millisecond passes (DESIGN CHOICE, log 2). -/
def tick (s : State) : Answer :=
  match s.nextDue with
  | some i => Sys2Proof.Machine.exec i { s with free := s.free + 1 }
  | none => .next (s.elapse 1)

end Sys2Proof.Machine
end

