-- ==== Sys2Proof/Machine/Step.lean ====
section
/-! DEFINITION. One step of the block: the command at the front of the queue, or a tick on an empty queue. -/

namespace Sys2Proof.Machine

/-- The front command is executed on the state with the queue's rest; on an empty queue time passes (log 1, log 2). -/
def step (s : State) : Host.Outcome State Fault Refusal :=
  match s.pending with
  | [] => Sys2Proof.Machine.tick s
  | i :: rest => Sys2Proof.Machine.exec i { s with pending := rest }

/-- The command a word spells, put at the front of the queue; the state as it is where the word spells none. -/
def State.withFetchWord (s : State) (nbits w : Nat) : State :=
  match Sys2Proof.decodeTableWord nbits w with
  | some i => { s with pending := i :: s.pending }
  | none => s

end Sys2Proof.Machine
end

