-- ==== Sys2Proof/Machine/Framer.lean ====
section
/-! DEFINITION. Which command a run of bytes is: the receive framers of the operator port (R175, R176, R199) and of the two
record links (R200); Machine/LineFramer.lean has the station line's. A command stands for a whole frame, message or record
(log 4); these functions say for which. -/

namespace Sys2Proof.Machine

/-! ### The operator port -/

/-- The fields of an OPEN_CASE after its three leading bytes, by its presence bits (11.3, R199): none where the length does
not agree with the fields. -/
def readOpenCase (port cls presence : Byte) (rest : List Byte) : Option Instr :=
  let tagOf (charge foam : Option Word16) (l : List Byte) : Option Instr :=
    match l with
    | n :: tag => if tag.length = n.toNat then some (.openCase port cls charge foam tag) else none
    | [] => none
  match presence.toNat, rest with
  | 0, l => tagOf none none l
  | 1, c1 :: c0 :: l => tagOf (some (c1 ++ c0)) none l
  | 2, m1 :: m0 :: l => tagOf none (some (m1 ++ m0)) l
  | 3, c1 :: c0 :: m1 :: m0 :: l => tagOf (some (c1 ++ c0)) (some (m1 ++ m0)) l
  | _, _ => none

/-- The request of a type and payload whose length the type allows (R176, test 3; R199). -/
def readRequest (type : Byte) (payload : List Byte) : Option Instr :=
  match type.toNat, payload with
  | 1, port :: cls :: presence :: rest => readOpenCase port cls presence rest
  | 2, [port] => some (.abandonCase port)
  | 3, [] => some .takeReport
  | 4, [port] => some (.portStatus port)
  | 5, [] => some .stationStatus
  | 6, [receiver] => some (.clearReceiver receiver)
  | 7, [] => some .pauseLine
  | 8, [] => some .resumeLine
  | _, _ => none

/-- A complete operator message by the three tests of R176, in their order. -/
def messageCommand (type len : Byte) (payload check : List Byte) : Instr :=
  if check ≠ checkBytes (type :: len :: payload) then .malformed
  else if isRequestType type = false then .unknownRequest type
  else (readRequest type payload).getD .malformed

/-! ### The record links -/

/-- A READING by its marks (11.5, R200): a fault-marked record, whatever else it carries, or a reading. -/
def readingCommand (marks hi lo : Byte) : Instr :=
  let c : GasClass := if marks.getLsbD 0 then .hydro else .halo
  if marks &&& 0x3E ≠ 0 then .recordDiscarded .scale .badMarks
  else if marks.getLsbD 7 then .faultMarkedRecord c
  else .reading c (marks.getLsbD 6) (hi ++ lo)

/-- A complete record (R200). -/
def recordCommand (link : RecordLink) (type len : Byte) (payload check : List Byte) : Instr :=
  if check ≠ checkBytes (type :: len :: payload) then .recordDiscarded link .badCheck
  else
    match link, type.toNat, payload with
    | .scale, 0x51, [marks, hi, lo] => readingCommand marks hi lo
    | .scale, 0x51, _ => .recordDiscarded .scale .wrongLength
    | .analyser, 0x61, [] => .ready
    | .analyser, 0x61, _ => .recordDiscarded .analyser .wrongLength
    | .analyser, 0x62, [h1, h0, k1, k0] => .result (h1 ++ h0) (k1 ++ k0)
    | .analyser, 0x62, _ => .recordDiscarded .analyser .wrongLength
    | l, _, _ => .recordDiscarded l .badType

/-- One byte at the framer of the operator link or a record link, no gap before it (R175): `judge` makes the command of a
complete message, `tooLong` is that of a length above 40. -/
def LinkFramer.take (judge : Byte → Byte → List Byte → List Byte → Instr) (tooLong : Instr) (b : Byte) :
    LinkFramer → LinkFramer × Option Instr
  | .waitingQuiet => (.waitingQuiet, none)
  | .skipping => (.skipping, none)
  | .hunting => (if b = startByte then .inMessage [] else .hunting, none)
  | .inMessage bytes =>
    match bytes ++ [b] with
    | type :: len :: rest =>
      if 40 < len.toNat then (.skipping, some tooLong)
      else if rest.length = len.toNat + 2 then
        (.hunting, some (judge type len (rest.take len.toNat) (rest.drop len.toNat)))
      else (.inMessage (type :: len :: rest), none)
    | l => (.inMessage l, none)

/-- A byte from the terminal. -/
def LinkFramer.takeOperator : Byte → LinkFramer → LinkFramer × Option Instr :=
  LinkFramer.take messageCommand .lengthAbove40

/-- A byte on a record link. -/
def LinkFramer.takeRecord (link : RecordLink) : Byte → LinkFramer → LinkFramer × Option Instr :=
  LinkFramer.take (recordCommand link) (.recordDiscarded link .lengthAbove40)

end Sys2Proof.Machine
end

