-- ==== Sys2Proof/Safety.lean ====
section
/-! DEFINITION. What must hold of the station in every state it reaches: the mass account's identity (R40), the header outputs
(R138), the receiver valves (R5, R28, R41), the analyser's paths (R59), and the bounds of the queues (R88, R104); and the words in
which statements about one command are said. -/

namespace Sys2Proof.Machine

/-! ### The mass account (R40) -/

/-- A 16-bit reading as a 32-bit figure of the account. -/
def figure (w : Word16) : Word32 := BitVec.ofNat 32 w.toNat

/-- `last` - `baseline` equals `attributed` + `unattributed` - `outflow` + `drift`, in arithmetic that wraps; before the first
reading all six figures are zero (R40). -/
def Receiver.AccountHolds (r : Receiver) : Prop :=
  figure r.last - figure r.baseline = r.attributed + r.unattributed - r.outflow + r.drift ∧
    (r.first = false →
      r.baseline = 0 ∧ r.last = 0 ∧ r.attributed = 0 ∧ r.unattributed = 0 ∧ r.outflow = 0 ∧ r.drift = 0)

/-- The identity at both receivers. -/
def State.AccountsHold (s : State) : Prop := s.halo.AccountHolds ∧ s.hydro.AccountHolds

/-! ### The header agent's outputs (R111, R138) -/

/-- The discharge valve of a class. -/
def Agent.disch (a : Agent) : GasClass → Bool
  | .halo => a.dischH
  | .hydro => a.dischK

/-- The selector line of a class. -/
def Agent.sel (a : Agent) : GasClass → Bool
  | .halo => a.selH
  | .hydro => a.selK

/-- R138, with what keeps it: a class is sought in every state but IDLE, an agent of a PAUSED station or in address clash is
IDLE, under hydrocarbon inhibit none seeks HYDRO (R111, R135 to R137), and the view names the class that flows (R130). -/
def State.OutputsSafe (s : State) : Prop :=
  (s.agent.dstate = .idle ↔ s.agent.sought = none) ∧
  (∀ c, s.agent.sel c = s.agent.disch c) ∧
  (∀ c, s.agent.disch c = true → s.agent.dstate = .flowing ∧ s.agent.sought = some c ∧ s.agent.viewClass = some c) ∧
  (s.agent.purgeV = true → s.agent.dstate = .purging) ∧
  (s.lc.paused = true → s.agent.dstate = .idle) ∧
  (s.line.clash = true → s.agent.dstate = .idle) ∧
  (s.inhibited = true → s.agent.sought ≠ some .hydro) ∧
  (s.agent.dstate = .flowing → s.agent.viewClass = s.agent.sought)

/-! ### The receiver valves (R5, R28, R41) -/

/-- A port's open valve: the port extracts a case of that class, the receiver is ACCEPTING, the station is in RUN, and for
HYDRO no inhibit is active. -/
def State.ValvesSafe (s : State) : Prop :=
  ∀ p c, (s.port p).valve c = true →
    (s.port p).state = .extract ∧ (s.port p).gas = some c ∧ s.accepting c = true ∧ s.lc.paused = false ∧
      (c = .hydro → s.inhibited = false)

/-! ### The analyser's paths (R59) -/

/-- A SAMPLE path is open only in the sample phase of its port's classify sample, a SNIFF path only in that of its port's
sniff; and a due sniff is pending only while a sample runs (R72). -/
def Analyser.PathsSafe (a : Analyser) : Prop :=
  (∀ p, a.sampleV.get p = true → ∃ w, a.state = .classifying p .sample w) ∧
  (∀ p, a.sniffV.get p = true → ∃ n, a.state = .sniffing p .sample n) ∧
  (a.pendingSniff = true →
    (∃ p ph w, a.state = .classifying p ph w) ∨ ∃ p ph n, a.state = .sniffing p ph n)

/-! ### The queues (R88, R104) -/

def State.QueuesBounded (s : State) : Prop :=
  s.line.queue.length ≤ Config.frameRoom ∧ s.store.queue.length ≤ Config.reportRoom

/-! ### What a command leaves as it was -/

/-- The blocks of the state; the queue of commands that wait is none of them. -/
inductive Block where
  | clock
  | loader
  | ports
  | store
  | ana
  | receiver (c : GasClass)
  | agent
  | line
  | peers
  | conditions
  | field
  | op
  | link (l : RecordLink)
  | free
  deriving DecidableEq, Repr

/-- A block is the same in two states. -/
def Block.same (b : Block) (s u : State) : Prop :=
  match b with
  | .clock => u.clock = s.clock
  | .loader => u.loader = s.loader
  | .ports => u.ports = s.ports
  | .store => u.store = s.store
  | .ana => u.ana = s.ana
  | .receiver c => u.rcv c = s.rcv c
  | .agent => u.agent = s.agent
  | .line => u.line = s.line
  | .peers => u.peers = s.peers
  | .conditions => u.lc = s.lc
  | .field => u.field = s.field
  | .op => u.op = s.op
  | .link l => u.recordLink l = s.recordLink l
  | .free => u.free = s.free

/-- Every block but those named is the same. -/
def State.SameBut (changed : List Block) (s u : State) : Prop := ∀ b, b ∉ changed → b.same s u

/-- Every port but one is the same. -/
def State.SamePortsBut (p : PortId) (s u : State) : Prop := ∀ q, q ≠ p → u.port q = s.port q

/-! ### Requests (R174 to R178) -/

/-- The type code of a request (11.3). -/
def requestType : Instr → Option Byte
  | .openCase _ _ _ _ _ => some 0x01
  | .abandonCase _ => some 0x02
  | .takeReport => some 0x03
  | .portStatus _ => some 0x04
  | .stationStatus => some 0x05
  | .clearReceiver _ => some 0x06
  | .pauseLine => some 0x07
  | .resumeLine => some 0x08
  | _ => none

/-- The refusal owed for a message that completes or is discarded while the transmitter sends (R177). -/
def owedFor (i : Instr) : Option Owed :=
  match requestType i with
  | some type => some (.busy type)
  | none =>
    match i with
    | .unknownRequest type => some (.busy type)
    | .malformed => some .malformed
    | .lengthAbove40 => some .malformed
    | .operatorGapExpiry => some .malformed
    | _ => none

/-- The operator port with its framer after a message: SKIPPING after a length above 40, HUNTING after any other (R175). -/
def framerAfter (i : Instr) (x : OperatorPort) : OperatorPort :=
  match i with
  | .lengthAbove40 => { x with framer := .skipping, gap := .running 11 }
  | _ => { x with framer := .hunting, gap := .stopped }

/-- The state in which a message is judged (R175, R176): the gap that discards one passes first (log 1). -/
def State.whenJudged (i : Instr) (s : State) : State :=
  match i with
  | .operatorGapExpiry => s.elapse s.messageGap
  | _ => s

/-- The operator port takes a message: its framer has one to take, and its transmitter is IDLE (R175, R177). -/
def State.portFree (s : State) : Prop := s.op.framer.active = true ∧ s.op.tx = .idle

/-- A request comes to its own checks (R178). -/
def State.serves (s : State) : Prop := s.portFree ∧ s.configFault = false ∧ s.line.listenIn = false

/-- The request is answered by these messages, and nothing else changes at the operator port. -/
def Answered (l : List Message) (s u : State) : Prop :=
  u.op = { s.op with framer := .hunting, gap := .stopped, tx := .responding l }

/-- The request is refused, and no block but the operator port changes. -/
def Refused (code type : Byte) (s u : State) : Prop := s.SameBut [.op] u ∧ Answered [⟨0x82, [code, type]⟩] s u

/-- A frame stands in the transmit queue, or is owed a further offer (R154; the owing is the model's choice, log 9). -/
def State.willSend (f : Frame) (u : State) : Prop := (∃ q ∈ u.line.queue, q.frame = f) ∨ f ∈ u.lc.owed

/-- What a collision leaves in the receive framer of the frame the station drove: `n` of its bytes came back as driven, and then
`odd`, a byte that differs, or none (R103). The framer takes them as any receiver does (R99): hunting at another start byte,
skipping with a count at another length or another last check byte (R100), and else in-frame. Where nothing came back, it takes
nothing. -/
def LineIf.KeepsRemainder (driven : List Byte) (l m : LineIf) : Prop :=
  ∃ (n : Nat) (odd : Option Byte), n < driven.length ∧ (∀ b, odd = some b → driven[n]? ≠ some b) ∧
    if n = 0 ∧ odd = none then m.framer = l.framer ∧ m.rxErrors = l.rxErrors
    else if n = 0 then m.framer = .hunting ∧ m.rxErrors = l.rxErrors
    else if odd ≠ none ∧ (n = 2 ∨ n + 1 = driven.length) then
      m.framer = .skipping ∧ m.rxErrors = min 65535 (l.rxErrors + 1)
    else m.framer = .inFrame ((driven.take n).tail ++ odd.toList) ∧ m.rxErrors = l.rxErrors

/-- What becomes of a lost PAUSE, RESUME or ALARM: it is offered again while its condition holds (R154). -/
def State.OfferedAgain (s : State) (f g : Frame) : Prop :=
  (∃ c, f = .pause c ∧ s.lc.paused = true ∧ g = .pause c) ∨ f = .resume ∧ s.lc.paused = false ∧ g = .resume ∨
    ∃ n m, f = .alarm n ∧ s.lc.inhibit = .running (m + 1) ∧ g = .alarm ((m + 1 + 999) / 1000)

/-! ### Fields of the image and of STATUS (11.4, 11.6) -/

/-- A one-byte field of the image. -/
def byteAt (b : List Byte) (i : Nat) : Nat := (b.getD i 0).toNat

/-- A two-byte field of the image, high byte first. -/
def wordAt (b : List Byte) (i : Nat) : Nat := byteAt b i * 256 + byteAt b (i + 1)

/-- A value clamped into a range (R190). -/
def clampTo (lo hi n : Nat) : Nat := if n < lo then lo else if hi < n then hi else n

/-- Sixteen bits, one for each input line by its number in 11.4. -/
def lineMask (f : InputLine → Bool) : Nat :=
  (PortId.all.map fun p =>
    flagBit (f (.clamp p)) (3 * p.num) + flagBit (f (.confirm p)) (3 * p.num + 1) +
      flagBit (f (.release p)) (3 * p.num + 2)).sum +
    flagBit (f .estop) 12 + flagBit (f .selH) 13 + flagBit (f .selK) 14

/-! ### Frames heard (R101, R113, R114, R141) -/

/-- The source and the fields of a frame command whose fields hold defined values (R198). -/
def frameOf : Instr → Option (Address × Frame)
  | .beacon src payload => (readBeacon payload).map fun f => (src, f)
  | .intent src purpose cls key => (readIntent purpose cls key).map fun f => (src, f)
  | .flowOn src cls serial => (readFlowOn cls serial).map fun f => (src, f)
  | .flowOff src cls => (readFlowOff cls).map fun f => (src, f)
  | .purgeStart src cls serial => (readPurgeStart cls serial).map fun f => (src, f)
  | .purgeDone src cls serial => (readPurgeDone cls serial).map fun f => (src, f)
  | .hold src cls reason => (readHold cls reason).map fun f => (src, f)
  | .pause src cause => (readPause cause).map fun f => (src, f)
  | .resume src => some (src, .resume)
  | .alarm src cls seconds => (readAlarm cls seconds).map fun f => (src, f)
  | _ => none

/-- A frame of a peer reaches a station that hears. -/
def State.hears (i : Instr) (src : Address) (f : Frame) (s : State) : Prop :=
  frameOf i = some (src, f) ∧ s.loaded = true ∧ src ≠ s.cfg.address

/-- A class and a serial are taken into the view (R113); `spoke` says that the purge owner says its purge is over (R114). -/
def ViewTaken (c : Option GasClass) (serial : Byte) (spoke : Prop) (a b : Agent) : Prop :=
  (newer serial a.viewSerial = true → b.viewClass = c ∧ b.viewSerial = serial ∧ b.owner = none) ∧
  (newer serial a.viewSerial = false →
    b.viewSerial = a.viewSerial ∧ (spoke → b.owner = none ∧ b.viewClass = none) ∧ (¬spoke → b.owner = a.owner) ∧
    (¬spoke → serial = a.viewSerial → c.isSome → a.viewClass.isSome → c ≠ a.viewClass → b.viewClass = none) ∧
    (¬spoke → ¬(serial = a.viewSerial ∧ c.isSome ∧ a.viewClass.isSome ∧ c ≠ a.viewClass) →
      b.viewClass = a.viewClass))

/-! ### How a case closes (R29, R87, R88) -/

/-- The completed record (R87). Its seconds stop at the top of 32 bits, which is the model's choice (log 19). -/
def closedRecord (s : State) (r : CaseRecord) (res : CaseResult) : CaseRecord :=
  { r with
    result := some res
    closedS := some s.seconds
    yieldFig := yieldOf r res
    lowYield := lowYieldOf (s.cfg.kindSet r.kind).lowYield (yieldOf r res) }

/-- Valves closed, timers stopped, k and P_start dropped; then the record is in the queue, or the port waits in CLOSING. -/
def State.CaseClosed (p : PortId) (r : CaseRecord) (res : CaseResult) (s u : State) : Prop :=
  (u.port p).valveH = false ∧ (u.port p).valveK = false ∧ (u.port p).k = none ∧ (u.port p).pStart = none ∧
    (u.port p).dwell = .stopped ∧ (u.port p).connect = .stopped ∧ (u.port p).settle = .stopped ∧
    (u.port p).classifyWait = .stopped ∧ (u.port p).hold = .stopped ∧
    (if s.store.queue.length < Config.reportRoom then
      u.store = { s.store with queue := s.store.queue ++ [closedRecord s r res] } ∧ (u.port p).slot = none ∧
        (u.port p).state = (if (u.port p).clamp then .unclamp else .vacant) ∧ u.op.flag .caseReport = true
    else u.store = s.store ∧ (u.port p).slot = some (closedRecord s r res) ∧ (u.port p).state = .closing)

/-! ### Ports at a pause and at RESUME (R26, R27) -/

/-- Each port's reaction to a pause start (R26). A port in EXTRACT finds its receiver not DISCHARGING (R48). -/
def State.PortsPaused (s u : State) : Prop :=
  ∀ p,
    match (s.port p).state with
    | .opened => u.port p = { s.port p with connect := (s.port p).connect.freeze }
    | .settle => u.port p = { s.port p with settle := .stopped }
    | .classify => u.port p = { s.port p with classifyWait := (s.port p).classifyWait.freeze }
    | .extract =>
      (∀ c, (s.port p).gas = some c → (s.rcv c).state ≠ .discharging) →
        u.port p = { s.port p with valveH := false, valveK := false, dwell := (s.port p).dwell.freeze }
    | .riseTest => u.port p = { s.port p with hold := .stopped, pStart := none }
    | _ => u.port p = s.port p

/-- The three tests of R10 in RUN, at a port whose case is of a class. -/
def State.Routed (p : PortId) (c : GasClass) (s u : State) : Prop :=
  u.port p =
    (if c = .hydro ∧ s.inhibited = true then
      { s.port p with state := .wait .inhibit, valveH := false, valveK := false, dwell := (s.port p).dwell.freeze }
    else if s.accepting c = false then
      { s.port p with state := .wait .receiver, valveH := false, valveK := false, dwell := (s.port p).dwell.freeze }
    else
      { s.port p with
        state := .extract, valveH := decide (c = .halo), valveK := decide (c = .hydro), dwell := (s.port p).dwell.thaw })

/-- Each port's reaction to RESUME (R27). -/
def State.PortsResumed (s u : State) : Prop :=
  ∀ p,
    match (s.port p).state with
    | .opened =>
      u.port p =
        (if (s.port p).clamp = true ∧ (s.port p).confirm = true then
          { s.port p with
            state := .settle, connect := .stopped
            settle := .running ((s.portSet (s.port p)).settleTenths * 100) }
        else { s.port p with connect := (s.port p).connect.thaw })
    | .settle => u.port p = { s.port p with settle := .running ((s.portSet (s.port p)).settleTenths * 100) }
    | .classify => u.port p = { s.port p with classifyWait := (s.port p).classifyWait.thaw }
    | .extract => ∀ c, (s.port p).gas = some c → s.Routed p c u
    | .wait _ => ∀ c, (s.port p).gas = some c → s.Routed p c u
    | .riseTest =>
      u.port p = { s.port p with hold := .running ((s.portSet (s.port p)).holdS * 1000), pStart := none }
    | _ => u.port p = s.port p

/-! ### The header agent in WAITING (R122) -/

/-- The outcome of R122's checks at an agent that waits for a class, by what stands after the event: LISTEN_FLOW, DRAIN, or
WAITING still. -/
def State.WaitingDecided (c : GasClass) (u : State) : Prop :=
  u.agent.dstate =
    (if u.agent.viewClass = some c ∧ u.agent.held c = false ∧ u.noOther c = true then .listenFlow
    else if u.agent.viewClass ≠ some c ∧ u.flowingPeers = [] ∧ u.agent.owner = none then .drain
    else .waiting)

/-- An agent outside IDLE and PURGING follows a change of the view, the owner or the derived sets, by what stands after the event:
FLOWING ends where the view no longer names its class (R130), WAITING makes R122's checks where anything changed, DRAIN goes to
WAITING where a peer began to flow or an owner stands, and else to LISTEN_FLOW where the view names its class (R123; the order of
the two is the model's, log 35), and the other states stay. -/
def State.ViewFollowed (d : GasClass) (s u : State) : Prop :=
  let changed := u.flowingPeers ≠ s.flowingPeers ∨ u.waitingPeers ≠ s.waitingPeers ∨
    u.agent.viewClass ≠ s.agent.viewClass ∨ u.agent.viewSerial ≠ s.agent.viewSerial ∨ u.agent.owner ≠ s.agent.owner
  (s.agent.dstate = .flowing →
    (u.agent.viewClass = some d →
      u.agent.dstate = .flowing ∧ ∀ c, u.agent.disch c = s.agent.disch c ∧ u.agent.sel c = s.agent.sel c) ∧
    (u.agent.viewClass ≠ some d →
      u.agent.dstate = .backoff ∧ ∀ c, u.agent.disch c = false ∧ u.agent.sel c = false)) ∧
  (s.agent.dstate = .waiting → (changed → u.WaitingDecided d) ∧ (¬changed → u.agent.dstate = .waiting)) ∧
  (s.agent.dstate = .drain →
    u.agent.dstate =
      (if (∃ m ∈ u.flowingPeers, m ∉ s.flowingPeers) ∨ u.agent.owner ≠ none then .waiting
      else if u.agent.viewClass = some d then .listenFlow
      else .drain)) ∧
  (s.agent.dstate ∈ [DState.listenFlow, .listenPurge, .backoff] → u.agent.dstate = s.agent.dstate)

/-! ### Edges, holds, samples, bookings -/

/-- A line whose level `b` turns: with an edge of its kind, or with none where a pause record stands (R161, R163). -/
def LineInput.turned (b : Bool) (i : LineInput) : LineInput :=
  match i.pauseRec with
  | none => { i with level := some !b, assertLatch := !b, deassertLatch := b, filter := .stopped }
  | some _ => { i with level := some !b, filter := .stopped }

/-- The edge an edge command delivers: its line and its kind. -/
def edgeOf : Instr → Option (InputLine × Bool)
  | .clampAssert p => some (.clamp p, true)
  | .clampDeassert p => some (.clamp p, false)
  | .confirmEdge p b => some (.confirm p, b)
  | .releaseReqAssert p => some (.release p, true)
  | .releaseReqDeassert p => some (.release p, false)
  | .estopAssert => some (.estop, true)
  | .estopDeassert => some (.estop, false)
  | .readbackAssert c => some (readbackLine c, true)
  | .readbackDeassert c => some (readbackLine c, false)
  | _ => none

/-- The three lines of a port. -/
def portLines (p : PortId) : List InputLine := [.clamp p, .confirm p, .release p]

/-- The port lines at a pause start (R163): no edge pending, and the level the port last took recorded. -/
def State.LinesSuspended (s u : State) : Prop :=
  ∀ p, ∀ l ∈ portLines p, u.field.input l =
    { s.field.input l with
      assertLatch := false, deassertLatch := false
      pauseRec :=
        if (s.field.input l).isPending then (s.field.input l).level.map (fun b => !b) else (s.field.input l).level }

/-- The port lines at RESUME (R164): the record absent, and an edge of the level's kind where the two differ. -/
def State.LinesResumed (s u : State) : Prop :=
  ∀ p, ∀ l ∈ portLines p, u.field.input l =
    (match (s.field.input l).level, (s.field.input l).pauseRec with
    | some b, some r =>
      if b = r then { s.field.input l with pauseRec := none }
      else { s.field.input l with pauseRec := none, assertLatch := b, deassertLatch := !b }
    | _, _ => { s.field.input l with pauseRec := none })

/-- The line's latch is clear, and nothing else of the field unit changes. -/
def State.EdgeTaken (l : InputLine) (s u : State) : Prop :=
  u.field = s.field.setInput l { s.field.input l with assertLatch := false, deassertLatch := false }

/-- A hold against the class sought takes its effect (R118, R127, R130). -/
def State.HoldTaken (c : GasClass) (s u : State) : Prop :=
  (s.agent.dstate = .flowing → u.agent.dstate = .backoff ∧ u.agent.disch c = false ∧ u.agent.sel c = false) ∧
  (s.agent.dstate = .purging → u.agent.dstate = .backoff ∧ u.agent.purgeV = false ∧ u.agent.viewClass = none ∧
    u.agent.viewSerial = s.agent.purgeSerial ∧ u.agent.owner = none) ∧
  (s.agent.dstate = .listenPurge → u.agent.dstate = .listenPurge ∧ u.agent.reserved = false) ∧
  (s.agent.dstate ∈ [DState.listenFlow, .drain, .backoff] → u.agent.dstate = s.agent.dstate)

/-- A HOLD of the station's own holds both classes for 2000 ms (R115), and the reasons stay those of the last HOLDs heard (R111):
no station hears its own frame (R97). -/
def State.BothHeld (s u : State) : Prop :=
  u.agent.heldH = .running 2000 ∧ u.agent.heldK = .running 2000 ∧ u.agent.reasonH = s.agent.reasonH ∧
    u.agent.reasonK = s.agent.reasonK

/-- The agent flows a class: its valve and its selector and no other, and its receiver DISCHARGING (R129). -/
def State.FlowRuns (c : GasClass) (u : State) : Prop :=
  u.agent.dstate = .flowing ∧ u.agent.sought = some c ∧ u.agent.disch c = true ∧ u.agent.sel c = true ∧
    u.agent.disch c.other = false ∧ u.agent.sel c.other = false ∧ (u.rcv c).state = .discharging

/-- Entry to FLOWING of a class (R129), from the state in which the agent makes it, by how the receiver answers (R48). An ACCEPTING
or FULL receiver above D_off discharges, and FLOW_ON is offered; at or below D_off the flow begins, and its done notice ends it in
the same event with FLOW_OFF (R49, R130; that FLOW_ON goes out first is the model's choice, log 11). STARTING and FAULT answer with
a fault notice: no valve, no selector, no frame of a flow. One that is DISCHARGING already is left as it is. -/
def State.FlowStarted (c : GasClass) (serial : Byte) (e u : State) : Prop :=
  let r := e.rcv c
  let g := e.cfg.rcvSet c
  let rests := r.state = .accepting ∨ r.state = .full
  let offers := e.loaded = true ∧ e.line.clash = false
  (rests ∨ r.state = .discharging → offers → e.line.queue.length < 7 →
    ∃ q ∈ u.line.queue, q.frame = .flowOn c serial) ∧
  (rests → g.dOff < e.level c →
    u.FlowRuns c ∧ (u.rcv c).stall = .running (e.cfg.header.stallS * 1000) ∧ (u.rcv c).lowest = some (r.content g) ∧
      ∀ p, (e.port p).state = .extract → (e.port p).gas = some c →
        (u.port p).state = .wait .receiver ∧ (u.port p).valveH = false ∧ (u.port p).valveK = false) ∧
  (rests → e.level c ≤ g.dOff →
    u.agent.dstate ≠ .flowing ∧ (∀ d, u.agent.disch d = false ∧ u.agent.sel d = false) ∧
      (u.rcv c).state = (if e.level c < g.full then .accepting else .full) ∧ (u.rcv c).stall = .stopped ∧
      (u.rcv c).lowest = none ∧
      (offers → e.line.queue.length < 5 → ∃ q ∈ u.line.queue, q.frame = .flowOff c)) ∧
  (r.state = .starting ∨ r.state.isFault = true →
    u.agent.dstate ≠ .flowing ∧ u.rcv c = r ∧
      (∀ d, u.agent.disch d = e.agent.disch d ∧ u.agent.sel d = e.agent.sel d) ∧
      (∀ q ∈ u.line.queue, (∃ d n, q.frame = .flowOn d n) → q ∈ e.line.queue)) ∧
  (r.state = .discharging → u.FlowRuns c ∧ u.rcv c = r)

/-- A classify sample of a port is in its sample phase, its path just opened (R59, R64). -/
def State.SampleRuns (p : PortId) (u : State) : Prop :=
  u.ana.state = .classifying p .sample false ∧ u.ana.sampleV.get p = true ∧ u.ana.amodeSniff = false ∧
    u.ana.sampleT = .running (u.cfg.analyser.sampleS * 1000)

/-- The four figures of the account that bookings change are the same. -/
def State.SameFigures (c : GasClass) (s u : State) : Prop :=
  (u.rcv c).attributed = (s.rcv c).attributed ∧ (u.rcv c).unattributed = (s.rcv c).unattributed ∧
    (u.rcv c).outflow = (s.rcv c).outflow ∧ (u.rcv c).drift = (s.rcv c).drift

/-- A delta is booked by R39's table: one figure takes it, the others stay, and an attributed one reaches the records of the
open ports in its shares (R17, R43). -/
def State.Booked (c : GasClass) (d : Int) (s u : State) : Prop :=
  let r := s.rcv c
  let shared := 0 < d ∧ r.state = .accepting ∧ 0 < ((s.weights c).map Share.weight).sum
  let unshared := 0 < d ∧ (r.state = .accepting ∧ ((s.weights c).map Share.weight).sum = 0 ∨ r.state = .full)
  let out := d < 0 ∧ r.state = .discharging
  let drifts := d < 0 ∧ (r.state = .accepting ∨ r.state = .full) ∨ 0 ≤ d ∧ r.state = .discharging ∨
    r.state.isFault = true
  (u.rcv c).attributed = (if shared then r.attributed + BitVec.ofInt 32 d else r.attributed) ∧
    (u.rcv c).unattributed = (if unshared then r.unattributed + BitVec.ofInt 32 d else r.unattributed) ∧
    (u.rcv c).outflow = (if out then r.outflow + BitVec.ofInt 32 (-d) else r.outflow) ∧
    (u.rcv c).drift = (if drifts then r.drift + BitVec.ofInt 32 d else r.drift) ∧
    (shared → ∀ x ∈ s.weights c, (u.port x.port).slot = (s.port x.port).slot.map fun y =>
      { y with
        massG := min 65535 (y.massG + finalShare d.toNat (s.weights c) x)
        massSat := y.massSat || decide (65535 < y.massG + finalShare d.toNat (s.weights c) x) }) ∧
    (∀ p, ¬(shared ∧ (s.port p).valve c = true) → (u.port p).slot = (s.port p).slot)

end Sys2Proof.Machine
end

