-- ==== Sys2Proof/Certificates/Slice0/Obligations.lean ====
section
/-! DEFINITION. The statements for the provers. In each, `u` is the state a command's effect leaves; the state it answers is
`u.finish`, in which LAMP and the EVENTS message follow it (Obligations.EventEnd). -/

open Sys2Proof Sys2Proof.Machine

/-! ### Steps, time, the end of an event -/

/-- A step takes the command at the front of the queue. -/
def Obligations.StepRunsFrontCommand : Prop :=
  ∀ (c : Instr) (rest : List Instr) (s : State),
    step { s with pending := c :: rest } = exec c { s with pending := rest }

/-- On an empty queue a due expiry, edge or sample is taken, or a millisecond passes where none is due: the model's choice
(log 2). A sample whose timer has expired is due (R169), and what it measures is a free value (log 6). When time passes the clock
advances, every running timer counts down, a stopped or frozen one keeps what it holds, and nothing else changes (00_scope, Time;
log 1). -/
def Obligations.EmptyQueueTakesTime : Prop :=
  (∀ s : State, s.pending = [] →
    (s.dueNow = [] → step s = .next (s.elapse 1)) ∧
    (s.dueNow ≠ [] → ∃ i ∈ s.dueNow, step s = exec i { s with free := s.free + 1 })) ∧
  (∀ s : State,
    (∀ p, s.field.sampleTs.get p = .running 0 → ∃ signal, Instr.portSample p signal ∈ s.dueNow) ∧
    (s.field.headerT = .running 0 → ∃ signal, Instr.headerSample signal ∈ s.dueNow)) ∧
  ∀ (n : Nat) (s : State),
    (∀ m, Timer.elapse n (.running m) = .running (m - n)) ∧ (∀ m, Timer.elapse n (.frozen m) = .frozen m) ∧
    Timer.elapse n .stopped = .stopped ∧
    s.elapse n =
      { s with
        clock := s.clock + n
        ports := s.ports.map fun x =>
          { x with
            dwell := x.dwell.elapse n, connect := x.connect.elapse n, settle := x.settle.elapse n,
            classifyWait := x.classifyWait.elapse n, hold := x.hold.elapse n }
        ana := { s.ana with
          sampleT := s.ana.sampleT.elapse n, resultT := s.ana.resultT.elapse n, leakT := s.ana.leakT.elapse n }
        halo := { s.halo with silence := s.halo.silence.elapse n, stall := s.halo.stall.elapse n }
        hydro := { s.hydro with silence := s.hydro.silence.elapse n, stall := s.hydro.stall.elapse n }
        agent := { s.agent with
          heldH := s.agent.heldH.elapse n, heldK := s.agent.heldK.elapse n, window := s.agent.window.elapse n,
          drain := s.agent.drain.elapse n, purge := s.agent.purge.elapse n, backoff := s.agent.backoff.elapse n,
          overRepeat := s.agent.overRepeat.elapse n, conflictRepeat := s.agent.conflictRepeat.elapse n }
        line := { s.line with
          listenT := s.line.listenT.elapse n, clashT := s.line.clashT.elapse n, beaconT := s.line.beaconT.elapse n }
        peers := s.peers.map fun x => { x with timer := x.timer.elapse n }
        lc := { s.lc with estopRepeat := s.lc.estopRepeat.elapse n, inhibit := s.lc.inhibit.elapse n }
        field := { s.field with
          clamp := s.field.clamp.map fun i => { i with filter := i.filter.elapse n }
          confirm := s.field.confirm.map fun i => { i with filter := i.filter.elapse n }
          release := s.field.release.map fun i => { i with filter := i.filter.elapse n }
          estop := { s.field.estop with filter := s.field.estop.filter.elapse n }
          selH := { s.field.selH with filter := s.field.selH.filter.elapse n }
          selK := { s.field.selK with filter := s.field.selK.filter.elapse n }
          sampleTs := s.field.sampleTs.map (Timer.elapse n), headerT := s.field.headerT.elapse n }
        op := { s.op with gap := s.op.gap.elapse n }
        scaleLink := { s.scaleLink with gap := s.scaleLink.gap.elapse n }
        anaLink := { s.anaLink with gap := s.anaLink.gap.elapse n } }

/-- Every command of the table runs: none faults and none is refused, and none touches the queue of commands that wait. All of
this is the model's choice: that no command is refused or stops is log 26, that one whose event cannot occur answers a state all
the same is log 3, and that RESET leaves the queue is log 24. -/
def Obligations.EveryCommandRuns : Prop :=
  ∀ (i : Instr) (s : State), ∃ t : State, exec i s = .next t ∧ t.pending = s.pending

/-- The end of an event: LAMP is lit exactly under its three conditions (R168); the filter of an input line runs while what the
line shows differs from its level with no edge pending, from the start of the difference, and stops when the difference is gone
(R161, R162, R166); and an EVENTS message with every flag starts where the transmitter is IDLE, no refusal is owed and a flag is
set (R183). Nothing else changes. -/
def Obligations.EventEnd : Prop :=
  ∀ s : State,
    s.SameBut [.field, .op] s.finish ∧
    s.finish.field.samples = s.field.samples ∧ s.finish.field.headerSample = s.field.headerSample ∧
    s.finish.field.sampleTs = s.field.sampleTs ∧ s.finish.field.headerT = s.field.headerT ∧
    (s.finish.field.lamp = true ↔
      (∃ p q, (s.port p).state = .quarantine q) ∨ s.ana.leakRecent = true ∨ s.inhibited = true) ∧
    (∀ l, s.finish.field.input l =
      { s.field.input l with
        filter :=
          (match (s.field.input l).level with
          | none => .stopped
          | some b =>
            if (s.field.input l).isPending = true ∨ b = s.lineNow l then .stopped
            else if (s.field.input l).filter.isRunning = true then (s.field.input l).filter
            else .running (s.filterMs l)) }) ∧
    s.finish.op =
      (if s.op.tx = .idle ∧ s.op.owed = none ∧ s.op.flags ≠ 0 then
        { s.op with tx := .notifying ⟨0x87, bytes16 s.op.flags.toNat⟩, flags := 0 }
      else s.op)

/-! ### Start-up (10) -/

/-- RESET: every block in the reset state its chapter gives, its timers stopped (R3, R80, R96, R111, R138, R140, R146, R155,
R160, R167, R169, R187; 2.1, 3.1, 6.1, 9.1). That the queue of commands and the count of free values, the model's own, stay is
its choice (log 24). -/
def Obligations.ResetPutsEveryBlockInItsResetState : Prop :=
  ∀ s : State, ∃ t : State, exec .reset s = .next t ∧ t.pending = s.pending ∧ t.free = s.free ∧ t.clock = 0 ∧
    t.loader.state = .loading ∧ t.loader.image = none ∧ t.loader.cfg = none ∧ t.loader.warnings = .none ∧
    (∀ p, (t.port p).slot = none ∧ (t.port p).k = none ∧ (t.port p).pStart = none ∧ (t.port p).valveH = false ∧
      (t.port p).valveK = false ∧ (t.port p).connect = .stopped ∧ (t.port p).settle = .stopped ∧
      (t.port p).classifyWait = .stopped ∧ (t.port p).hold = .stopped ∧ (t.port p).dwell = .stopped) ∧
    t.store.queue = [] ∧ t.store.nextNo = 1 ∧
    t.ana.state = .notReady ∧ t.ana.queue = [] ∧ t.ana.count = 0 ∧ t.ana.pointer = .p3 ∧ t.ana.dueAt = none ∧
    t.ana.warning = false ∧ t.ana.pendingSniff = false ∧ t.ana.leakRecent = false ∧ t.ana.amodeSniff = false ∧
    t.ana.sampleT = .stopped ∧ t.ana.resultT = .stopped ∧ t.ana.leakT = .stopped ∧
    (∀ p, t.ana.sampleV.get p = false ∧ t.ana.sniffV.get p = false) ∧
    (∀ c, (t.rcv c).state = .starting ∧ (t.rcv c).first = false ∧ (t.rcv c).latest = 0 ∧ (t.rcv c).overMark = false ∧
      (t.rcv c).baseline = 0 ∧ (t.rcv c).last = 0 ∧ (t.rcv c).attributed = 0 ∧ (t.rcv c).unattributed = 0 ∧
      (t.rcv c).outflow = 0 ∧ (t.rcv c).drift = 0 ∧ (t.rcv c).request = false ∧ (t.rcv c).silence = .stopped ∧
      (t.rcv c).stall = .stopped ∧ (t.rcv c).lowest = none ∧ (t.rcv c).doneSent = false ∧ (t.rcv c).stallSent = false) ∧
    t.agent.dstate = .idle ∧ t.agent.sought = none ∧ t.agent.key = 0 ∧ t.agent.purgeSerial = 0 ∧
    t.agent.viewClass = none ∧ t.agent.viewSerial = 0 ∧ t.agent.owner = none ∧
    (∀ c, t.agent.held c = false ∧ t.agent.disch c = false ∧ t.agent.sel c = false) ∧ t.agent.purgeV = false ∧
    t.agent.overpressure = false ∧ t.agent.headerFault = false ∧ t.agent.conflict = false ∧
    t.agent.heldH = .stopped ∧ t.agent.heldK = .stopped ∧ t.agent.reasonH = none ∧ t.agent.reasonK = none ∧
    t.agent.window = .stopped ∧ t.agent.drain = .stopped ∧ t.agent.purge = .stopped ∧ t.agent.backoff = .stopped ∧
    t.agent.overRepeat = .stopped ∧ t.agent.conflictRepeat = .stopped ∧
    t.line.framer = .skipping ∧ t.line.tx = .silent ∧ t.line.queue = [] ∧ t.line.headCount = 0 ∧ t.line.rxErrors = 0 ∧
    t.line.collisions = 0 ∧ t.line.listenIn = false ∧ t.line.clash = false ∧ t.line.listenT = .stopped ∧
    t.line.clashT = .stopped ∧ t.line.beaconT = .stopped ∧
    (∀ a, (t.peer a).present = false ∧ (t.peer a).stale = false ∧ (t.peer a).timer = .stopped ∧
      (t.peer a).beacon = none ∧ (t.peer a).disch = none ∧ (t.peer a).position = none) ∧
    t.lc.paused = false ∧ t.lc.causeLine = false ∧ t.lc.causeEstop = false ∧ t.lc.causeOperator = false ∧
    t.lc.lastPause = none ∧ t.lc.estopRepeat = .stopped ∧ t.lc.inhibit = .stopped ∧
    (∀ l, (t.field.input l).level = none ∧ (t.field.input l).isPending = false ∧ (t.field.input l).pauseRec = none ∧
      (t.field.input l).filter = .stopped) ∧
    (∀ p, t.field.samples.get p = .absent ∧ t.field.sampleTs.get p = .stopped) ∧ t.field.headerSample = .absent ∧
    t.field.headerT = .stopped ∧ t.field.lamp = false ∧
    t.op.framer = .waitingQuiet ∧ t.op.tx = .idle ∧ t.op.owed = none ∧ t.op.flags = 0

/-- The three checks of the image in their order, and LOADING_FINISHES with an image that fails one: CONFIG_FAULT with its
cause and no configuration; only the pressure sampling and the operator port begin (R188, R189, R195). That its more than 10 ms
of quiet are 11 ms is the model's choice (log 19). -/
def Obligations.FailedImageLeavesConfigFault : Prop :=
  imageFault .noAck = some .noAck ∧
  (∀ b : List Byte,
    (crc16 (b.take 126) ≠ word16Of (b.getD 126 0) (b.getD 127 0) → imageFault (.bytes b) = some .check) ∧
    (crc16 (b.take 126) = word16Of (b.getD 126 0) (b.getD 127 0) →
      imageFault (.bytes b) = if 14 < (b.getD 0 0).toNat then some .address else none)) ∧
  ∀ (read : ReadOutcome) (pins : BitVec 15) (cause : ConfigCause) (s : State),
    s.loader.state = .loading → imageFault read = some cause →
    ∃ u : State, exec (.loadingFinishes read pins) s = .next u.finish ∧ s.SameBut [.loader, .field, .op] u ∧
      u.loader.state = .configFault cause ∧ u.loader.cfg = none ∧ u.loader.warnings = .none ∧
      u.field =
        { s.field with
          sampleTs := ⟨.running 50, .running 50, .running 50, .running 50⟩, headerT := .running 50 } ∧
      u.op = { s.op with framer := .waitingQuiet, gap := .running 11 }

/-- LOADING_FINISHES with a good image: the blocks begin from the clamped image (R195, R196), ports by their kinds with the
initial levels (R1, R3, R160), listen-in (R106), the silence timers (R32), and the pause where ESTOP is pressed (R146). That the
more than 10 ms of quiet of the byte links are 11 ms is the model's choice (log 19). -/
def Obligations.GoodImageStartsTheStation : Prop :=
  ∀ (b : List Byte) (pins : BitVec 15) (s : State),
    s.loader.state = .loading → imageFault (.bytes b) = none →
    ∃ u : State, exec (.loadingFinishes (.bytes b) pins) s = .next u.finish ∧
      u.loader = ⟨.loaded, some b, some (readConfig b), readWarnings b⟩ ∧
      (∀ l, (u.field.input l).level = some (lineLevel (readConfig b).polarities pins l) ∧
        (u.field.input l).isPending = false) ∧
      (∀ p, u.field.sampleTs.get p = .running 50) ∧ u.field.headerT = .running 50 ∧
      (∀ p,
        (u.port p).state = (match (readConfig b).kinds.get p with | some _ => .vacant | none => .unused) ∧
        (u.port p).clamp = lineLevel (readConfig b).polarities pins (.clamp p) ∧
        (u.port p).confirm = lineLevel (readConfig b).polarities pins (.confirm p)) ∧
      (∀ c, (u.rcv c).silence = .running 500) ∧
      u.line.listenIn = true ∧ u.line.listenT = .running 1000 ∧
      u.op.framer = .waitingQuiet ∧ u.op.gap = .running 11 ∧
      (∀ l, u.recordLink l = ⟨.waitingQuiet, .running 11⟩) ∧
      ((readWarnings b).any = true → u.op.flag .configWarning = true) ∧
      (lineLevel (readConfig b).polarities pins .estop = true →
        u.lc.paused = true ∧ u.lc.causeEstop = true ∧ u.lc.estopRepeat = .running 1000) ∧
      (lineLevel (readConfig b).polarities pins .estop = false → u.lc.paused = s.lc.paused)

/-- Every loaded image: each field is the value its bytes of the map hold (11.6, R201), clamped into its range (R190), the profiles
cut at the first target that does not fall (R191), a disabled kind's ports UNUSED (R192) and the thresholds put in order (R193),
with the warnings of the last three (R194). So each field is in its range, the targets fall, a kind in use has its first target
below its empty threshold, and the thresholds are in order. -/
def Obligations.LoadedImageIsInRange : Prop :=
  ∀ b : List Byte,
    (byteAt b 0 ≤ 14 → (readConfig b).address.val = byteAt b 0) ∧
    (readConfig b).polarities = BitVec.ofNat 16 (wordAt b 5) ∧ (readConfig b).debounceMs = byteAt b 7 ∧
    (∀ k profile set, k = .circuit ∧ profile = 8 ∧ set = 46 ∨ k = .foam ∧ profile = 27 ∧ set = 55 →
      ((readConfig b).kindSet k).settleTenths = clampTo 1 255 (byteAt b set) ∧
      ((readConfig b).kindSet k).connectS = clampTo 5 255 (byteAt b (set + 1)) ∧
      ((readConfig b).kindSet k).holdS = clampTo 5 255 (byteAt b (set + 2)) ∧
      ((readConfig b).kindSet k).riseLimit = clampTo 1 999 (wordAt b (set + 3)) ∧
      ((readConfig b).kindSet k).maxRecycles = clampTo 0 7 (byteAt b (set + 5)) ∧
      ((readConfig b).kindSet k).emptyThreshold = clampTo 1 9999 (wordAt b (set + 6)) ∧
      ((readConfig b).kindSet k).lowYield = byteAt b (set + 8) ∧
      (∃ m, 1 ≤ m ∧ m ≤ clampTo 1 6 (byteAt b profile) ∧
        ((readConfig b).kindSet k).steps = ((List.range m).map fun i =>
          ⟨clampTo 0 9999 (wordAt b (profile + 1 + 3 * i)), clampTo 1 255 (byteAt b (profile + 3 + 3 * i))⟩) ∧
        (m < clampTo 1 6 (byteAt b profile) →
          clampTo 0 9999 (wordAt b (profile + 1 + 3 * (m - 1))) ≤ clampTo 0 9999 (wordAt b (profile + 1 + 3 * m))) ∧
        ((if k = .circuit then (readWarnings b).truncatedCircuit else (readWarnings b).truncatedFoam) = true ↔
          m < clampTo 1 6 (byteAt b profile))) ∧
      (∀ t, ((readConfig b).kindSet k).target 1 = some t →
        ((if k = .circuit then (readWarnings b).disabledCircuit else (readWarnings b).disabledFoam) = true ↔
          ((readConfig b).kindSet k).emptyThreshold ≤ t) ∧
        ∀ p, byteAt b (1 + p.num) = kindCode (some k) →
          (readConfig b).kinds.get p = if ((readConfig b).kindSet k).emptyThreshold ≤ t then none else some k)) ∧
    (∀ p, byteAt b (1 + p.num) ≠ 1 → byteAt b (1 + p.num) ≠ 2 → (readConfig b).kinds.get p = none) ∧
    (readConfig b).analyser.sampleS = clampTo 1 10 (byteAt b 64) ∧
    (readConfig b).analyser.tp = clampTo 2 1000 (wordAt b 65) ∧
    (readConfig b).analyser.ti =
      (if clampTo 2 1000 (wordAt b 65) ≤ clampTo 1 999 (wordAt b 67) then clampTo 2 1000 (wordAt b 65) - 1
      else clampTo 1 999 (wordAt b 67)) ∧
    ((readWarnings b).adjustedAnalyser = true ↔ (readConfig b).analyser.ti ≠ clampTo 1 999 (wordAt b 67)) ∧
    (readConfig b).analyser.traceLimit = clampTo 1 65535 (wordAt b 69) ∧
    (readConfig b).analyser.haloLeak = clampTo 1 65535 (wordAt b 71) ∧
    (readConfig b).analyser.hydroLeak = clampTo 1 65535 (wordAt b 73) ∧
    (readConfig b).analyser.periodCode = clampTo 0 7 (byteAt b 75) ∧
    (readConfig b).analyser.leadCode = clampTo 0 15 (byteAt b 76) ∧
    (readConfig b).analyser.classifyWaitS = clampTo 10 255 (byteAt b 77) ∧
    (∀ c base, c = .halo ∧ base = 78 ∨ c = .hydro ∧ base = 87 →
      ((readConfig b).rcvSet c).tare = clampTo 0 60000 (wordAt b base) ∧
      ((readConfig b).rcvSet c).full = clampTo 2 60000 (wordAt b (base + 2)) ∧
      ((readConfig b).rcvSet c).dOn =
        (if ((readConfig b).rcvSet c).full ≤ clampTo 1 59999 (wordAt b (base + 4)) then
          ((readConfig b).rcvSet c).full - 1
        else clampTo 1 59999 (wordAt b (base + 4))) ∧
      ((readConfig b).rcvSet c).dOff =
        (if ((readConfig b).rcvSet c).dOn ≤ clampTo 0 59998 (wordAt b (base + 6)) then ((readConfig b).rcvSet c).dOn - 1
        else clampTo 0 59998 (wordAt b (base + 6))) ∧
      ((readConfig b).rcvSet c).noise = clampTo 0 15 (byteAt b (base + 8)) ∧
      ((if c = .halo then (readWarnings b).adjustedHalo else (readWarnings b).adjustedHydro) = true ↔
        ((readConfig b).rcvSet c).dOn ≠ clampTo 1 59999 (wordAt b (base + 4)) ∨
          ((readConfig b).rcvSet c).dOff ≠ clampTo 0 59998 (wordAt b (base + 6)))) ∧
    (readConfig b).header =
      ⟨clampTo 1 60 (byteAt b 96), clampTo 5 120 (byteAt b 97), clampTo 1000 9000 (wordAt b 98),
        clampTo 10 120 (byteAt b 100), clampTo 10 600 (wordAt b 101)⟩ ∧
    (∀ k, 1 ≤ ((readConfig b).kindSet k).steps.length ∧ ((readConfig b).kindSet k).steps.length ≤ 6 ∧
      (((readConfig b).kindSet k).steps.map Step.target).Pairwise (fun x y => y < x) ∧
      (∀ x ∈ ((readConfig b).kindSet k).steps, x.target ≤ 9999 ∧ 1 ≤ x.dwellS ∧ x.dwellS ≤ 255) ∧
      1 ≤ ((readConfig b).kindSet k).settleTenths ∧ ((readConfig b).kindSet k).settleTenths ≤ 255 ∧
      5 ≤ ((readConfig b).kindSet k).connectS ∧ ((readConfig b).kindSet k).connectS ≤ 255 ∧
      5 ≤ ((readConfig b).kindSet k).holdS ∧ ((readConfig b).kindSet k).holdS ≤ 255 ∧
      1 ≤ ((readConfig b).kindSet k).riseLimit ∧ ((readConfig b).kindSet k).riseLimit ≤ 999 ∧
      ((readConfig b).kindSet k).maxRecycles ≤ 7 ∧ 1 ≤ ((readConfig b).kindSet k).emptyThreshold ∧
      ((readConfig b).kindSet k).emptyThreshold ≤ 9999 ∧ ((readConfig b).kindSet k).lowYield ≤ 255) ∧
    (∀ p k, (readConfig b).kinds.get p = some k →
      ∀ t, ((readConfig b).kindSet k).target 1 = some t → t < ((readConfig b).kindSet k).emptyThreshold) ∧
    (∀ c, ((readConfig b).rcvSet c).dOff < ((readConfig b).rcvSet c).dOn ∧
      ((readConfig b).rcvSet c).dOn < ((readConfig b).rcvSet c).full ∧ 2 ≤ ((readConfig b).rcvSet c).full ∧
      ((readConfig b).rcvSet c).full ≤ 60000 ∧ ((readConfig b).rcvSet c).tare ≤ 60000 ∧
      ((readConfig b).rcvSet c).noise ≤ 15) ∧
    (readConfig b).debounceMs ≤ 255 ∧
    1 ≤ (readConfig b).analyser.ti ∧ (readConfig b).analyser.ti < (readConfig b).analyser.tp ∧
    2 ≤ (readConfig b).analyser.tp ∧ (readConfig b).analyser.tp ≤ 1000 ∧
    1 ≤ (readConfig b).analyser.sampleS ∧ (readConfig b).analyser.sampleS ≤ 10 ∧
    1 ≤ (readConfig b).analyser.traceLimit ∧ (readConfig b).analyser.traceLimit ≤ 65535 ∧
    1 ≤ (readConfig b).analyser.haloLeak ∧ (readConfig b).analyser.haloLeak ≤ 65535 ∧
    1 ≤ (readConfig b).analyser.hydroLeak ∧ (readConfig b).analyser.hydroLeak ≤ 65535 ∧
    (readConfig b).analyser.periodCode ≤ 7 ∧ (readConfig b).analyser.leadCode ≤ 15 ∧
    10 ≤ (readConfig b).analyser.classifyWaitS ∧ (readConfig b).analyser.classifyWaitS ≤ 255 ∧
    1 ≤ (readConfig b).header.drainS ∧ (readConfig b).header.drainS ≤ 60 ∧ 5 ≤ (readConfig b).header.purgeS ∧
    (readConfig b).header.purgeS ≤ 120 ∧ 1000 ≤ (readConfig b).header.overLimit ∧
    (readConfig b).header.overLimit ≤ 9000 ∧ 10 ≤ (readConfig b).header.stallS ∧ (readConfig b).header.stallS ≤ 120 ∧
    10 ≤ (readConfig b).header.alarmS ∧ (readConfig b).header.alarmS ≤ 600

/-! ### The operator port (09) -/

/-- MALFORMED, UNKNOWN_REQUEST, LENGTH_ABOVE_40 and OPERATOR_GAP_EXPIRY at an IDLE transmitter: one REFUSE (R175 to R177).
While the transmitter sends, every message of the terminal is owed a refusal and does nothing else (R177). In WAITING_QUIET and
SKIPPING the bytes are ignored, and the quiet after them sends the framer to HUNTING (R175). The gap of an OPERATOR_GAP_EXPIRY
passes with it (log 1), in HUNTING behind the first bytes it stands for, and the wait begins again with an ignored message's last
byte: both are the model's choice (log 4), as is a gap of 11 ms (log 19). -/
def Obligations.UnreadableMessageIsRefused : Prop :=
  ∀ s : State,
    (s.portFree → ∀ i ∈ [Instr.malformed, Instr.lengthAbove40, Instr.operatorGapExpiry],
      ∃ u : State, exec i s = .next u.finish ∧ (s.whenJudged i).SameBut [.op] u ∧
        u.op = { framerAfter i s.op with tx := .responding [⟨0x82, [1]⟩] }) ∧
    (s.portFree → ∀ type : Byte, ∃ u : State, exec (.unknownRequest type) s = .next u.finish ∧ Refused 2 type s u) ∧
    (∀ i o, owedFor i = some o → s.op.framer.active = true → s.op.tx ≠ .idle →
      ∃ u : State, exec i s = .next u.finish ∧ (s.whenJudged i).SameBut [.op] u ∧
        u.op = (if s.op.owed = none then { framerAfter i s.op with owed := some o } else framerAfter i s.op)) ∧
    (∀ n, s.op.framer.active = false → s.op.gap = .running n →
      (∃ u : State, exec .operatorGapExpiry s = .next u.finish ∧ (s.elapse 11).SameBut [.op] u ∧
        u.op = { s.op with framer := .hunting, gap := .stopped }) ∧
      (∀ i o, owedFor i = some o → i ≠ .operatorGapExpiry →
        ∃ u : State, exec i s = .next u.finish ∧ s.SameBut [.op] u ∧ u.op = { s.op with gap := .running 11 }))

/-- The station-wide checks: every request but STATION_STATUS is refused CONFIG_FAULT, or NOT_READY during listen-in (R178). -/
def Obligations.StationWideChecksComeFirst : Prop :=
  ∀ (i : Instr) (type : Byte) (s : State),
    requestType i = some type → i ≠ .stationStatus → s.portFree →
    (s.configFault = true → ∃ u : State, exec i s = .next u.finish ∧ Refused 11 type s u) ∧
    (s.configFault = false → s.line.listenIn = true → ∃ u : State, exec i s = .next u.finish ∧ Refused 10 type s u)

/-- OPEN_CASE's own checks in their order, each with its refusal and no effect (R84, R85). -/
def Obligations.OpenCaseChecksInOrder : Prop :=
  ∀ (port cls : Byte) (charge foam : Option Word16) (tag : List Byte) (s : State), s.serves →
    (s.lc.paused = true →
      ∃ u : State, exec (.openCase port cls charge foam tag) s = .next u.finish ∧ Refused 9 1 s u) ∧
    (s.lc.paused = false → 3 < port.toNat →
      ∃ u : State, exec (.openCase port cls charge foam tag) s = .next u.finish ∧ Refused 4 1 s u) ∧
    (∀ p, s.lc.paused = false → port.toNat = p.num → (s.port p).state = .unused →
      ∃ u : State, exec (.openCase port cls charge foam tag) s = .next u.finish ∧ Refused 5 1 s u) ∧
    (∀ p, s.lc.paused = false → port.toNat = p.num → (s.port p).state ≠ .unused → (s.port p).state ≠ .vacant →
      ∃ u : State, exec (.openCase port cls charge foam tag) s = .next u.finish ∧ Refused 6 1 s u) ∧
    (∀ p kind, s.lc.paused = false → port.toNat = p.num → (s.port p).state = .vacant →
      s.cfg.kinds.get p = some kind →
      ¬(1 ≤ tag.length ∧ tag.length ≤ 16 ∧ (∀ c ∈ tag, 0x20 ≤ c.toNat ∧ c.toNat ≤ 0x7E) ∧ cls.toNat ≤ 2 ∧
        (∀ w, charge = some w → kind = .circuit ∧ 1 ≤ w.toNat) ∧
        (∀ w, foam = some w → kind = .foam ∧ 1 ≤ w.toNat ∧ w.toNat ≤ 999)) →
      ∃ u : State, exec (.openCase port cls charge foam tag) s = .next u.finish ∧ Refused 8 1 s u)

/-- An OPEN_CASE that passes every check creates the record with the next number and hands it to the port, which goes to
OPENED, or on to SETTLE where CLAMP and CONFIRM are asserted (R6, R82, R86). That seconds stop at the top of 32 bits is the model's
choice (log 19). -/
def Obligations.OpenCaseOpensACase : Prop :=
  ∀ (port cls : Byte) (charge foam : Option Word16) (tag : List Byte) (p : PortId) (kind : Kind) (s : State),
    s.serves → s.lc.paused = false → port.toNat = p.num → (s.port p).state = .vacant →
    s.cfg.kinds.get p = some kind → 1 ≤ tag.length → tag.length ≤ 16 →
    (∀ c ∈ tag, 0x20 ≤ c.toNat ∧ c.toNat ≤ 0x7E) → cls.toNat ≤ 2 →
    (∀ w, charge = some w → kind = .circuit ∧ 1 ≤ w.toNat) →
    (∀ w, foam = some w → kind = .foam ∧ 1 ≤ w.toNat ∧ w.toNat ≤ 999) →
    ∃ u : State, exec (.openCase port cls charge foam tag) s = .next u.finish ∧
      s.SameBut [.ports, .store, .op] u ∧ s.SamePortsBut p u ∧
      Answered [⟨0x81, 0x01 :: bytes16 s.store.nextNo⟩] s u ∧
      u.store = { s.store with nextNo := if s.store.nextNo = 65535 then 1 else s.store.nextNo + 1 } ∧
      (u.port p).slot = some
        { caseNo := s.store.nextNo, port := p, kind := kind, tag := tag,
          declaredClass :=
            (if cls.toNat = 1 then some .halo else if cls.toNat = 2 then some .hydro else none),
          declaredCharge := charge.map BitVec.toNat, foamMass := foam.map BitVec.toNat, measured := none,
          initialHpa := none, stepsDone := 0, stallStep := none, recycles := 0, lastRise := none, massG := 0,
          mismatch := false, massSat := false, lowYield := false, yieldFig := none, traceHits := 0, qReason := none,
          result := none, openedS := min 4294967295 (s.clock / 1000), closedS := none } ∧
      (if (s.port p).clamp = true ∧ (s.port p).confirm = true then
        (u.port p).state = .settle ∧ (u.port p).connect = .stopped ∧
          (u.port p).settle = .running ((s.cfg.kindSet kind).settleTenths * 100)
      else (u.port p).state = .opened ∧ (u.port p).connect = .running ((s.cfg.kindSet kind).connectS * 1000))

/-- ABANDON_CASE closes an open case ABANDONED, PAUSED or not, and otherwise is refused (R25). -/
def Obligations.AbandonCaseClosesTheCase : Prop :=
  ∀ (port : Byte) (s : State), s.serves →
    (∀ p r, port.toNat = p.num → (s.port p).state.active = true → (s.port p).slot = some r →
      ∃ u : State, exec (.abandonCase port) s = .next u.finish ∧ s.SameBut [.ports, .store, .ana, .op] u ∧
        s.SamePortsBut p u ∧ s.CaseClosed p r .abandoned u ∧
        u.op.tx = .responding [⟨0x81, 0x02 :: bytes16 r.caseNo⟩]) ∧
    (3 < port.toNat → ∃ u : State, exec (.abandonCase port) s = .next u.finish ∧ Refused 4 2 s u) ∧
    (∀ p, port.toNat = p.num → (s.port p).state = .unused →
      ∃ u : State, exec (.abandonCase port) s = .next u.finish ∧ Refused 5 2 s u) ∧
    (∀ p, port.toNat = p.num → (s.port p).state ∈ [PortState.vacant, PortState.closing, PortState.unclamp] →
      ∃ u : State, exec (.abandonCase port) s = .next u.finish ∧ Refused 7 2 s u)

/-- TAKE_REPORT: NO_REPORT on an empty queue, and otherwise the oldest record leaves the queue (R90). With no port in CLOSING
the queue is one shorter; otherwise the port with the earliest closing time, and among equals the lowest, is released in the
same event, its record at the tail (R91). -/
def Obligations.TakeReportAnswersAndReleases : Prop :=
  ∀ s : State, s.serves →
    (s.store.queue = [] → ∃ u : State, exec .takeReport s = .next u.finish ∧ s.SameBut [.op] u ∧
      Answered [⟨0x84, []⟩] s u) ∧
    (∀ r rest, s.store.queue = r :: rest →
      ((∀ p, (s.port p).state ≠ .closing) →
        ∃ u : State, exec .takeReport s = .next u.finish ∧ s.SameBut [.store, .op] u ∧
          Answered [reportFirst rest.length r, reportSecond r] s u ∧ u.store = { s.store with queue := rest }) ∧
      (∀ p w, (s.port p).state = .closing → (s.port p).slot = some w →
        (∀ q x, q ≠ p → (s.port q).state = .closing → (s.port q).slot = some x →
          w.closedS.getD 0 < x.closedS.getD 0 ∨ (w.closedS.getD 0 = x.closedS.getD 0 ∧ p.num < q.num)) →
        ∃ u : State, exec .takeReport s = .next u.finish ∧ s.SameBut [.ports, .store, .op] u ∧ s.SamePortsBut p u ∧
          u.store = { s.store with queue := rest ++ [w] } ∧ u.store.queue.length = s.store.queue.length ∧
          u.port p = { s.port p with slot := none, state := if (s.port p).clamp then .unclamp else .vacant } ∧
          u.op.flag .caseReport = true ∧ u.op.tx = .responding [reportFirst rest.length r, reportSecond r]))

/-- PORT_STATUS: one PORT_STATE message, byte by byte, and nothing else (R180, 11.4). -/
def Obligations.PortStatusAnswersPortState : Prop :=
  ∀ (port : Byte) (s : State), s.serves →
    (3 < port.toNat → ∃ u : State, exec (.portStatus port) s = .next u.finish ∧ Refused 4 4 s u) ∧
    (∀ p, port.toNat = p.num →
      ∃ u : State, exec (.portStatus port) s = .next u.finish ∧ s.SameBut [.op] u ∧
        Answered
          [⟨0x85,
            [byteOf p.num, byteOf (kindCode (s.cfg.kinds.get p)), byteOf (s.port p).state.code,
              byteOf (s.port p).state.reasonCode, byteOf ((s.port p).k.getD 0),
              byteOf (s.field.samples.get p).status] ++
            bytes16 ((s.field.samples.get p).pressure.getD 0) ++
            bytes16 (((s.port p).slot.map CaseRecord.caseNo).getD 0) ++
            bytes16 (((s.port p).slot.map CaseRecord.massG).getD 0) ++
            [if ((s.port p).slot.map CaseRecord.massSat).getD false then 1 else 0]⟩] s u)

/-- STATION_STATUS is answered in CONFIG_FAULT and in listen-in as well: eight messages and one for each present peer, in the
order of the parts, each with its index and the last marked, and each with the fields of 11.4 (R57, R79, R94, R110, R139, R159,
R173, R178, R181), in the codes of 11.1. That seconds stop at the top of 32 bits and clash seconds are rounded down is the model's
choice (log 19). -/
def Obligations.StationStatusAnswersEveryPart : Prop :=
  [DState.idle, .listenFlow, .waiting, .drain, .listenPurge, .purging, .flowing, .backoff].map DState.code =
    [0, 1, 2, 3, 4, 5, 6, 7] ∧
  [ReceiverState.starting, .accepting, .full, .discharging, .fault .scaleDrop, .fault .scaleSilent,
      .fault .scaleFaultRecord].map (fun x => (x.code, x.causeCode)) =
    [(0, 0), (1, 0), (2, 0), (3, 0), (4, 1), (4, 2), (4, 3)] ∧
  [TxState.silent, .idle, .defer, .sending, .retry].map TxState.code = [0, 1, 2, 3, 4] ∧
  [PauseCause.line, .estop, .operator].map PauseCause.code = [1, 2, 3] ∧
  [HoldReason.inhibit, .conflict, .overpressure].map HoldReason.code = [1, 2, 3] ∧
  [ConfigCause.noAck, .check, .address].map ConfigCause.code = [1, 2, 3] ∧
  [Sample.absent, .good 7, .overRange, .sensorFault].map (fun x => (x.status, x.pressure)) =
    [(0, none), (1, some 7), (2, some 9999), (3, none)] ∧
  ∀ s : State, s.portFree →
    ∃ (u : State) (l : List Message), exec .stationStatus s = .next u.finish ∧ s.SameBut [.op] u ∧
      Answered l s u ∧
      l.map (fun m => m.payload.head?) =
        [some 1, some 2, some 2, some 3, some 4, some 5, some 6, some 7] ++
          List.replicate ((List.finRange 16).filter fun a => (s.peer a).present).length (some 8) ∧
      (∀ i m, l[i]? = some m → m.type = 0x86 ∧
        m.payload[1]? = some (BitVec.ofNat 8 (if i + 1 = l.length then 128 + i else i))) ∧
      (s.loader.state ≠ .loading →
        let receiver (c : GasClass) : List Byte :=
          [byteOf (classCode (some c)), byteOf (s.rcv c).state.code, byteOf (s.rcv c).state.causeCode] ++
            bytes16 ((s.rcv c).content (s.cfg.rcvSet c)) ++
            [byteOf (flagBit (s.rcv c).overMark 0), byteOf (s.band c), byteOf (flagBit (s.rcv c).request 0)] ++
            bytes16 (s.rcv c).baseline.toNat ++ bytes16 (s.rcv c).last.toNat ++ bytes32 (s.rcv c).attributed.toNat ++
            bytes32 (s.rcv c).unattributed.toNat ++ bytes32 (s.rcv c).outflow.toNat ++ bytes32 (s.rcv c).drift.toNat
        let held (t : Timer) : Nat := match t with | .running n => n | _ => 0
        let reason (r : Option HoldReason) : Byte := byteOf ((r.map HoldReason.code).getD 0)
        let sample (x : Sample) : List Byte := byteOf x.status :: bytes16 (x.pressure.getD 0)
        let waits (p : PortId) : Bool := decide ((s.port p).state = .closing) && (s.port p).slot.isSome
        let set (d : DState) : List Byte :=
          bytes32 ((s.fullSet d).map fun m => classCode (some m.2) * 4 ^ m.1.val).sum
        l.map (fun m => m.payload.drop 2) =
          [[byteOf
                (match s.loader.state with
                | .loaded => s.cfg.address.val
                | .configFault .address => (s.loader.image.map fun b => byteAt b 0).getD 0xFF
                | _ => 0xFF),
              (match s.loader.state with
                | .configFault _ => 2
                | _ => if s.loader.warnings.any then 1 else 0),
              (match s.loader.state with
                | .configFault cause => byteOf cause.code
                | _ => 0),
              byteOf s.loader.warnings.clamped,
              byteOf (flagBit s.loader.warnings.truncatedCircuit 0 + flagBit s.loader.warnings.truncatedFoam 1),
              byteOf (flagBit s.loader.warnings.disabledCircuit 0 + flagBit s.loader.warnings.disabledFoam 1),
              byteOf (flagBit s.loader.warnings.adjustedHalo 0 + flagBit s.loader.warnings.adjustedHydro 1 +
                flagBit s.loader.warnings.adjustedAnalyser 2)] ++
              bytes32 (min 4294967295 (s.clock / 1000)) ++
              [byteOf (flagBit s.line.listenIn 0 + flagBit s.lc.paused 1 + flagBit s.lc.estopRepeat.isRunning 2),
                byteOf (flagBit s.lc.causeLine 0 + flagBit s.lc.causeEstop 1 + flagBit s.lc.causeOperator 2),
                byteOf ((s.lc.lastPause.map PauseCause.code).getD 0)] ++
              bytes16 ((s.lc.inhibit.left + 999) / 1000),
            receiver .halo, receiver .hydro,
            (match s.ana.state with
                | .notReady => [0, 0, 0]
                | .idle => [1, 0, 0]
                | .classifying p .sample _ => [2, byteOf p.num, 1]
                | .classifying p .result _ => [2, byteOf p.num, 2]
                | .sniffing p .sample _ => [3, byteOf p.num, 1]
                | .sniffing p .result _ => [3, byteOf p.num, 2]
                | .fault => [4, 0, 0]) ++
              [byteOf s.ana.queue.length] ++ (s.ana.queue.map fun x => byteOf x.port.num) ++
              List.replicate (4 - s.ana.queue.length) 0 ++
              [byteOf (flagBit ((s.ana.queue.head?.map ClassifyEntry.retry).getD false) 0),
                byteOf (flagBit s.ana.warning 0 + flagBit s.ana.leakRecent 1), byteOf s.ana.pointer.num,
                byteOf s.ana.count],
            [byteOf s.store.queue.length, byteOf (PortId.all.map fun p => flagBit (waits p) p.num).sum] ++
              (PortId.all.flatMap fun p =>
                bytes32 (if waits p then ((s.port p).slot.bind CaseRecord.closedS).getD 0 else 0)) ++
              bytes16 s.store.nextNo,
            [byteOf s.agent.dstate.code, byteOf (classCode s.agent.sought), byteOf s.agent.key,
                byteOf (classCode s.agent.viewClass), s.agent.viewSerial,
                byteOf ((s.agent.owner.map Fin.val).getD 0xFF)] ++
              bytes16 (held s.agent.heldH) ++ [reason s.agent.reasonH] ++ bytes16 (held s.agent.heldK) ++
              [reason s.agent.reasonK,
                byteOf (flagBit s.agent.overpressure 0 + flagBit s.agent.headerFault 1 + flagBit s.agent.conflict 2)] ++
              sample s.field.headerSample,
            bytes16 s.line.rxErrors ++ bytes16 s.line.collisions ++
              [byteOf s.line.tx.code, byteOf s.line.queue.length,
                byteOf (flagBit s.line.listenIn 0 + flagBit s.line.clash 1), byteOf (s.line.clashT.left / 1000)] ++
              set .flowing ++ set .waiting,
            bytes16 (lineMask fun l => decide ((s.field.input l).level = some true)) ++
              bytes16 (lineMask fun l => (s.field.input l).assertLatch) ++
              bytes16 (lineMask fun l => (s.field.input l).deassertLatch) ++
              bytes16
                ((lineMask fun l => decide ((s.field.input l).pauseRec = some true)) + flagBit s.lc.paused 15) ++
              bytes16
                (PortId.all.map fun p =>
                  flagBit (s.port p).valveH (4 * p.num) + flagBit (s.port p).valveK (4 * p.num + 1) +
                    flagBit (s.ana.sampleV.get p) (4 * p.num + 2) + flagBit (s.ana.sniffV.get p) (4 * p.num + 3)).sum ++
              [byteOf
                (flagBit s.agent.dischH 0 + flagBit s.agent.dischK 1 + flagBit s.agent.purgeV 2 +
                  flagBit s.agent.selH 3 + flagBit s.agent.selK 4 + flagBit s.field.lamp 5 +
                  flagBit s.ana.amodeSniff 6)] ++
              (PortId.all.flatMap fun p => sample (s.field.samples.get p)) ++ sample s.field.headerSample] ++
          ((List.finRange 16).filter fun a => (s.peer a).present).map fun a =>
            [byteOf a.val,
                byteOf (flagBit (s.peer a).stale 0 + flagBit (s.peer a).beacon.isSome 1 +
                  flagBit ((s.peer a).beacon.isSome && (s.peer a).beaconVoid) 2 +
                  flagBit (((s.peer a).beacon.map Beacon.paused).getD false) 3)] ++
              bytes16 (min 65535 (s.clock - (s.peer a).lastHeard)) ++
              (match (s.peer a).position with
              | some (d, c) => [byteOf d.code, byteOf (classCode c)]
              | none => [8, 0]) ++
              (match (s.peer a).beacon with
              | some b =>
                [byteOf (classCode b.viewClass), b.viewSerial] ++ bytes16 b.inhibitS ++
                  [byteOf (b.bandH * 16 + b.bandK),
                    byteOf (flagBit b.warned 0 + flagBit b.analyserFault 1 + flagBit b.haloFault 2 +
                      flagBit b.hydroFault 3)]
              | none => [0, 0, 0, 0, 0, 0]))

/-- CLEAR_RECEIVER at a receiver in FAULT, at one that is not, and for a receiver that does not exist (R54). -/
def Obligations.ClearReceiverClearsTheFault : Prop :=
  ∀ (b : Byte) (s : State), s.serves →
    (∀ c, b.toNat = classCode (some c) → (s.rcv c).state.isFault = true →
      ∃ u : State, exec (.clearReceiver b) s = .next u.finish ∧
        s.SameBut [.ports, .receiver c, .agent, .line, .op] u ∧
        u.rcv c =
          { s.rcv c with
            silence := .running 500
            state :=
              (if (s.rcv c).first = false then .starting
              else if s.level c < (s.cfg.rcvSet c).full then .accepting else .full)
            request := (s.rcv c).first && decide ((s.cfg.rcvSet c).dOn ≤ s.level c) } ∧
        u.op.tx = .responding [⟨0x81, [0x06]⟩]) ∧
    (∀ c, b.toNat = classCode (some c) → (s.rcv c).state.isFault = false →
      ∃ u : State, exec (.clearReceiver b) s = .next u.finish ∧ Refused 12 6 s u) ∧
    (b.toNat ≠ 1 → b.toNat ≠ 2 → ∃ u : State, exec (.clearReceiver b) s = .next u.finish ∧ Refused 8 6 s u)

/-- PAUSE_LINE pauses a station in RUN: cause OPERATOR, event PAUSE, the ports' reactions to a pause start with every extracting
port's valves closed, the lines' records, the agent IDLE, PAUSE(OPERATOR) offered (R26, R135, R149, R153, R163); in a pause it adds
its cause and offers the frame again. That a frame lost on a full queue is owed is the model's choice (log 9). -/
def Obligations.PauseLinePausesTheStation : Prop :=
  ∀ s : State, s.serves →
    (s.lc.paused = false → (s.agent.dstate = .flowing → s.agent.sought ≠ none) →
      ∃ u : State, exec .pauseLine s = .next u.finish ∧ u.lc.paused = true ∧ u.lc.causeOperator = true ∧
        u.op.flag .pause = true ∧ u.op.tx = .responding [⟨0x81, [0x07]⟩] ∧
        (∀ p, (s.port p).state = .extract → (u.port p).valveH = false ∧ (u.port p).valveK = false) ∧
        s.PortsPaused u ∧ s.LinesSuspended u ∧
        u.agent.dstate = .idle ∧
        (s.loaded = true → s.line.clash = false → u.willSend (.pause .operator)) ∧
        s.SameBut [.ports, .receiver .halo, .receiver .hydro, .agent, .line, .conditions, .field, .op] u) ∧
    (s.lc.paused = true →
      ∃ u : State, exec .pauseLine s = .next u.finish ∧ s.SameBut [.line, .conditions, .op] u ∧
        u.lc = { s.lc with causeOperator := true, owed := u.lc.owed } ∧
        u.op.tx = .responding [⟨0x81, [0x07]⟩] ∧
        (s.loaded = true → s.line.clash = false → u.willSend (.pause .operator)))

/-- RESUME_LINE: refused ESTOP_ACTIVE while ESTOP is asserted; otherwise RESUME is offered, and a PAUSED station leaves the
pause with its causes cleared, event RESUME raised and the reactions of its ports and its lines (R27, R151, R153, R164). That a
frame lost on a full queue is owed is the model's choice (log 9). -/
def Obligations.ResumeLineEndsThePause : Prop :=
  ∀ s : State, s.serves →
    (s.field.estop.level = some true → ∃ u : State, exec .resumeLine s = .next u.finish ∧ Refused 13 8 s u) ∧
    (s.field.estop.level ≠ some true → s.lc.paused = true →
      ∃ u : State, exec .resumeLine s = .next u.finish ∧
        s.SameBut [.ports, .ana, .agent, .line, .conditions, .field, .op] u ∧
        u.lc =
          { s.lc with
            paused := false, causeLine := false, causeEstop := false, causeOperator := false, owed := u.lc.owed } ∧
        u.op.flag .resume = true ∧ u.op.tx = .responding [⟨0x81, [0x08]⟩] ∧
        (∀ l, (u.field.input l).pauseRec = none ∨ l ∈ [InputLine.estop, InputLine.selH, InputLine.selK]) ∧
        s.PortsResumed u ∧ s.LinesResumed u ∧ (s.loaded = true → s.line.clash = false → u.willSend .resume)) ∧
    (s.field.estop.level ≠ some true → s.lc.paused = false →
      ∃ u : State, exec .resumeLine s = .next u.finish ∧ s.SameBut [.line, .conditions, .op] u ∧
        u.lc = { s.lc with owed := u.lc.owed } ∧ u.op.tx = .responding [⟨0x81, [0x08]⟩] ∧
        (s.loaded = true → s.line.clash = false → u.willSend .resume))

/-- The operator link's quiet ends WAITING_QUIET and SKIPPING (R175), and the end of a transmission sends the owed refusal
or leaves the transmitter IDLE (R177). -/
def Obligations.OperatorLinkTimesOut : Prop :=
  ∀ s : State,
    (∀ n, s.op.framer.active = false → s.op.gap = .running n →
      ∃ u : State, exec .operatorLinkQuiet s = .next u.finish ∧ (s.elapse n).SameBut [.op] u ∧
        u.op = { s.op with framer := .hunting, gap := .stopped }) ∧
    (s.op.tx ≠ .idle →
      ∃ u : State, exec .operatorTxDone s = .next u.finish ∧ s.SameBut [.op] u ∧
        u.op =
          (match s.op.owed with
          | none => { s.op with tx := .idle }
          | some .malformed => { s.op with tx := .responding [⟨0x82, [1]⟩], owed := none }
          | some (.busy type) => { s.op with tx := .responding [⟨0x82, [3, type]⟩], owed := none }))

/-! ### The station line (05, 07) -/

/-- Every frame of a peer refreshes its entry, and is stored where its kind is (R141); no other entry changes. -/
def Obligations.FrameRefreshesItsPeer : Prop :=
  ∀ (i : Instr) (src : Address) (f : Frame) (s : State), s.hears i src f →
    ∃ u : State, exec i s = .next u.finish ∧ u.line.framer = .hunting ∧ (∀ a, a ≠ src → u.peer a = s.peer a) ∧
      (u.peer src).present = true ∧ (u.peer src).lastHeard = s.clock ∧ (u.peer src).stale = false ∧
      (u.peer src).timer = .running 1000 ∧
      (match f with
      | .beacon b => (u.peer src).beacon = some b ∧ (u.peer src).beaconVoid = false ∧ (u.peer src).beaconAt = s.clock
      | .intent _ _ _ | .flowOn _ _ | .flowOff _ | .purgeStart _ _ | .purgeDone _ _ =>
        (u.peer src).disch = some f ∧ (u.peer src).dischVoid = false ∧ (u.peer src).dischAt = s.clock
      | .hold _ _ | .pause _ | .resume | .alarm _ =>
        (u.peer src).beacon = (s.peer src).beacon ∧ (u.peer src).disch = (s.peer src).disch) ∧
      s.SameBut [.ports, .ana, .receiver .halo, .receiver .hydro, .agent, .line, .peers, .conditions, .field, .op] u

/-- A frame with an undefined field and FRAME_DROPPED count one error, saturating, and send the framer to skipping; nothing
else changes (R100, R198). FRAME_TRUNCATED counts nothing: the byte after the gap is taken as if the framer were hunting
(R99). Which values of the ten kinds' fields are defined is R198's. -/
def Obligations.BadFramesAreDropped : Prop :=
  (∀ (next : Byte) (s : State), s.loaded = true →
    ∃ u : State, exec (.frameTruncated next) s = .next u.finish ∧ s.SameBut [.line] u ∧
      u.line = { s.line with framer := if next = 0xC3 then .inFrame [] else .hunting }) ∧
  (∀ (i : Instr) (s : State), s.loaded = true →
    ((∃ d, i = .frameDropped d) ∨
      (∃ src p, i = .beacon src p ∧ readBeacon p = none) ∨
      (∃ src u c k, i = .intent src u c k ∧ readIntent u c k = none) ∨
      (∃ src c n, i = .flowOn src c n ∧ readFlowOn c n = none) ∨
      (∃ src c, i = .flowOff src c ∧ readFlowOff c = none) ∨
      (∃ src c n, i = .purgeStart src c n ∧ readPurgeStart c n = none) ∨
      (∃ src c n, i = .purgeDone src c n ∧ readPurgeDone c n = none) ∨
      (∃ src c r, i = .hold src c r ∧ readHold c r = none) ∨
      (∃ src c, i = .pause src c ∧ readPause c = none) ∨
      (∃ src c n, i = .alarm src c n ∧ readAlarm c n = none)) →
    ∃ u : State, exec i s = .next u.finish ∧ s.SameBut [.line] u ∧
      u.line = { s.line with rxErrors := min 65535 (s.line.rxErrors + 1), framer := .skipping }) ∧
  (∀ u c k : Byte, (readIntent u c k).isSome = true ↔
    (u.toNat = 1 ∨ u.toNat = 2) ∧ (c.toNat = 1 ∨ c.toNat = 2) ∧ k.toNat ≤ 15) ∧
  (∀ c n : Byte, ((readFlowOn c n).isSome = true ↔ c.toNat = 1 ∨ c.toNat = 2) ∧
    ((readFlowOff c).isSome = true ↔ c.toNat = 1 ∨ c.toNat = 2) ∧
    ((readPurgeStart c n).isSome = true ↔ c.toNat = 1 ∨ c.toNat = 2) ∧
    ((readPurgeDone c n).isSome = true ↔ c.toNat ≤ 2)) ∧
  (∀ c r : Byte, (readHold c r).isSome = true ↔
    1 ≤ c.toNat ∧ c.toNat ≤ 3 ∧ 1 ≤ r.toNat ∧ r.toNat ≤ 3) ∧
  (∀ c : Byte, (readPause c).isSome = true ↔ 1 ≤ c.toNat ∧ c.toNat ≤ 3) ∧
  (∀ (c : Byte) (n : Word16), (readAlarm c n).isSome = true ↔ c.toNat = 2 ∧ 1 ≤ n.toNat ∧ n.toNat ≤ 600) ∧
  (∀ p : BeaconPayload, (readBeacon p).isSome = true ↔
    p.dstate.toNat ≤ 7 ∧ (p.dstate.toNat = 0 → p.cls.toNat = 0 ∧ p.key.toNat = 0) ∧
      (p.dstate.toNat ≠ 0 → (p.cls.toNat = 1 ∨ p.cls.toNat = 2) ∧ p.key.toNat ≤ 15) ∧ p.viewClass.toNat ≤ 2 ∧
      p.flags.toNat ≤ 1 ∧ p.inhibit.toNat ≤ 600 ∧ p.summary.toNat ≤ 15)

/-- BEACON, FLOW_ON and PURGE_DONE take their class and serial into the view by the comparison of serials, and the purge owner is
dropped when it says that its purge is over (R113, R114); a serial is newer when it lies 1 to 127 ahead, counted modulo 256
(R112). An agent outside IDLE follows the view: a flow of another class ends, WAITING makes its checks where the view, the owner or
a set changed, DRAIN leaves for WAITING or LISTEN_FLOW (R122, R123, R130), and PURGING aborts before the view changes (R113, R127).
That WAITING comes first in DRAIN is the model's choice (log 35). -/
def Obligations.FramesMoveTheHeaderView : Prop :=
  (∀ x y : Byte, newer x y = true ↔
    1 ≤ (x.toNat + 256 - y.toNat) % 256 ∧ (x.toNat + 256 - y.toNat) % 256 ≤ 127) ∧
  (∀ (i : Instr) (src : Address) (f : Frame) (s : State), s.hears i src f → s.agent.dstate = .idle →
    ∃ u : State, exec i s = .next u.finish ∧ (f ≠ .resume → u.agent.dstate = .idle) ∧
      (match f with
      | .beacon b => ViewTaken b.viewClass b.viewSerial (s.agent.owner = some src ∧ b.dstate ≠ .purging) s.agent u.agent
      | .flowOn c serial => ViewTaken (some c) serial False s.agent u.agent
      | .purgeDone c serial => ViewTaken c serial (s.agent.owner = some src) s.agent u.agent
      | .purgeStart _ _ =>
        u.agent.owner = some src ∧ u.agent.viewClass = none ∧ u.agent.viewSerial = s.agent.viewSerial
      | .intent _ _ _ | .flowOff _ | .hold _ _ | .alarm _ | .pause _ =>
        u.agent.owner = s.agent.owner ∧ u.agent.viewClass = s.agent.viewClass ∧
          u.agent.viewSerial = s.agent.viewSerial
      | .resume => True)) ∧
  ∀ (i : Instr) (src : Address) (f : Frame) (c : Option GasClass) (serial : Byte) (ended : Prop) (d : GasClass) (s : State),
    s.hears i src f →
    ((∃ b, f = .beacon b ∧ c = b.viewClass ∧ serial = b.viewSerial ∧ ended = (b.dstate ≠ .purging)) ∨
      (∃ x, f = .flowOn x serial ∧ c = some x ∧ ended = False) ∨ f = .purgeDone c serial ∧ ended = True) →
    s.agent.sought = some d → s.agent.dstate ≠ .idle → s.inhibited = false → s.line.clash = false →
    s.line.queue.length < 5 →
    ∃ u : State, exec i s = .next u.finish ∧
      (s.agent.dstate ≠ .purging →
        ViewTaken c serial (s.agent.owner = some src ∧ ended) s.agent u.agent ∧ s.ViewFollowed d u) ∧
      (s.agent.dstate = .listenPurge →
        ((∃ x, f = .flowOn x serial) → u.agent.reserved = false) ∧
        ((∀ x, f ≠ .flowOn x serial) → u.agent.reserved = s.agent.reserved)) ∧
      (s.agent.dstate = .purging →
        ((∃ x, f = .flowOn x serial) ∨ newer serial s.agent.viewSerial = true ∨
            serial = s.agent.viewSerial ∧ ∃ x y, c = some x ∧ s.agent.viewClass = some y ∧ x ≠ y →
          u.agent.dstate = .backoff ∧ u.agent.purgeV = false ∧ u.agent.owner = none ∧
            (newer serial s.agent.purgeSerial = true → u.agent.viewClass = c ∧ u.agent.viewSerial = serial) ∧
            (newer serial s.agent.purgeSerial = false →
              u.agent.viewClass = none ∧ u.agent.viewSerial = s.agent.purgeSerial) ∧
            ((∃ x, f = .flowOn x serial) → s.BothHeld u)) ∧
        (¬((∃ x, f = .flowOn x serial) ∨ newer serial s.agent.viewSerial = true ∨
            serial = s.agent.viewSerial ∧ ∃ x y, c = some x ∧ s.agent.viewClass = some y ∧ x ≠ y) →
          u.agent.dstate = .purging ∧ u.agent.purgeV = s.agent.purgeV))

/-- An INTENT noted in a listen window: a higher key of the other class is contention in LISTEN_FLOW (R120), a higher key
takes the reservation in LISTEN_PURGE (R124), and no other INTENT changes either record. -/
def Obligations.IntentContendsByItsKey : Prop :=
  ∀ (src : Address) (pb cb kb : Byte) (v : Purpose) (c : GasClass) (k : Nat) (s : State),
    s.hears (.intent src pb cb kb) src (.intent v c k) → s.inhibited = false →
    (s.agent.dstate = .listenFlow ∨ s.agent.dstate = .listenPurge) →
    ∃ u : State, exec (.intent src pb cb kb) s = .next u.finish ∧
      s.SameBut [.agent, .line, .peers] u ∧ u.line = { s.line with framer := .hunting } ∧
      u.agent =
        (let better : Bool :=
          decide (s.agent.key < k) || (decide (k = s.agent.key) && decide (src.val < s.cfg.address.val))
        if s.agent.dstate = .listenFlow ∧ v = .flow ∧ s.agent.sought ≠ some c ∧ better = true then
          { s.agent with contended := true }
        else if s.agent.dstate = .listenPurge ∧ v = .purge ∧ better = true then { s.agent with reserved := false }
        else s.agent)

/-- A PURGE_START heard while FLOWING (R131): the flow ends, the view is UNKNOWN with the source as owner, HOLD(ALL, CONFLICT)
holds both classes for 2000 ms, and it is offered before FLOW_OFF (R130). -/
def Obligations.PurgeStartEndsAFlow : Prop :=
  ∀ (src : Address) (cb nb : Byte) (c d : GasClass) (serial : Byte) (s : State),
    s.hears (.purgeStart src cb nb) src (.purgeStart c serial) → s.agent.dstate = .flowing →
    s.agent.sought = some d →
    ∃ u : State, exec (.purgeStart src cb nb) s = .next u.finish ∧ u.agent.dstate = .backoff ∧
      u.agent.dischH = false ∧ u.agent.dischK = false ∧ u.agent.selH = false ∧ u.agent.selK = false ∧
      u.agent.viewClass = none ∧ u.agent.owner = some src ∧ u.agent.viewSerial = s.agent.viewSerial ∧
      s.BothHeld u ∧ u.agent.backoff = .running (100 + 10 * s.cfg.address.val) ∧
      (s.line.clash = false → s.line.queue.length < 5 →
        ∃ x hold y off z, u.line.queue = x ++ hold :: y ++ off :: z ∧ hold.frame = .hold .all .conflict ∧
          off.frame = .flowOff d) ∧
      ((s.rcv d).state = .discharging →
        (u.rcv d).state = (if s.level d < (s.cfg.rcvSet d).full then .accepting else .full) ∧
        (u.rcv d).stall = .stopped)

/-- A HOLD holds its class, or both, for 2000 ms with its reason (R115); it ends a flow or a purge of a class it bars, and
takes the reservation of a LISTEN_PURGE (R118). -/
def Obligations.HoldBarsItsClass : Prop :=
  ∀ (src : Address) (cb rb : Byte) (h : HoldClass) (r : HoldReason) (s : State),
    s.hears (.hold src cb rb) src (.hold h r) →
    ∃ u : State, exec (.hold src cb rb) s = .next u.finish ∧
      (h ≠ .hydro → u.agent.heldH = .running 2000 ∧ u.agent.reasonH = some r) ∧
      (h ≠ .halo → u.agent.heldK = .running 2000 ∧ u.agent.reasonK = some r) ∧
      (h = .hydro → u.agent.heldH = s.agent.heldH) ∧ (h = .halo → u.agent.heldK = s.agent.heldK) ∧
      (∀ c, s.agent.sought = some c → h.bars c = true →
        (s.agent.dstate = .flowing → u.agent.dstate = .backoff ∧ u.agent.disch c = false ∧ u.agent.sel c = false) ∧
        (s.agent.dstate = .purging → u.agent.dstate = .backoff ∧ u.agent.purgeV = false ∧
          u.agent.viewClass = none ∧ u.agent.viewSerial = s.agent.purgeSerial ∧ u.agent.owner = none) ∧
        (s.agent.dstate = .listenPurge → u.agent.reserved = false))

/-- A PAUSE heard: a station in RUN is PAUSED with cause LINE, its extracting ports' valves close, and its ports and its lines
take the pause start; a PAUSED one adds the cause; the frame's own cause is kept to be shown, and no PAUSE is sent (R26, R147,
R153, R163). -/
def Obligations.PauseFramePausesTheStation : Prop :=
  ∀ (src : Address) (cb : Byte) (cause : PauseCause) (s : State), s.hears (.pause src cb) src (.pause cause) →
    (s.lc.paused = false → (s.agent.dstate = .flowing → s.agent.sought ≠ none) →
      ∃ u : State, exec (.pause src cb) s = .next u.finish ∧
        u.lc = { s.lc with paused := true, causeLine := true, lastPause := some cause } ∧
        u.op.flag .pause = true ∧
        (∀ p, (s.port p).state = .extract → (u.port p).valveH = false ∧ (u.port p).valveK = false) ∧
        u.agent.dstate = .idle ∧ s.LinesSuspended u ∧
        ((s.agent.dstate = .flowing → s.agent.viewClass = s.agent.sought) → s.PortsPaused u) ∧
        (∀ q ∈ u.line.queue, (∃ c, q.frame = .pause c) → q ∈ s.line.queue)) ∧
    (s.lc.paused = true → s.agent.dstate = .idle →
      ∃ u : State, exec (.pause src cb) s = .next u.finish ∧ s.SameBut [.line, .peers, .conditions] u ∧
        u.line = { s.line with framer := .hunting } ∧
        u.lc = { s.lc with causeLine := true, lastPause := some cause })

/-- A RESUME heard: with ESTOP asserted a PAUSED station stays PAUSED and answers PAUSE(ESTOP); otherwise it leaves the pause,
its ports and its lines take the RESUME, and line conditions offers no frame; in RUN it does nothing (R27, R150, R153, R164). That
a frame lost on a full queue is owed is the model's choice (log 9). -/
def Obligations.ResumeFrameEndsThePause : Prop :=
  ∀ (src : Address) (s : State), s.hears (.resume src) src .resume → s.agent.dstate = .idle →
    (s.lc.paused = true → s.field.estop.level = some true →
      ∃ u : State, exec (.resume src) s = .next u.finish ∧ s.SameBut [.line, .peers, .conditions, .op] u ∧
        u.lc = { s.lc with estopRepeat := .running 1000, owed := u.lc.owed } ∧
        (s.line.clash = false → u.willSend (.pause .estop))) ∧
    (s.lc.paused = true → s.field.estop.level ≠ some true →
      ∃ u : State, exec (.resume src) s = .next u.finish ∧
        s.SameBut [.ports, .ana, .agent, .line, .peers, .conditions, .field, .op] u ∧
        u.lc = { s.lc with paused := false, causeLine := false, causeEstop := false, causeOperator := false } ∧
        u.op.flag .resume = true ∧ s.PortsResumed u ∧ s.LinesResumed u ∧
        (∀ q ∈ u.line.queue, ((∃ c, q.frame = .pause c) ∨ q.frame = .resume ∨ ∃ n, q.frame = .alarm n) →
          q ∈ s.line.queue)) ∧
    (s.lc.paused = false →
      ∃ u : State, exec (.resume src) s = .next u.finish ∧ s.SameBut [.line, .peers] u ∧
        u.line = { s.line with framer := .hunting })

/-- An ALARM: the inhibit runs until the later of its end and the new hold, HYDRO_ALARM is raised, and where the inhibit was
not active every HYDRO port leaves EXTRACT for WAIT(INHIBIT) and the agent no longer seeks HYDRO (R28, R136, R155 to
R158). Under an active inhibit an INTENT, FLOW_ON or PURGE_START of HYDRO is answered with HOLD(HYDRO, INHIBIT) (R136), which
holds the station itself (R115) and leaves the reason of the last HOLD heard (R111). -/
def Obligations.AlarmInhibitsHydrocarbon : Prop :=
  (∀ (src : Address) (cb : Byte) (w : Word16) (n : Nat) (s : State),
    s.hears (.alarm src cb w) src (.alarm n) →
    ∃ u : State, exec (.alarm src cb w) s = .next u.finish ∧ u.inhibited = true ∧
      u.lc = { s.lc with inhibit := .running (max s.lc.inhibit.left (n * 1000)) } ∧
      u.op.flag .hydroAlarm = true ∧
      (s.inhibited = false → (s.agent.sought ≠ none → s.agent.dstate ≠ .idle) →
        u.agent.sought ≠ some .hydro ∧
        (∀ p, (s.port p).state = .extract → (s.port p).gas = some .hydro →
          (u.port p).valveH = false ∧ (u.port p).valveK = false ∧ (∃ r, (u.port p).state = .wait r) ∧
            ((s.agent.dstate = .flowing → s.agent.viewClass = s.agent.sought) →
              (u.port p).state = .wait .inhibit)))) ∧
  ∀ (i : Instr) (src : Address) (f : Frame) (s : State), s.hears i src f →
    ((∃ v k, f = .intent v .hydro k) ∨ (∃ n, f = .flowOn .hydro n) ∨ ∃ n, f = .purgeStart .hydro n) →
    s.inhibited = true → s.line.clash = false → s.line.queue.length < 5 →
    ∃ u : State, exec i s = .next u.finish ∧ (∃ q ∈ u.line.queue, q.frame = .hold .hydro .inhibit) ∧
      u.agent.heldK = .running 2000 ∧ u.agent.reasonK = s.agent.reasonK

/-- CLASH_FRAME, and any frame with the station's own address: address clash for 10 s; on entering it the queue is emptied,
the transmitter is SILENT, the agent is IDLE and ADDRESS_CLASH is raised; within it the timer restarts (R107, R137). That no
frame stays owed is the model's choice (log 9). -/
def Obligations.OwnAddressIsAClash : Prop :=
  ∀ (i : Instr) (s : State), s.loaded = true →
    (i = .clashFrame ∨ ∃ f, frameOf i = some (s.cfg.address, f)) →
    (s.line.clash = true →
      ∃ u : State, exec i s = .next u.finish ∧ s.SameBut [.line] u ∧
        u.line = { s.line with framer := .hunting, clashT := .running 10000 }) ∧
    (s.line.clash = false → (s.agent.dstate = .flowing → s.agent.sought ≠ none) →
      ∃ u : State, exec i s = .next u.finish ∧ u.line.clash = true ∧ u.line.clashT = .running 10000 ∧
        u.line.tx = .silent ∧ u.line.queue = [] ∧ u.line.headCount = 0 ∧ u.agent.dstate = .idle ∧
        u.op.flag .addressClash = true ∧ u.lc.owed = [] ∧
        (s.agent.dstate = .flowing → u.agent.dischH = false ∧ u.agent.dischK = false ∧ u.agent.selH = false ∧
          u.agent.selK = false) ∧
        (s.agent.dstate = .purging → u.agent.purgeV = false ∧ u.agent.viewClass = none ∧
          u.agent.viewSerial = s.agent.purgeSerial ∧ u.agent.owner = none))

/-- TRANSMIT_START begins the head frame from DEFER and RETRY (R102). FRAME_SENT: the head frame leaves the queue, and the
INTENT of the agent's present listening starts its window of 40 ms (R102, R105, R120, R124). Three things are the model's choice:
that TRANSMIT_START leaves the receive framer as it was (log 4), that the idle time it waits for is its coming (log 21), and that
frames owed since a loss on a full queue are offered again, while their conditions hold, behind what the queue keeps (R154,
log 9). -/
def Obligations.HeadFrameIsSent : Prop :=
  (∀ s : State, s.line.queue ≠ [] → (s.line.tx = .defer ∨ s.line.tx = .retry) →
    ∃ u : State, exec .transmitStart s = .next u.finish ∧ s.SameBut [.line] u ∧
      u.line = { s.line with tx := .sending }) ∧
  ∀ (q : QueuedFrame) (rest : List QueuedFrame) (s : State),
    s.line.tx = .sending → s.line.queue = q :: rest →
    ∃ u : State, exec .frameSent s = .next u.finish ∧ s.SameBut [.line, .agent, .conditions, .op] u ∧
      u.line.framer = .hunting ∧ u.line.headCount = 0 ∧
      u.line.tx = (if u.line.queue = [] then .idle else .defer) ∧
      u.agent =
        (match q.frame with
        | .intent .flow _ _ =>
          if s.agent.dstate = .listenFlow ∧ q.entry = s.agent.entry then { s.agent with window := .running 40 }
          else s.agent
        | .intent .purge _ _ =>
          if s.agent.dstate = .listenPurge ∧ q.entry = s.agent.entry then { s.agent with window := .running 40 }
          else s.agent
        | _ => s.agent) ∧
      (s.lc.owed = [] →
        s.SameBut [.line, .agent] u ∧
        u.line =
          { s.line with
            queue := rest, headCount := 0, framer := .hunting, tx := if rest = [] then .idle else .defer }) ∧
      (s.loaded = true → s.line.clash = false →
        u.lc = { s.lc with owed := u.lc.owed } ∧
        (∀ f ∈ s.lc.owed, ∀ g, s.OfferedAgain f g → u.willSend g) ∧
        (rest.length + s.lc.owed.length ≤ 8 →
          u.lc.owed = [] ∧ u.op = s.op ∧
            u.line.queue = rest ++ (s.lc.owed.filterMap s.reofferOf).map fun f => ⟨f, 0⟩))

/-- COLLISION: the frame is tried again, and at the eighth collision in a row it is dropped with LINE_TX_LOSS (R103). The block
that offered it is told (R105): a lost INTENT of the present listening sends the agent to BACKOFF (R120, R124), the PURGE_START of
the present purge aborts it (R127), a PAUSE, RESUME or ALARM is offered again while its condition holds (R154), and every other
loss changes nothing more (R139). The receive framer takes the truncated remainder as any receiver does (R99, R100); at
which byte the collision falls and what comes back there is a free value (log 13). -/
def Obligations.CollisionRetriesThenDrops : Prop :=
  ∀ (q : QueuedFrame) (rest : List QueuedFrame) (s : State),
    s.line.tx = .sending → s.line.queue = q :: rest →
    (s.line.headCount + 1 < 8 →
      ∃ u : State, exec .collision s = .next u.finish ∧ s.SameBut [.line, .free] u ∧
        s.line.KeepsRemainder (q.frame.bytes s.cfg.address) u.line ∧
        u.line =
          { s.line with
            collisions := min 65535 (s.line.collisions + 1), headCount := s.line.headCount + 1, tx := .retry
            framer := u.line.framer, rxErrors := u.line.rxErrors }) ∧
    (8 ≤ s.line.headCount + 1 → s.lc.owed = [] →
      ∃ u : State, exec .collision s = .next u.finish ∧ u.op.flag .lineTxLoss = true ∧
        s.line.KeepsRemainder (q.frame.bytes s.cfg.address) u.line ∧
        u.line.collisions = min 65535 (s.line.collisions + 1) ∧
        ((q.frame.isBeacon = true ∨ q.frame.isDischarge = true ∧ (∀ v c k, q.frame ≠ .intent v c k) ∧
            (∀ c n, q.frame ≠ .purgeStart c n)) →
          u.line.queue = rest ∧ u.line.headCount = 0 ∧ u.line.tx = (if rest = [] then .idle else .defer) ∧
            s.SameBut [.line, .op, .free] u) ∧
        (∀ c k, q.frame = .intent .flow c k → s.agent.dstate = .listenFlow → q.entry = s.agent.entry →
          u.agent.dstate = .backoff) ∧
        ((∃ c r, q.frame = .hold c r) ∨
            (∃ v c k, q.frame = .intent v c k ∧ (q.entry ≠ s.agent.entry ∨
              s.agent.dstate ≠ (match v with | .flow => .listenFlow | .purge => .listenPurge))) ∨
            (∃ c n, q.frame = .purgeStart c n ∧ (s.agent.dstate ≠ .purging ∨ n ≠ s.agent.purgeSerial)) ∨
            s.line.clash = false ∧
              ((∃ c, q.frame = .pause c ∧ s.lc.paused = false) ∨ q.frame = .resume ∧ s.lc.paused = true ∨
                ∃ n, q.frame = .alarm n ∧ ∀ m, s.lc.inhibit ≠ .running (m + 1)) →
          u.line.queue = rest ∧ u.line.headCount = 0 ∧ u.line.tx = (if rest = [] then .idle else .defer) ∧
            s.SameBut [.line, .op, .free] u) ∧
        (s.loaded = true → s.line.clash = false → rest.length < 8 →
          (∀ v c k, q.frame = .intent v c k → q.entry = s.agent.entry →
            s.agent.dstate = (match v with | .flow => .listenFlow | .purge => .listenPurge) →
            s.SameBut [.agent, .line, .op, .free] u ∧ u.agent.dstate = .backoff ∧
              u.agent.backoff = .running (100 + 10 * s.cfg.address.val) ∧
              u.line.queue.filter (fun x => !x.frame.isBeacon) = rest.filter (fun x => !x.frame.isBeacon) ∧
              ∃ x ∈ u.line.queue, x.frame.isBeacon = true) ∧
          (∀ c, q.frame = .purgeStart c s.agent.purgeSerial → s.agent.dstate = .purging →
            s.SameBut [.agent, .line, .op, .free] u ∧ u.agent.dstate = .backoff ∧ u.agent.purgeV = false ∧
              u.agent.viewClass = none ∧ u.agent.viewSerial = s.agent.purgeSerial ∧ u.agent.owner = none ∧
              ∃ x ∈ u.line.queue, x.frame = .purgeDone none s.agent.purgeSerial) ∧
          (∀ g, (∃ c, q.frame = .pause c ∧ s.lc.paused = true ∧ g = .pause c) ∨
              q.frame = .resume ∧ s.lc.paused = false ∧ g = .resume ∨
              (∃ n m, q.frame = .alarm n ∧ s.lc.inhibit = .running (m + 1) ∧ g = .alarm ((m + 1 + 999) / 1000)) →
            s.SameBut [.line, .op, .free] u ∧ u.line.queue = rest ++ [⟨g, 0⟩] ∧ u.line.headCount = 0 ∧ u.line.tx = .defer)))

/-- The end of listen-in: the flag drops, the beacon timer starts at 250 ms, a pause that a fresh peer's BEACON shows is
joined, and the transmitter leaves SILENT for DEFER unless address clash keeps it there (R106, R152). The end of address
clash: the flag drops, and where listen-in is over a BEACON is offered and the transmitter leaves SILENT for DEFER (R108). That
the BEACON comes before the agent's own check is the model's choice (log 8). -/
def Obligations.SilenceEnds : Prop :=
  ∀ (n : Nat) (s : State), s.loaded = true →
    (s.line.listenT = .running n →
      ∃ u : State, exec .listenInEnd s = .next u.finish ∧ u.line.listenIn = false ∧ u.line.listenT = .stopped ∧
        u.line.beaconT = .running 250 ∧
        (s.line.clash = false → u.line.tx = .defer ∧ u.line.queue ≠ []) ∧
        (s.line.clash = false → s.line.queue.length < 7 → ∃ q ∈ u.line.queue, q.frame.isBeacon = true) ∧
        ((∃ a b, (s.peer a).fresh = true ∧ (s.peer a).liveBeacon = some b ∧ b.paused = true) →
          u.lc.paused = true ∧ u.lc.causeLine = true) ∧
        ((∀ a b, (s.peer a).fresh = true → (s.peer a).liveBeacon = some b → b.paused = false) →
          u.lc.paused = s.lc.paused ∧ u.lc.causeLine = s.lc.causeLine)) ∧
    (s.line.clashT = .running n →
      ∃ u : State, exec .clashTimerExpiry s = .next u.finish ∧ u.line.clash = false ∧ u.line.clashT = .stopped ∧
        (s.line.listenIn = false → u.line.tx = .defer ∧ u.line.queue ≠ []) ∧
        (s.line.listenIn = false → s.line.queue.length < 7 → ∃ q ∈ u.line.queue, q.frame.isBeacon = true) ∧
        (s.line.listenIn = true → u.line = { (s.elapse n).line with clash := false, clashT := .stopped }))

/-- The beacon timer restarts at 250 ms, and the BEACON offered carries the state of its owning blocks at that moment (R109). It
takes the place of the first BEACON that waits, never that of one being SENT; where none waits it goes to the tail, or is lost with
LINE_TX_LOSS on a full queue (R104, R105). That it is the first where two wait is the model's choice (log 38). -/
def Obligations.BeaconTellsTheStation : Prop :=
  ∀ (n : Nat) (s : State), s.loaded = true → s.line.clash = false → s.line.beaconT = .running n →
    ∃ (u : State) (b : Beacon), exec .beaconTimerExpiry s = .next u.finish ∧ u.line.beaconT = .running 250 ∧
      ((∀ q ∈ (if s.line.tx = .sending then s.line.queue.tail else s.line.queue), q.frame.isBeacon = false) →
        (s.line.queue.length < 8 →
          (s.elapse n).SameBut [.line] u ∧ u.line.queue = s.line.queue ++ [⟨.beacon b, 0⟩] ∧
            u.line.tx = (if s.line.tx = .idle then .defer else s.line.tx)) ∧
        (8 ≤ s.line.queue.length →
          (s.elapse n).SameBut [.line, .op] u ∧ u.line.queue = s.line.queue ∧ u.line.tx = s.line.tx ∧
            u.op.flag .lineTxLoss = true)) ∧
      (∀ pre q post, s.line.queue = pre ++ q :: post → q.frame.isBeacon = true → (s.line.tx = .sending → pre ≠ []) →
        (∀ x ∈ (if s.line.tx = .sending then pre.tail else pre), x.frame.isBeacon = false) →
        (s.elapse n).SameBut [.line] u ∧ u.line.queue = pre ++ ⟨.beacon b, 0⟩ :: post ∧ u.line.tx = s.line.tx) ∧
      b.dstate = s.agent.dstate ∧ b.cls = (if s.agent.dstate = .idle then none else s.agent.sought) ∧
      b.key = (if s.agent.dstate = .idle then 0 else s.agent.key) ∧ b.viewClass = s.agent.viewClass ∧
      b.viewSerial = s.agent.viewSerial ∧ b.paused = s.lc.paused ∧
      b.inhibitS = ((s.lc.inhibit.elapse n).left + 999) / 1000 ∧ b.bandH = s.band .halo ∧ b.bandK = s.band .hydro ∧
      b.warned = s.loader.warnings.any ∧ (b.analyserFault = true ↔ s.ana.state = .fault) ∧
      (b.haloFault = true ↔ ∃ c, s.halo.state = .fault c) ∧ (b.hydroFault = true ↔ ∃ c, s.hydro.state = .fault c)

/-- A peer goes stale: its frames are void with their contents kept, its position is NONE, and a purge owner that fell silent
leaves the view UNKNOWN without an owner (R114, R143); an agent outside IDLE follows the view and the sets (R122, R123, R130). -/
def Obligations.SilentPeerGoesStale : Prop :=
  ∀ (a : Address) (n : Nat) (s e : State), (s.peer a).timer = .running n → e = s.elapse n →
    (s.agent.dstate = .idle →
      ∃ u : State, exec (.peerStale a) s = .next u.finish ∧ e.SameBut [.peers, .agent] u ∧
        (u.peer a).stale = true ∧ (u.peer a).timer = .stopped ∧ (u.peer a).beacon = (s.peer a).beacon ∧
        (u.peer a).disch = (s.peer a).disch ∧ (u.peer a).position = none ∧ (∀ b, b ≠ a → u.peer b = e.peer b) ∧
        u.agent = (if s.agent.owner = some a then { e.agent with owner := none, viewClass := none } else e.agent)) ∧
    (∀ d, s.agent.dstate ≠ .idle → s.agent.dstate ≠ .purging → s.agent.sought = some d → s.loaded = true →
      s.line.clash = false → s.line.queue.length < 5 →
      ∃ u : State, exec (.peerStale a) s = .next u.finish ∧ (u.peer a).stale = true ∧ (u.peer a).position = none ∧
        (∀ b, b ≠ a → u.peer b = e.peer b) ∧
        u.agent.viewClass = (if s.agent.owner = some a then none else s.agent.viewClass) ∧
        u.agent.viewSerial = s.agent.viewSerial ∧
        u.agent.owner = (if s.agent.owner = some a then none else s.agent.owner) ∧ e.ViewFollowed d u)

/-! ### Field lines and the emergency stop (07, 08) -/

/-- DEBOUNCE_CHANGE. A move of a pin changes that pin, and with a filter time of 0 the level follows at once; a filter that runs
out turns the level, with an edge of its kind, or with none where a pause record stands (R161 to R163). The filter time is the
image's, and 2 ms for the readbacks, whose lines the station's own selectors pull low (R161, R166). A pending edge and a filter
that is up are due (R161, R162). The deassert edges that only a level takes: RELEASE_REQ_DEASSERT (R4), READBACK_DEASSERT (R132),
ESTOP_DEASSERT (R148). That the moves of a pin come as commands is the model's choice (log 5). -/
def Obligations.LevelsFollowTheirLines : Prop :=
  ∀ s : State,
    (∀ l high t, t = s.setInput l { s.field.input l with pin := high } →
      ∃ u : State, exec (.debounceChange ⟨l, .pin high⟩) s = .next u.finish ∧ s.SameBut [.field] u ∧
        u.field = s.field.setInput l (u.field.input l) ∧
        (∀ b, (s.field.input l).level = some b → (s.field.input l).isPending = false → s.filterMs l = 0 →
          t.lineNow l = !b → u.field.input l = (t.field.input l).turned b) ∧
        (s.filterMs l ≠ 0 ∨ (s.field.input l).isPending = true ∨ (s.field.input l).level = none ∨
            (s.field.input l).level = some (t.lineNow l) →
          u.field.input l = t.field.input l)) ∧
    (∀ l b n e, (s.field.input l).level = some b → (s.field.input l).isPending = false →
      (s.field.input l).filter = .running n → e = s.elapse n →
      ∃ u : State, exec (.debounceChange ⟨l, .settles⟩) s = .next u.finish ∧ e.SameBut [.field] u ∧
        u.field = e.field.setInput l ((e.field.input l).turned b)) ∧
    (∀ l b, (s.field.input l).latch b = true →
      edgeOf (edgeCommand l b) = some (l, b) ∧ edgeCommand l b ∈ s.dueNow) ∧
    (∀ l, (s.field.input l).filter = .running 0 → Instr.debounceChange ⟨l, .settles⟩ ∈ s.dueNow) ∧
    (∀ c, s.filterMs (readbackLine c) = 2 ∧
      s.lineNow (readbackLine c) = (!(s.field.input (readbackLine c)).pin || s.agent.sel c)) ∧
    (∀ l, l ∉ [InputLine.selH, InputLine.selK] → s.filterMs l = s.cfg.debounceMs ∧
      s.lineNow l = ((s.field.input l).pin ^^ s.cfg.polarities.getLsbD (lineNumber l))) ∧
    (∀ p, (s.field.release.get p).deassertLatch = true → (s.port p).state ≠ .unused →
      ∃ u : State, exec (.releaseReqDeassert p) s = .next u.finish ∧ s.SameBut [.ports, .field] u ∧
        s.SamePortsBut p u ∧ s.EdgeTaken (.release p) u ∧ u.port p = { s.port p with release := false }) ∧
    (∀ c, (s.field.input (readbackLine c)).deassertLatch = true →
      ∃ u : State, exec (.readbackDeassert c) s = .next u.finish ∧ s.SameBut [.agent, .field] u ∧
        s.EdgeTaken (readbackLine c) u ∧ u.agent = { s.agent with conflict := false }) ∧
    (s.field.estop.deassertLatch = true →
      ∃ u : State, exec .estopDeassert s = .next u.finish ∧ s.SameBut [.conditions, .field] u ∧
        s.EdgeTaken .estop u ∧ u.lc = { s.lc with estop := false, estopRepeat := .stopped })

/-- ESTOP_ASSERT pauses the station with cause ESTOP, offers PAUSE(ESTOP) and starts the repeat timer at 1000 ms, and the ports and
the lines take the pause start; the timer's expiry repeats the frame while ESTOP is asserted in PAUSED, and otherwise stops (R26,
R135, R148, R153, R163). Two clauses are the model's choice: that the repeat reads the level last delivered to line conditions
(log 22), and that a frame lost on a full queue is owed (log 9). -/
def Obligations.EmergencyStopPausesTheLine : Prop :=
  ∀ s : State, s.loaded = true →
    (s.field.estop.assertLatch = true → s.lc.paused = false → (s.agent.dstate = .flowing → s.agent.sought ≠ none) →
      ∃ u : State, exec .estopAssert s = .next u.finish ∧
        s.SameBut [.ports, .receiver .halo, .receiver .hydro, .agent, .line, .conditions, .field, .op] u ∧
        u.lc =
          { s.lc with
            paused := true, causeEstop := true, estop := true, estopRepeat := .running 1000, owed := u.lc.owed } ∧
        u.op.flag .pause = true ∧ u.agent.dstate = .idle ∧
        (∀ p, (s.port p).state = .extract → (u.port p).valveH = false ∧ (u.port p).valveK = false) ∧
        s.PortsPaused u ∧ s.LinesSuspended u ∧ (s.line.clash = false → u.willSend (.pause .estop))) ∧
    (s.field.estop.assertLatch = true → s.lc.paused = true →
      ∃ u : State, exec .estopAssert s = .next u.finish ∧ s.SameBut [.line, .conditions, .field, .op] u ∧
        s.EdgeTaken .estop u ∧
        u.lc = { s.lc with causeEstop := true, estop := true, estopRepeat := .running 1000, owed := u.lc.owed } ∧
        (s.line.clash = false → u.willSend (.pause .estop))) ∧
    (∀ n e, s.lc.estopRepeat = .running n → e = s.elapse n →
      (s.lc.estop = true → s.lc.paused = true →
        ∃ u : State, exec .estopRepeatExpiry s = .next u.finish ∧ e.SameBut [.line, .conditions, .op] u ∧
          u.lc = { e.lc with estopRepeat := .running 1000, owed := u.lc.owed } ∧
          (s.line.clash = false → u.willSend (.pause .estop))) ∧
      (s.lc.estop = false ∨ s.lc.paused = false →
        ∃ u : State, exec .estopRepeatExpiry s = .next u.finish ∧ e.SameBut [.conditions] u ∧
          u.lc = { e.lc with estopRepeat := .stopped }))

/-- INHIBIT_TIMER_EXPIRY: the inhibit is over, and each port in WAIT makes its re-check: in RUN it extracts with its valve open
and its dwell running on where its receiver is ACCEPTING, and otherwise waits for the receiver; while PAUSED it stays (R16,
R28, R158). -/
def Obligations.InhibitEndReleasesItsPorts : Prop :=
  ∀ (n : Nat) (s e : State), s.lc.inhibit = .running n → e = s.elapse n →
    ∃ u : State, exec .inhibitTimerExpiry s = .next u.finish ∧
      e.SameBut [.ports, .agent, .line, .conditions, .op] u ∧ u.inhibited = false ∧
      u.lc = { e.lc with inhibit := .stopped } ∧
      (∀ p, (∀ r, (s.port p).state ≠ .wait r) ∨ s.lc.paused = true → u.port p = e.port p) ∧
      (∀ p r c, (s.port p).state = .wait r → (s.port p).gas = some c → s.lc.paused = false →
        (s.accepting c = true →
          (u.port p).state = .extract ∧ (u.port p).valve c = true ∧ (u.port p).valve c.other = false ∧
            (u.port p).dwell = (e.port p).dwell.thaw ∧ (u.port p).k = (s.port p).k ∧
            (u.port p).slot = (s.port p).slot) ∧
        (s.accepting c = false →
          (u.port p).state = .wait .receiver ∧ (u.port p).valveH = false ∧ (u.port p).valveK = false))

/-! ### The case at a port (01) -/

/-- CLAMP_ASSERT and CONFIRM_EDGE complete a connection in OPENED (R4, R7); CLAMP_DEASSERT aborts a case under way (R22), ends
QUARANTINE (R21) and UNCLAMP (R30); RELEASE_REQ_ASSERT ends QUARANTINE (R21). In every other state an edge only updates its
level, and an UNUSED port ignores it (R1, R4). -/
def Obligations.PortEdgesActByState : Prop :=
  ∀ (p : PortId) (s : State),
    (∀ i l b, edgeOf i = some (l, b) → l ∈ [InputLine.clamp p, .confirm p, .release p] →
      (s.field.input l).latch b = true → (s.port p).state = .unused →
      ∃ u : State, exec i s = .next u.finish ∧ s.SameBut [.field] u ∧ s.EdgeTaken l u) ∧
    (∀ i x, (i = .clampAssert p ∧ x = { s.port p with clamp := true } ∧ (s.field.clamp.get p).assertLatch = true) ∨
        (∃ b, i = .confirmEdge p b ∧ x = { s.port p with confirm := b } ∧
          (s.field.confirm.get p).latch b = true) →
      (s.port p).state ≠ .unused →
      ∃ u : State, exec i s = .next u.finish ∧ s.SameBut [.ports, .field] u ∧ s.SamePortsBut p u ∧
        u.port p =
          (if x.state = .opened ∧ x.clamp = true ∧ x.confirm = true then
            { x with
              state := .settle, connect := .stopped, settle := .running ((s.portSet (s.port p)).settleTenths * 100) }
          else x)) ∧
    ((s.field.clamp.get p).deassertLatch = true →
      (∀ r, (s.port p).state.abortable = true → (s.port p).slot = some r →
        ∃ u : State, exec (.clampDeassert p) s = .next u.finish ∧ s.SameBut [.ports, .store, .ana, .field, .op] u ∧
          s.SamePortsBut p u ∧ s.CaseClosed p r .abortedClamp u ∧ (u.port p).clamp = false) ∧
      (∀ q r, (s.port p).state = .quarantine q → (s.port p).slot = some r →
        ∃ u : State, exec (.clampDeassert p) s = .next u.finish ∧ s.SameBut [.ports, .store, .field, .op] u ∧
          s.SamePortsBut p u ∧ s.CaseClosed p r .quarantined u ∧ (u.port p).clamp = false) ∧
      ((s.port p).state ∈ [PortState.vacant, PortState.opened, PortState.closing, PortState.unclamp] →
        ∃ u : State, exec (.clampDeassert p) s = .next u.finish ∧ s.SameBut [.ports, .field] u ∧
          s.SamePortsBut p u ∧
          u.port p =
            { s.port p with
              clamp := false
              state := if (s.port p).state = .unclamp then .vacant else (s.port p).state })) ∧
    ((s.field.release.get p).assertLatch = true → (s.port p).state ≠ .unused →
      (∀ q r, (s.port p).state = .quarantine q → (s.port p).slot = some r →
        ∃ u : State, exec (.releaseReqAssert p) s = .next u.finish ∧ s.SameBut [.ports, .store, .field, .op] u ∧
          s.SamePortsBut p u ∧ s.CaseClosed p r .quarantined u) ∧
      ((s.port p).state.quarantined = false →
        ∃ u : State, exec (.releaseReqAssert p) s = .next u.finish ∧ s.SameBut [.ports, .field] u ∧
          s.SamePortsBut p u ∧ u.port p = { s.port p with release := true }))

/-- CONNECT_TIMEOUT closes the case NOT_CONNECTED (R7). CLASSIFY_WAIT_EXPIRY withdraws the request and quarantines the case
(R11, R20). DWELL_EXPIRY keeps the first stall and starts the rise test (R14, R18). SETTLE_EXPIRY records the initial
pressure, and closes the case EMPTY or queues it for classification (R8, R9). Where there is no good sample at a settle
expiry, which R8 rules out, the pressure is a free value (log 7). -/
def Obligations.PortTimersRunOut : Prop :=
  ∀ (p : PortId) (r : CaseRecord) (n : Nat) (s e : State), (s.port p).slot = some r → e = s.elapse n →
    ((s.port p).state = .opened → (s.port p).connect = .running n →
      ∃ u : State, exec (.connectTimeout p) s = .next u.finish ∧ e.SameBut [.ports, .store, .op] u ∧
        e.SamePortsBut p u ∧ e.CaseClosed p r .notConnected u) ∧
    ((s.port p).state = .classify → (s.port p).classifyWait = .running n →
      ∃ u : State, exec (.classifyWaitExpiry p) s = .next u.finish ∧ e.SameBut [.ports, .ana, .op] u ∧
        e.SamePortsBut p u ∧ (u.port p).state = .quarantine .analyser ∧
        (u.port p).slot = some { r with qReason := some .analyser } ∧ (u.port p).valveH = false ∧
        (u.port p).valveK = false ∧ (u.port p).k = none ∧ (u.port p).pStart = none ∧
        (u.port p).classifyWait = .stopped ∧ u.op.flag .quarantine = true ∧
        u.ana.queue = s.ana.queue.filter (fun x => x.port ≠ p) ∧
        (∀ w, s.ana.state = .classifying p .sample w →
          u.ana.state = .classifying p .result true ∧ u.ana.sampleV.get p = false ∧ u.ana.resultT = .running 1000)) ∧
    (∀ k, (s.port p).state = .extract → (s.port p).k = some k → (s.port p).dwell = .running n →
      ∃ u : State, exec (.dwellExpiry p) s = .next u.finish ∧ e.SameBut [.ports] u ∧ e.SamePortsBut p u ∧
        (u.port p).state = .riseTest ∧ (u.port p).valveH = false ∧ (u.port p).valveK = false ∧
        (u.port p).slot = some { r with stallStep := some (r.stallStep.getD k) } ∧ (u.port p).k = some k ∧
        (u.port p).hold = .running ((s.portSet (s.port p)).holdS * 1000) ∧ (u.port p).pStart = none) ∧
    ((s.port p).state = .settle → (s.port p).settle = .running n →
      ∃ (u : State) (x : Nat), exec (.settleExpiry p) s = .next u.finish ∧
        e.SameBut [.ports, .ana, .store, .op, .free] u ∧ e.SamePortsBut p u ∧
        (∀ y, (s.field.samples.get p).pressure = some y → x = y ∧ u.free = s.free) ∧
        (x < (s.portSet (s.port p)).emptyThreshold →
          e.CaseClosed p { r with initialHpa := some x } .empty u ∧ u.ana = e.ana) ∧
        ((s.portSet (s.port p)).emptyThreshold ≤ x →
          (u.port p).state = .classify ∧ (u.port p).slot = some { r with initialHpa := some x } ∧
          (u.port p).settle = .stopped ∧
          (u.port p).classifyWait = .running (s.cfg.analyser.classifyWaitS * 1000) ∧ u.store = s.store ∧
          (s.mayServe = false → u.ana = { e.ana with queue := s.ana.queue ++ [⟨p, false⟩] }) ∧
          (s.mayServe = true → s.ana.queue = [] →
            u.ana.state = .classifying p .sample false ∧ u.ana.queue = [] ∧ u.ana.sampleV.get p = true ∧
              u.ana.amodeSniff = false ∧ u.ana.sampleT = .running (s.cfg.analyser.sampleS * 1000))))

/-- HOLD_TIMER_EXPIRY judges the rise test (R19), with the three tests of R10 after a recycle. Where the start pressure or the
latest sample is not a good one, which R18 rules out, that pressure is a free value: the model's choice (log 7). -/
def Obligations.RiseTestIsJudged : Prop :=
  ∀ (p : PortId) (r : CaseRecord) (c : GasClass) (n : Nat) (g : KindSet) (s e : State),
    (s.port p).slot = some r → (s.port p).gas = some c → (s.port p).state = .riseTest →
    (s.port p).hold = .running n → e = s.elapse n → g = s.portSet (s.port p) →
    ∃ (u : State) (rise : Nat), exec (.holdTimerExpiry p) s = .next u.finish ∧
      e.SameBut [.ports, .store, .op, .free] u ∧ e.SamePortsBut p u ∧ (u.port p).pStart = none ∧
      (∀ a b, (s.port p).pStart = some a → (s.field.samples.get p).pressure = some b → rise = b - a) ∧
      (rise ≤ g.riseLimit →
        e.CaseClosed p { r with lastRise := some rise }
          (if r.stallStep.isSome then .completeStalled else .complete) u) ∧
      (g.riseLimit < rise → g.maxRecycles ≤ r.recycles →
        e.CaseClosed p { r with lastRise := some rise } .residual u) ∧
      (g.riseLimit < rise → r.recycles < g.maxRecycles →
        (u.port p).slot = some { r with lastRise := some rise, recycles := r.recycles + 1 } ∧
        r.recycles + 1 ≤ g.maxRecycles ∧ (u.port p).k = some g.steps.length ∧ u.store = s.store ∧
        (if c = .hydro ∧ e.inhibited = true then
          (u.port p).state = .wait .inhibit ∧ (u.port p).dwell = .frozen (g.dwellMs g.steps.length) ∧
            (u.port p).valveH = false ∧ (u.port p).valveK = false
        else if s.accepting c = false then
          (u.port p).state = .wait .receiver ∧ (u.port p).dwell = .frozen (g.dwellMs g.steps.length) ∧
            (u.port p).valveH = false ∧ (u.port p).valveK = false
        else if s.lc.paused then
          (u.port p).state = .extract ∧ (u.port p).dwell = .frozen (g.dwellMs g.steps.length) ∧
            (u.port p).valveH = false ∧ (u.port p).valveK = false
        else
          (u.port p).state = .extract ∧ (u.port p).dwell = .running (g.dwellMs g.steps.length) ∧
            (u.port p).valve c = true ∧ (u.port p).valve c.other = false))

/-- PORT_SAMPLE: the sample becomes the latest (R170, R171). A sensor fault aborts a case under way (R23). A pressure completes
every remaining step whose target it is at or below (R13), or is the rise test's start (R18); elsewhere it does nothing
more, and in CONFIG_FAULT no port takes it (R169). Two clauses are the model's choice: that a rise test takes no start pressure
while PAUSED (log 18), and that k stays where it was when step n is done (log 34). -/
def Obligations.PortSampleActsByState : Prop :=
  ∀ (p : PortId) (signal : Signal) (n : Nat) (s e : State),
    s.field.sampleTs.get p = .running n →
    e = (s.elapse n).setField
      { (s.elapse n).field with
        samples := s.field.samples.set p
          (match signal with
          | .belowLiveZero => .sensorFault
          | .hpa v => if v ≤ 9999 then .good v else .overRange)
        sampleTs := (s.elapse n).field.sampleTs.set p (.running 50) } →
    (s.loaded = false → exec (.portSample p signal) s = .next e.finish) ∧
    (s.loaded = true → signal = .belowLiveZero →
      (∀ r, (s.port p).state.abortable = true → (s.port p).slot = some r →
        ∃ u : State, exec (.portSample p signal) s = .next u.finish ∧ e.SameBut [.ports, .store, .ana, .op] u ∧
          e.SamePortsBut p u ∧ e.CaseClosed p r .abortedSensor u) ∧
      ((s.port p).state.abortable = false → exec (.portSample p signal) s = .next e.finish)) ∧
    (∀ v, s.loaded = true → signal = .hpa v →
      ((s.port p).state ≠ .riseTest → ((s.port p).state = .extract → (s.port p).valveOpen = false) →
        exec (.portSample p signal) s = .next e.finish) ∧
      ((s.port p).state = .riseTest →
        exec (.portSample p signal) s =
          .next (if (s.port p).pStart = none ∧ s.lc.paused = false then
            (e.setPort p { e.port p with pStart := some (min v 9999) }).finish else e.finish)) ∧
      (∀ r g k m, (s.port p).state = .extract → (s.port p).valveOpen = true → (s.port p).slot = some r →
        g = s.portSet (s.port p) → (s.port p).k = some k → 1 ≤ k → k ≤ m + 1 → m ≤ g.steps.length →
        (∀ j t, k ≤ j → j ≤ m → g.target j = some t → min v 9999 ≤ t) →
        (∀ t, g.target (m + 1) = some t → t < min v 9999) →
        ∃ u : State, exec (.portSample p signal) s = .next u.finish ∧ e.SameBut [.ports] u ∧ e.SamePortsBut p u ∧
          (m + 1 = k → u.port p = e.port p) ∧
          (k ≤ m → m < g.steps.length →
            u.port p =
              { e.port p with
                slot := some { r with stepsDone := m }, k := some (m + 1), dwell := .running (g.dwellMs (m + 1)) }) ∧
          (k ≤ m → m = g.steps.length →
            (u.port p).state = .riseTest ∧ (u.port p).slot = some { r with stepsDone := m } ∧
              (u.port p).valveH = false ∧ (u.port p).valveK = false ∧ (u.port p).k = some k ∧
              (u.port p).hold = .running (g.holdS * 1000) ∧ (u.port p).pStart = none)))

/-! ### The header's gauge and its selector lines (06) -/

/-- HEADER_SAMPLE moves the overpressure flag and the header-fault flag (R116, R117, R172), and the flags and a selector
conflict (READBACK_ASSERT, R132) hold both classes; their repeat timers go on while their flags are up. A HOLD of the
station's own leaves the reasons of the last HOLDs heard (R111). -/
def Obligations.HeaderFlagsHoldTheStation : Prop :=
  ∀ s : State, s.loaded = true →
    (∀ n, s.field.headerT = .running n →
      (∃ u : State, exec (.headerSample .belowLiveZero) s = .next u.finish ∧
        u.field.headerSample = .sensorFault ∧ u.field.headerT = .running 50 ∧ u.agent.headerFault = true ∧
        u.agent.overpressure = s.agent.overpressure ∧
        (s.agent.headerFault = false → ∀ c, s.agent.sought = some c → s.HoldTaken c u)) ∧
      (∀ v, ∃ u : State, exec (.headerSample (.hpa v)) s = .next u.finish ∧
        u.field.headerSample = (if v ≤ 9999 then .good v else .overRange) ∧ u.field.headerT = .running 50 ∧
        u.agent.headerFault = false ∧
        u.agent.overpressure =
          (if s.cfg.header.overLimit < min v 9999 then true
          else if min v 9999 + 50 < s.cfg.header.overLimit then false else s.agent.overpressure) ∧
        (min v 9999 + 50 < s.cfg.header.overLimit → u.agent.overRepeat = .stopped) ∧
        (s.cfg.header.overLimit < min v 9999 → s.agent.overpressure = false →
          u.agent.overRepeat = .running 1000 ∧ s.BothHeld u ∧
            ∀ c, s.agent.sought = some c → s.HoldTaken c u))) ∧
    (∀ n, s.agent.overRepeat = .running n →
      ∃ u : State, exec .overpressureRepeat s = .next u.finish ∧
        (s.agent.overpressure = true → u.agent.overRepeat = .running 1000 ∧ s.BothHeld u) ∧
        (s.agent.overpressure = false →
          (s.elapse n).SameBut [.agent] u ∧ u.agent = { (s.elapse n).agent with overRepeat := .stopped })) ∧
    (∀ n, s.agent.conflictRepeat = .running n →
      ∃ u : State, exec .conflictRepeatExpiry s = .next u.finish ∧
        (s.agent.conflict = true → u.agent.conflictRepeat = .running 2000 ∧ s.BothHeld u) ∧
        (s.agent.conflict = false →
          (s.elapse n).SameBut [.agent] u ∧ u.agent = { (s.elapse n).agent with conflictRepeat := .stopped })) ∧
    (∀ c, (s.field.input (readbackLine c)).assertLatch = true →
      ((s.field.input (readbackLine c.other)).level = some true →
        (s.agent.dstate = .flowing → s.agent.sought ≠ none) →
        ∃ u : State, exec (.readbackAssert c) s = .next u.finish ∧ u.agent.conflict = true ∧
          u.agent.viewClass = none ∧ u.op.flag .headerConflict = true ∧ u.agent.conflictRepeat.isRunning = true ∧
          (s.agent.conflictRepeat.isRunning = false →
            u.agent.conflictRepeat = .running 2000 ∧ s.BothHeld u) ∧
          (∀ d, s.agent.sought = some d → s.agent.dstate = .flowing →
            u.agent.dstate = .backoff ∧ u.agent.disch d = false ∧ u.agent.sel d = false)) ∧
      ((s.field.input (readbackLine c.other)).level ≠ some true →
        ∃ u : State, exec (.readbackAssert c) s = .next u.finish ∧ s.SameBut [.field] u ∧
          s.EdgeTaken (readbackLine c) u))

/-! ### The receivers (02) -/

/-- READING: the first sets the account and the receiver's state (R37); every later one is booked by the receiver's state and
the sign of its delta, its shares reach the open ports, and the threshold checks follow (R38, R39, R43, R45, R49). The weight of
a port without a good sample is a free value: the model's choice (log 7). -/
def Obligations.ReadingIsBooked : Prop :=
  ∀ (c : GasClass) (mark : Bool) (field value : Word16) (level : Nat) (g : ReceiverSet) (s : State),
    s.loaded = true → s.scaleLink.framer.active = true → g = s.cfg.rcvSet c →
    value = (if mark then 65535 else field) →
    level = (if mark then max (value.toNat - g.tare) g.full else value.toNat - g.tare) →
    ∃ u : State, exec (.reading c mark field) s = .next u.finish ∧
      s.SameBut [.ports, .receiver c, .agent, .line, .op, .link .scale, .free] u ∧
      u.scaleLink = ⟨.hunting, .stopped⟩ ∧ (u.rcv c).first = true ∧ (u.rcv c).latest = value ∧
      (u.rcv c).overMark = mark ∧ (u.rcv c).last = value ∧ (u.rcv c).silence = .running 500 ∧
      ((s.rcv c).first = false →
        (u.rcv c).baseline = value ∧ s.SameFigures c u ∧
        ((s.rcv c).state = .starting →
          (u.rcv c).state = (if level < g.full then .accepting else .full) ∧
          (u.rcv c).request = decide (g.dOn ≤ level)) ∧
        (∀ cause, (s.rcv c).state = .fault cause → (u.rcv c).state = .fault cause)) ∧
      ((s.rcv c).first = true →
        (u.rcv c).baseline = (s.rcv c).baseline ∧
        ((s.rcv c).state ≠ .starting → s.Booked c ((value.toNat : Int) - ((s.rcv c).last.toNat : Int)) u) ∧
        (∀ cause, (s.rcv c).state = .fault cause → (u.rcv c).state = .fault cause) ∧
        (((s.rcv c).state = .accepting ∨ (s.rcv c).state = .full) →
          (if (value.toNat : Int) - ((s.rcv c).last.toNat : Int) < -(g.noise : Int) then
            (u.rcv c).state = .fault .scaleDrop ∧ (u.rcv c).request = false ∧ u.op.flag .receiverFault = true
          else
            (u.rcv c).state =
              (if (s.rcv c).state = .accepting then (if g.full ≤ level then .full else .accepting)
              else if level < g.dOn then .accepting else .full) ∧
            (u.rcv c).request = decide (g.dOn ≤ level)) ∧
          ((u.rcv c).state ≠ .accepting → ∀ p, (s.port p).state = .extract → (s.port p).gas = some c →
            (s.rcv c).state = .accepting →
            (u.port p).state = .wait .receiver ∧ (u.port p).valveH = false ∧ (u.port p).valveK = false)) ∧
        ((s.rcv c).state = .discharging → ∀ low, (s.rcv c).lowest = some low → g.dOff < level →
          (u.rcv c).state = .discharging ∧ (u.rcv c).lowest = some (min low level) ∧
            (u.rcv c).stall =
              (if level < low then .running (s.cfg.header.stallS * 1000) else (s.rcv c).stall)) ∧
        ((s.rcv c).state = .discharging → level ≤ g.dOff → (s.rcv c).doneSent = false →
          (s.agent.dstate = .flowing → s.agent.sought = some c →
            (u.rcv c).state = (if level < g.full then .accepting else .full) ∧ u.agent.disch c = false ∧
              u.agent.sel c = false ∧ u.agent.dstate ≠ .flowing) ∧
          (¬(s.agent.dstate = .flowing ∧ s.agent.sought = some c) →
            (u.rcv c).state = .discharging ∧ (u.rcv c).doneSent = true ∧ (u.rcv c).stall = .stopped)))

/-- FAULT_MARKED_RECORD and SILENCE_EXPIRY put a receiver into FAULT with its cause, its request down, its ports waiting and its
flow ended, and in FAULT they change only the silence timer (R35, R36, R52, R53). STALL_TIMER_EXPIRY tells the agent, which
ends the flow for the long backoff (R50, R130, R133). -/
def Obligations.ReceiverFaultsAndStalls : Prop :=
  ∀ (c : GasClass) (s : State),
    (∀ (i : Instr) (cause : ReceiverCause) (silence : Timer) (e : State),
      (i = .faultMarkedRecord c ∧ s.loaded = true ∧ s.scaleLink.framer.active = true ∧ cause = .scaleFaultRecord ∧
          silence = .running 500 ∧ e = { s with scaleLink := ⟨.hunting, .stopped⟩ }) ∨
        (∃ n, i = .silenceExpiry c ∧ (s.rcv c).silence = .running n ∧ cause = .scaleSilent ∧ silence = .stopped ∧
          e = s.elapse n) →
      ((s.rcv c).state.isFault = true →
        ∃ u : State, exec i s = .next u.finish ∧ e.SameBut [.receiver c] u ∧
          u.rcv c = { e.rcv c with silence := silence }) ∧
      ((s.rcv c).state.isFault = false →
        ∃ u : State, exec i s = .next u.finish ∧ e.SameBut [.ports, .receiver c, .agent, .line, .op] u ∧
          u.rcv c =
            { e.rcv c with
              silence := silence, state := .fault cause, request := false, stall := .stopped, lowest := none,
              doneSent := false, stallSent := false } ∧
          u.op.flag .receiverFault = true ∧
          ((s.rcv c).state = .accepting → ∀ p, (s.port p).state = .extract → (s.port p).gas = some c →
            (u.port p).state = .wait .receiver ∧ (u.port p).valveH = false ∧ (u.port p).valveK = false) ∧
          ((s.rcv c).state = .discharging → s.agent.dstate = .flowing → s.agent.sought = some c →
            u.agent.dstate ≠ .flowing ∧ u.agent.disch c = false ∧ u.agent.sel c = false))) ∧
    (∀ n e, (s.rcv c).stall = .running n → e = s.elapse n →
      ((s.rcv c).stallSent = true →
        ∃ u : State, exec (.stallTimerExpiry c) s = .next u.finish ∧ e.SameBut [.receiver c] u ∧
          u.rcv c = { e.rcv c with stall := .stopped }) ∧
      ((s.rcv c).stallSent = false →
        ∃ u : State, exec (.stallTimerExpiry c) s = .next u.finish ∧ u.op.flag .dischargeStall = true ∧
          (¬(s.agent.dstate = .flowing ∧ s.agent.sought = some c) →
            e.SameBut [.receiver c, .op] u ∧ u.rcv c = { e.rcv c with stall := .stopped, stallSent := true }) ∧
          (s.agent.dstate = .flowing → s.agent.sought = some c →
            u.agent.dstate = .backoff ∧ u.agent.backoff = .running (1000 + 100 * s.cfg.address.val) ∧
              u.agent.disch c = false ∧ u.agent.sel c = false ∧
              ((s.rcv c).state = .discharging →
                (u.rcv c).state = (if s.level c < (s.cfg.rcvSet c).full then .accepting else .full)))))

/-- A positive delta is divided exactly (R42): the floor shares, a gram more for the ports with the largest remainders, lower
port numbers first, fewer such grams than ports, and none for a weight of 0. -/
def Obligations.ApportionmentIsExact : Prop :=
  ∀ (delta : Nat) (l : List Share), (l.map Share.port).Nodup → 0 < (l.map Share.weight).sum →
    (∀ x ∈ l, finalShare delta l x =
      delta * x.weight / (l.map Share.weight).sum +
        (if (l.filter fun y =>
            delta * x.weight % (l.map Share.weight).sum < delta * y.weight % (l.map Share.weight).sum ∨
            (delta * x.weight % (l.map Share.weight).sum = delta * y.weight % (l.map Share.weight).sum ∧
              y.port.num < x.port.num)).length < leftover delta l then 1 else 0)) ∧
    leftover delta l = delta - (l.map fun x => delta * x.weight / (l.map Share.weight).sum).sum ∧
    (l.map (finalShare delta l)).sum = delta ∧ leftover delta l < l.length ∧
    (∀ x ∈ l, x.weight = 0 → finalShare delta l x = 0)

/-! ### The analyser (03) -/

/-- READY (R60): from NOT_READY and FAULT the scheduler enters IDLE with the count at 0, the sweep's due timer starts the
first time (R70), and the head of the queue is served (R64); in every other state it is ignored. -/
def Obligations.ReadyWakesTheScheduler : Prop :=
  ∀ s : State, s.loaded = true → s.anaLink.framer.active = true →
    ((s.ana.state = .notReady ∨ s.ana.state = .fault) → s.ana.pendingSniff = false →
      ∃ u : State, exec .ready s = .next u.finish ∧ s.SameBut [.ana, .link .analyser] u ∧ u.ana.count = 0 ∧
        u.ana.dueAt =
          (if s.ana.dueAt = none ∧ 0 < sweepPeriod s.cfg.analyser then some (s.clock + sweepPeriod s.cfg.analyser)
          else s.ana.dueAt) ∧
        ((s.ana.queue = [] ∨ s.ana.warning = true ∨ s.lc.paused = true) →
          u.ana.state = .idle ∧ u.ana.queue = s.ana.queue) ∧
        (∀ x rest, s.ana.queue = x :: rest → s.ana.warning = false → s.lc.paused = false →
          u.ana.queue = rest ∧ u.SampleRuns x.port)) ∧
    (s.ana.state ≠ .notReady → s.ana.state ≠ .fault →
      ∃ u : State, exec .ready s = .next u.finish ∧ s.SameBut [.link .analyser] u)

/-- How the two readings of a result are judged (R67, R75), and what guarantees Ti below Tp. -/
def Obligations.ResultsAreJudged : Prop :=
  (∀ (g : AnalyserSet) (halo hydro : Nat),
    (g.ti ≤ halo → g.ti ≤ hydro → classifyDecision g halo hydro = .mixed) ∧
    (halo < g.ti ∨ hydro < g.ti → g.tp ≤ halo → classifyDecision g halo hydro = .halo) ∧
    (halo < g.ti ∨ hydro < g.ti → halo < g.tp → g.tp ≤ hydro → classifyDecision g halo hydro = .hydro) ∧
    (halo < g.ti ∨ hydro < g.ti → halo < g.tp → hydro < g.tp → classifyDecision g halo hydro = .none) ∧
    (g.haloLeak ≤ halo ∨ g.hydroLeak ≤ hydro → sniffJudgement g halo hydro = .leak) ∧
    (halo < g.haloLeak → hydro < g.hydroLeak → g.traceLimit ≤ halo ∨ g.traceLimit ≤ hydro →
      sniffJudgement g halo hydro = .trace) ∧
    (halo < g.haloLeak → hydro < g.hydroLeak → halo < g.traceLimit → hydro < g.traceLimit →
      sniffJudgement g halo hydro = .clean)) ∧
  ∀ b : List Byte, (readConfig b).analyser.ti < (readConfig b).analyser.tp

/-- RESULT in the result phase of a classify sample: the port takes it (R10, R11, R66), by the class measured; a withdrawn
sample's result goes to nobody; outside a result phase a RESULT is discarded (R61). -/
def Obligations.ClassifyResultReachesItsPort : Prop :=
  ∀ (halo hydro : Word16) (s : State), s.loaded = true → s.anaLink.framer.active = true →
    ((∀ p w, s.ana.state ≠ .classifying p .result w) → (∀ p n, s.ana.state ≠ .sniffing p .result n) →
      ∃ u : State, exec (.result halo hydro) s = .next u.finish ∧ s.SameBut [.link .analyser] u) ∧
    (∀ p, s.ana.state = .classifying p .result true →
      ∃ u : State, exec (.result halo hydro) s = .next u.finish ∧ s.SameBut [.ana, .link .analyser] u ∧
        u.ana.count = 0) ∧
    (∀ p r m, s.ana.state = .classifying p .result false → (s.port p).state = .classify →
      (s.port p).slot = some r →
      m = ⟨classifyDecision s.cfg.analyser (min 1000 halo.toNat) (min 1000 hydro.toNat), min 1000 halo.toNat,
        min 1000 hydro.toNat⟩ →
      ∃ u : State, exec (.result halo hydro) s = .next u.finish ∧
        s.SameBut [.ports, .store, .ana, .op, .link .analyser] u ∧ s.SamePortsBut p u ∧ u.ana.count = 0 ∧
        (∀ c, m.cls.gas = some c →
          (u.port p).slot = some
            { r with
              measured := some m
              mismatch :=
                (match r.declaredClass with
                | none => r.mismatch
                | some d => decide (d ≠ c)) } ∧
          (u.port p).k = some 1 ∧ (u.port p).classifyWait = .stopped ∧ u.store = s.store ∧
          (if c = .hydro ∧ s.inhibited = true then
            (u.port p).state = .wait .inhibit ∧ (u.port p).dwell = .frozen ((s.portSet (s.port p)).dwellMs 1) ∧
              (u.port p).valveH = false ∧ (u.port p).valveK = false
          else if s.accepting c = false then
            (u.port p).state = .wait .receiver ∧ (u.port p).dwell = .frozen ((s.portSet (s.port p)).dwellMs 1) ∧
              (u.port p).valveH = false ∧ (u.port p).valveK = false
          else if s.lc.paused then
            (u.port p).state = .extract ∧ (u.port p).dwell = .frozen ((s.portSet (s.port p)).dwellMs 1) ∧
              (u.port p).valveH = false ∧ (u.port p).valveK = false
          else
            (u.port p).state = .extract ∧ (u.port p).dwell = .running ((s.portSet (s.port p)).dwellMs 1) ∧
              (u.port p).valve c = true ∧ (u.port p).valve c.other = false)) ∧
        (m.cls = .mixed →
          (u.port p).state = .quarantine .mixed ∧ (u.port p).classifyWait = .stopped ∧
          (u.port p).slot = some { r with measured := some m, qReason := some .mixed } ∧
          u.op.flag .quarantine = true) ∧
        (m.cls = .none → s.CaseClosed p { r with measured := some m } .empty u))

/-- SAMPLE_TIMER_EXPIRY and SNIFF_TIMER_EXPIRY close the path and start the result phase (R65, R74). RESULT_TIMEOUT counts; the
first in a row puts a classify request back at the head with its retry mark and the scheduler goes on (R68), the second is
FAULT with ANALYSER_FAULT (R69). -/
def Obligations.SamplesEndAndTimeOut : Prop :=
  ∀ (n : Nat) (s e : State), e = s.elapse n →
    (∀ p w, s.ana.state = .classifying p .sample w → s.ana.sampleT = .running n →
      ∃ u : State, exec .sampleTimerExpiry s = .next u.finish ∧ e.SameBut [.ana] u ∧
        u.ana =
          { e.ana with
            state := .classifying p .result w, sampleV := s.ana.sampleV.set p false,
            sniffV := s.ana.sniffV.set p false, sampleT := .stopped, resultT := .running 1000 }) ∧
    (∀ p noted, s.ana.state = .sniffing p .sample noted → s.ana.sampleT = .running n →
      ∃ u : State, exec .sniffTimerExpiry s = .next u.finish ∧ e.SameBut [.ana] u ∧
        u.ana =
          { e.ana with
            state := .sniffing p .result noted, sampleV := s.ana.sampleV.set p false,
            sniffV := s.ana.sniffV.set p false, sampleT := .stopped, resultT := .running 1000 }) ∧
    (s.ana.state.awaitsResult = true → s.ana.resultT = .running n → 1 ≤ s.ana.count →
      ∃ u : State, exec .resultTimeout s = .next u.finish ∧ e.SameBut [.ana, .op] u ∧ u.ana.state = .fault ∧
        u.ana.count = 2 ∧ u.op.flag .analyserFault = true ∧ u.ana.pendingSniff = false ∧
        (∀ p, s.ana.state = .classifying p .result false → u.ana.queue = ⟨p, true⟩ :: s.ana.queue) ∧
        ((∀ p, s.ana.state ≠ .classifying p .result false) → u.ana.queue = s.ana.queue)) ∧
    (s.ana.state.awaitsResult = true → s.ana.resultT = .running n → s.ana.count = 0 → s.ana.pendingSniff = false →
      ∃ u : State, exec .resultTimeout s = .next u.finish ∧ e.SameBut [.ana] u ∧ u.ana.count = 1 ∧
        (∀ p, s.ana.state = .classifying p .result false →
          (s.ana.warning = true ∨ s.lc.paused = true →
            u.ana.state = .idle ∧ u.ana.queue = ⟨p, true⟩ :: s.ana.queue) ∧
          (s.ana.warning = false → s.lc.paused = false → u.ana.queue = s.ana.queue ∧ u.SampleRuns p)) ∧
        ((∀ p, s.ana.state ≠ .classifying p .result false) → s.ana.queue = [] →
          u.ana.state = .idle ∧ u.ana.queue = [])) ∧
    (s.ana.state.awaitsResult = true → s.ana.resultT = .running n → s.ana.count = 0 → s.ana.pendingSniff = true →
      ∀ q, s.sniffTarget = some q →
      ∃ u : State, exec .resultTimeout s = .next u.finish ∧ e.SameBut [.ana] u ∧ u.ana.count = 1 ∧
        u.ana.state = .sniffing q .sample (s.port q).openCase ∧ u.ana.pendingSniff = false ∧
        u.ana.warning = false ∧ u.ana.sniffV.get q = true ∧ u.ana.amodeSniff = true)

/-- SNIFF_WARNING raises its flag the lead before the due time (R71). SNIFF_DUE starts, holds or skips the sniff by the
scheduler's state (R72, R73). A sniff's RESULT is judged and reaches the port whose noted case is open, and a LEAK raises
its event and the leak-recent flag (R24, R76); LEAK_RECENT_EXPIRY drops that flag (R77). Two clauses are the model's choice: that
a due or warning time already past is taken without time passing (log 33), and that an ALARM lost on a full queue is owed
(log 9). -/
def Obligations.SweepSniffsTheBusyPorts : Prop :=
  ∀ s : State,
    (∀ d e, s.ana.dueAt = some d → s.ana.warning = false → e = s.elapse (d - sweepLead s.cfg.analyser - s.clock) →
      ∃ u : State, exec .sniffWarning s = .next u.finish ∧ e.SameBut [.ana] u ∧
        u.ana = { e.ana with warning := true }) ∧
    (∀ d e, s.ana.dueAt = some d → s.ana.pendingSniff = false → e = s.elapse (d - s.clock) →
      ∃ u : State, exec .sniffDue s = .next u.finish ∧ e.SameBut [.ana] u ∧
        (∀ p, s.ana.state = .idle → s.sniffTarget = some p →
          u.ana =
            { e.ana with
              state := .sniffing p .sample (s.port p).openCase, pointer := p, warning := false,
              dueAt := some (e.clock + sweepPeriod s.cfg.analyser), amodeSniff := true,
              sniffV := s.ana.sniffV.set p true, sampleT := .running 1000 }) ∧
        (s.ana.state = .idle → s.sniffTarget = none → s.ana.queue = [] →
          u.ana = { e.ana with warning := false, dueAt := some (d + sweepPeriod s.cfg.analyser) }) ∧
        ((s.ana.state = .notReady ∨ s.ana.state = .fault) →
          u.ana = { e.ana with warning := false, dueAt := some (d + sweepPeriod s.cfg.analyser) }) ∧
        (s.ana.state ≠ .idle → s.ana.state ≠ .notReady → s.ana.state ≠ .fault →
          u.ana = { e.ana with warning := true, pendingSniff := true })) ∧
    (∀ halo hydro p noted o, s.ana.state = .sniffing p .result noted → s.loaded = true →
      s.anaLink.framer.active = true → o = sniffJudgement s.cfg.analyser halo.toNat hydro.toNat →
      ∃ u : State, exec (.result halo hydro) s = .next u.finish ∧ u.ana.count = 0 ∧
        s.SameBut
          [.ports, .ana, .receiver .halo, .receiver .hydro, .agent, .line, .conditions, .op, .link .analyser] u ∧
        (o = .leak →
          u.ana.leakRecent = true ∧ u.ana.leakT = .running (sweepPeriod s.cfg.analyser) ∧
            u.op.flag .leak = true) ∧
        (o ≠ .leak → u.ana.leakRecent = s.ana.leakRecent ∧ u.ana.leakT = s.ana.leakT) ∧
        (s.cfg.analyser.hydroLeak ≤ hydro.toNat →
          u.inhibited = true ∧ u.op.flag .hydroAlarm = true ∧
            (s.line.clash = false → u.willSend (.alarm s.cfg.header.alarmS))) ∧
        (hydro.toNat < s.cfg.analyser.hydroLeak → s.SameBut [.ports, .ana, .op, .link .analyser] u) ∧
        (∀ k r, noted = some k → (s.port p).openCase = some k → (s.port p).slot = some r →
          (o = .clean → u.port p = s.port p) ∧
          (o = .trace ∨ o = .leak ∧ (s.port p).state.quarantined = true →
            u.port p =
              { s.port p with slot := some { r with traceHits := min 255 (r.traceHits + 1) } }) ∧
          (o = .leak → (s.port p).state.quarantined = false →
            (u.port p).state = .quarantine .leak ∧ (u.port p).valveH = false ∧ (u.port p).valveK = false ∧
              (u.port p).slot =
                some { r with traceHits := min 255 (r.traceHits + 1), qReason := some .leak })) ∧
        ((noted = none ∨ (s.port p).openCase ≠ noted) → hydro.toNat < s.cfg.analyser.hydroLeak →
          u.ports = s.ports)) ∧
    (∀ n, s.ana.leakT = .running n →
      ∃ u : State, exec .leakRecentExpiry s = .next u.finish ∧ (s.elapse n).SameBut [.ana] u ∧
        u.ana = { (s.elapse n).ana with leakRecent := false, leakT := .stopped })

/-! ### The header agent's timers (06) -/

/-- FLOW_WINDOW_EXPIRY: the six checks in their order (R121), and the start of the flow with its FLOW_ON and its receiver's answer
(R48, R129). That a flow whose receiver is done at its start offers FLOW_ON and then FLOW_OFF is the model's choice (log 11). -/
def Obligations.FlowWindowDecides : Prop :=
  ∀ (c : GasClass) (n : Nat) (s e : State), s.agent.dstate = .listenFlow → s.agent.sought = some c →
    s.agent.window = .running n → e = s.elapse n →
    ∃ u : State, exec .flowWindowExpiry s = .next u.finish ∧
      e.SameBut [.ports, .receiver c, .agent, .line, .op] u ∧
      (e.agent.held c = true ∨ s.agent.contended = true →
        u.agent.dstate = .backoff ∧ u.agent.sought = some c ∧
          u.agent.backoff = .running (100 + 10 * s.cfg.address.val)) ∧
      (e.agent.held c = false → s.agent.contended = false →
        (s.agent.viewClass = some c → s.noOther c = true → e.FlowStarted c s.agent.viewSerial u) ∧
        (s.agent.viewClass = some c → s.noOther c = false → u.agent.dstate = .waiting) ∧
        (s.agent.viewClass ≠ some c → s.flowingPeers ≠ [] → u.agent.dstate = .waiting) ∧
        (s.agent.viewClass ≠ some c → s.flowingPeers = [] →
          (s.agent.owner = none → u.agent.dstate = .drain ∧ u.agent.drain = .running (s.cfg.header.drainS * 1000)) ∧
          (s.agent.owner ≠ none → u.agent.dstate = .waiting)))

/-- DRAIN_EXPIRY, PURGE_WINDOW_EXPIRY and PURGE_EXPIRY: their checks in their order, from the drain to the purge and from the
purge to the flow with PURGE_DONE and then FLOW_ON (R123 to R126, R128, R129). The frames of the way on find room in the queue. A
flow whose receiver is done at its start ends as R130 has it: the model's choice (log 11). -/
def Obligations.DrainAndPurgeDecide : Prop :=
  ∀ (c : GasClass) (n : Nat) (s e : State), s.agent.sought = some c → e = s.elapse n → s.loaded = true →
    s.line.clash = false → s.line.queue.length < 7 →
    (s.agent.dstate = .drain → s.agent.drain = .running n →
      ∃ u : State, exec .drainExpiry s = .next u.finish ∧ e.SameBut [.agent, .line, .op] u ∧
        u.agent.dstate =
          (if e.agent.held c = true then .backoff else if s.agent.viewClass = some c then .listenFlow
          else if s.agent.owner ≠ none then .waiting else .listenPurge) ∧
        (e.agent.held c = false → s.agent.viewClass ≠ some c → s.agent.owner = none →
          u.agent.reserved = true ∧ u.agent.key = s.band c ∧ u.willSend (.intent .purge c (s.band c)))) ∧
    (s.agent.dstate = .listenPurge → s.agent.window = .running n →
      ∃ u : State, exec .purgeWindowExpiry s = .next u.finish ∧ e.SameBut [.agent, .line, .op] u ∧
        (e.agent.held c = true → u.agent.dstate = .backoff ∧ u.agent.purgeV = s.agent.purgeV) ∧
        (e.agent.held c = false → s.agent.reserved = true →
          u.agent.dstate = .purging ∧ u.agent.purgeV = true ∧ u.agent.purgeSerial = s.agent.viewSerial + 1 ∧
            u.agent.viewSerial = s.agent.viewSerial ∧ u.agent.viewClass = none ∧
            u.agent.owner = some s.cfg.address ∧ u.agent.purge = .running (s.cfg.header.purgeS * 1000) ∧
            u.agent.dischH = false ∧ u.agent.dischK = false ∧ u.agent.selH = false ∧ u.agent.selK = false ∧
            u.willSend (.purgeStart c (s.agent.viewSerial + 1))) ∧
        (e.agent.held c = false → s.agent.reserved = false → s.agent.viewClass ≠ some c →
          u.agent.dstate = (if s.flowingPeers = [] ∧ s.agent.owner = none then .drain else .waiting))) ∧
    (s.agent.dstate = .purging → s.agent.purge = .running n →
      ∃ u : State, exec .purgeExpiry s = .next u.finish ∧ e.SameBut [.ports, .receiver c, .agent, .line, .op] u ∧
        u.agent.purgeV = false ∧ u.agent.viewClass = some c ∧ u.agent.viewSerial = s.agent.purgeSerial ∧
        u.agent.owner = none ∧
        (∃ q ∈ u.line.queue, q.frame = .purgeDone (some c) s.agent.purgeSerial) ∧
        ((s.rcv c).request = true → e.FlowStarted c s.agent.purgeSerial u) ∧
        ((s.rcv c).request = false → u.agent.dstate ≠ .flowing ∧ u.rcv c = e.rcv c))

/-- BACKOFF_EXPIRY: the agent arrives in IDLE, and listens for the receiver that R119 chooses, if there is one (R119, R133).
HOLD_RUNS_OUT: the bar is gone; an agent in IDLE makes the check of R119, and one that waits for the class makes the checks of
R122, to LISTEN_FLOW, to DRAIN or to WAITING still (R115, R118). -/
def Obligations.BackoffAndHoldsRunOut : Prop :=
  ∀ (n : Nat) (s e : State), e = s.elapse n → s.loaded = true → s.line.clash = false → s.line.queue.length < 7 →
    (s.agent.dstate = .backoff → s.agent.backoff = .running n →
      ∃ u : State, exec .backoffExpiry s = .next u.finish ∧ e.SameBut [.agent, .line, .op] u ∧
        (e.chosen = none ∨ s.lc.paused = true ∨ s.line.listenIn = true →
          u.agent.dstate = .idle ∧ u.agent.sought = none ∧ u.agent.backoff = .stopped) ∧
        (∀ c, e.chosen = some c → s.lc.paused = false → s.line.listenIn = false →
          u.agent.dstate = .listenFlow ∧ u.agent.sought = some c ∧ u.agent.key = s.band c ∧
            u.agent.contended = false ∧ u.willSend (.intent .flow c (s.band c)))) ∧
    (∀ c, s.agent.heldT c = .running n →
      ∃ u : State, exec (.holdRunsOut c) s = .next u.finish ∧ e.SameBut [.agent, .line, .op] u ∧
        u.agent.heldT c = .stopped ∧ u.agent.heldT c.other = e.agent.heldT c.other ∧
        (s.agent.dstate ≠ .idle → s.agent.dstate ≠ .waiting →
          e.SameBut [.agent] u ∧ ∀ d, d ≠ c → u.agent.held d = e.agent.held d) ∧
        (s.agent.dstate = .idle → s.lc.paused = false → s.line.listenIn = false →
          (e.rcv c).request = true → s.agent.overpressure = false → s.agent.headerFault = false →
          (c = .hydro → e.inhibited = false) → u.agent.dstate = .listenFlow) ∧
        (s.agent.dstate = .idle → e.chosen = none ∨ s.lc.paused = true ∨ s.line.listenIn = true →
          u.agent.dstate = .idle) ∧
        (∀ d, s.agent.dstate = .idle → e.chosen = some d → s.lc.paused = false → s.line.listenIn = false →
          u.agent.dstate = .listenFlow ∧ u.agent.sought = some d ∧ u.willSend (.intent .flow d (s.band d))) ∧
        (∀ d, s.agent.dstate = .waiting → s.agent.sought = some d →
          (d = c → u.WaitingDecided d) ∧ (d ≠ c → e.SameBut [.agent] u ∧ u.agent.dstate = .waiting))) ∧
    (∀ c d, e.chosen = some c → e.eligible d = true → d ≠ c →
      s.agent.viewClass = some c ∨ s.agent.viewClass = none ∧
        (s.band d < s.band c ∨ s.band d = s.band c ∧ c = .halo))

/-! ### The record links (11) -/

/-- RECORD_DISCARDED and RECORD_LINK_QUIET act on their link's framer alone (R175, R200). Three clauses are the model's choice:
that a record with a length above 40 sends the framer to SKIPPING (log 30), that a record that completes while its framer waits for
quiet is ignored whole and the wait begins again (log 4), and that the quiet takes 11 ms (log 19). -/
def Obligations.RecordLinksSkipWhatIsNotGood : Prop :=
  ∀ (l : RecordLink) (s : State),
    (∀ d, s.loaded = true → (s.recordLink l).framer.active = true →
      ∃ u : State, exec (.recordDiscarded l d) s = .next u.finish ∧ s.SameBut [.link l] u ∧
        u.recordLink l =
          (if d = .lengthAbove40 then ⟨.skipping, .running 11⟩ else ⟨.hunting, .stopped⟩)) ∧
    (∀ i n, (∃ d, i = .recordDiscarded l d) ∨ (l = .scale ∧ ∃ c m v, i = .reading c m v) ∨
        (l = .scale ∧ ∃ c, i = .faultMarkedRecord c) ∨ (l = .analyser ∧ i = .ready) ∨
        (l = .analyser ∧ ∃ h k, i = .result h k) →
      s.loaded = true → (s.recordLink l).framer.active = false → (s.recordLink l).gap = .running n →
      ∃ u : State, exec i s = .next u.finish ∧ s.SameBut [.link l] u ∧
        u.recordLink l = { s.recordLink l with gap := .running 11 }) ∧
    (∀ n, (s.recordLink l).framer.active = false → (s.recordLink l).gap = .running n →
      ∃ u : State, exec (.recordLinkQuiet l) s = .next u.finish ∧ (s.elapse n).SameBut [.link l] u ∧
        u.recordLink l = ⟨.hunting, .stopped⟩) ∧
    (∀ b, (s.recordLink l).framer = .inMessage b →
      ∃ u : State, exec (.recordLinkQuiet l) s = .next u.finish ∧
        (s.elapse (s.recordLink l).gap.left).SameBut [.link l] u ∧ u.recordLink l = ⟨.hunting, .stopped⟩)

/-! ### What every step keeps -/

/-- Both receivers' accounts balance after every step that begins with them balanced (R40). -/
def Obligations.EveryStepKeepsTheAccounts : Prop :=
  ∀ s t : State, s.AccountsHold → step s = .next t → t.AccountsHold

/-- The discharge, purge and selector outputs stay as R138 has them after every step, and the view names the class that flows
(R130). -/
def Obligations.EveryStepKeepsTheHeaderOutputs : Prop :=
  ∀ s t : State, s.OutputsSafe → step s = .next t → t.OutputsSafe

/-- After every step a receiver valve is open only at an extracting port of its class, with its receiver ACCEPTING, the
station in RUN and no inhibit for HYDRO (R5, R28, R41). -/
def Obligations.EveryStepKeepsTheReceiverValves : Prop :=
  ∀ s t : State, s.ValvesSafe → step s = .next t → t.ValvesSafe

/-- After every step a sample or sniff path is open only in the sample phase of its own sample (R59), a sniff is pending only
while a sample runs (R72), and neither queue is above its bound (R88, R104). -/
def Obligations.EveryStepKeepsPathsAndQueues : Prop :=
  ∀ s t : State, s.ana.PathsSafe → s.QueuesBounded → step s = .next t → t.ana.PathsSafe ∧ t.QueuesBounded

/-- What every step keeps holds of the machine after reset. -/
def Obligations.ResetStateIsSafe : Prop :=
  State.reset.AccountsHold ∧ State.reset.OutputsSafe ∧ State.reset.ValvesSafe ∧ State.reset.ana.PathsSafe ∧
    State.reset.QueuesBounded
end

