-- ==== Sys2Proof/Laws/State.lean ====
section
/-! SUPPORT. What every updater of the state leaves and what it writes, one lemma per field, so that no proof unfolds an
update of the whole state. -/

namespace Sys2Proof.Machine.State

/-! ### Updaters of one block -/

@[simp] theorem setStore_clock (x : CaseStore) (s : State) : (s.setStore x).clock = s.clock := rfl
@[simp] theorem setStore_loader (x : CaseStore) (s : State) : (s.setStore x).loader = s.loader := rfl
@[simp] theorem setStore_ports (x : CaseStore) (s : State) : (s.setStore x).ports = s.ports := rfl
@[simp] theorem setStore_store (x : CaseStore) (s : State) : (s.setStore x).store = x := rfl
@[simp] theorem setStore_ana (x : CaseStore) (s : State) : (s.setStore x).ana = s.ana := rfl
@[simp] theorem setStore_halo (x : CaseStore) (s : State) : (s.setStore x).halo = s.halo := rfl
@[simp] theorem setStore_hydro (x : CaseStore) (s : State) : (s.setStore x).hydro = s.hydro := rfl
@[simp] theorem setStore_agent (x : CaseStore) (s : State) : (s.setStore x).agent = s.agent := rfl
@[simp] theorem setStore_line (x : CaseStore) (s : State) : (s.setStore x).line = s.line := rfl
@[simp] theorem setStore_peers (x : CaseStore) (s : State) : (s.setStore x).peers = s.peers := rfl
@[simp] theorem setStore_lc (x : CaseStore) (s : State) : (s.setStore x).lc = s.lc := rfl
@[simp] theorem setStore_field (x : CaseStore) (s : State) : (s.setStore x).field = s.field := rfl
@[simp] theorem setStore_op (x : CaseStore) (s : State) : (s.setStore x).op = s.op := rfl
@[simp] theorem setStore_scaleLink (x : CaseStore) (s : State) : (s.setStore x).scaleLink = s.scaleLink := rfl
@[simp] theorem setStore_anaLink (x : CaseStore) (s : State) : (s.setStore x).anaLink = s.anaLink := rfl
@[simp] theorem setStore_pending (x : CaseStore) (s : State) : (s.setStore x).pending = s.pending := rfl
@[simp] theorem setStore_free (x : CaseStore) (s : State) : (s.setStore x).free = s.free := rfl

@[simp] theorem setAna_clock (x : Analyser) (s : State) : (s.setAna x).clock = s.clock := rfl
@[simp] theorem setAna_loader (x : Analyser) (s : State) : (s.setAna x).loader = s.loader := rfl
@[simp] theorem setAna_ports (x : Analyser) (s : State) : (s.setAna x).ports = s.ports := rfl
@[simp] theorem setAna_store (x : Analyser) (s : State) : (s.setAna x).store = s.store := rfl
@[simp] theorem setAna_ana (x : Analyser) (s : State) : (s.setAna x).ana = x := rfl
@[simp] theorem setAna_halo (x : Analyser) (s : State) : (s.setAna x).halo = s.halo := rfl
@[simp] theorem setAna_hydro (x : Analyser) (s : State) : (s.setAna x).hydro = s.hydro := rfl
@[simp] theorem setAna_agent (x : Analyser) (s : State) : (s.setAna x).agent = s.agent := rfl
@[simp] theorem setAna_line (x : Analyser) (s : State) : (s.setAna x).line = s.line := rfl
@[simp] theorem setAna_peers (x : Analyser) (s : State) : (s.setAna x).peers = s.peers := rfl
@[simp] theorem setAna_lc (x : Analyser) (s : State) : (s.setAna x).lc = s.lc := rfl
@[simp] theorem setAna_field (x : Analyser) (s : State) : (s.setAna x).field = s.field := rfl
@[simp] theorem setAna_op (x : Analyser) (s : State) : (s.setAna x).op = s.op := rfl
@[simp] theorem setAna_scaleLink (x : Analyser) (s : State) : (s.setAna x).scaleLink = s.scaleLink := rfl
@[simp] theorem setAna_anaLink (x : Analyser) (s : State) : (s.setAna x).anaLink = s.anaLink := rfl
@[simp] theorem setAna_pending (x : Analyser) (s : State) : (s.setAna x).pending = s.pending := rfl
@[simp] theorem setAna_free (x : Analyser) (s : State) : (s.setAna x).free = s.free := rfl

@[simp] theorem setAgent_clock (x : Agent) (s : State) : (s.setAgent x).clock = s.clock := rfl
@[simp] theorem setAgent_loader (x : Agent) (s : State) : (s.setAgent x).loader = s.loader := rfl
@[simp] theorem setAgent_ports (x : Agent) (s : State) : (s.setAgent x).ports = s.ports := rfl
@[simp] theorem setAgent_store (x : Agent) (s : State) : (s.setAgent x).store = s.store := rfl
@[simp] theorem setAgent_ana (x : Agent) (s : State) : (s.setAgent x).ana = s.ana := rfl
@[simp] theorem setAgent_halo (x : Agent) (s : State) : (s.setAgent x).halo = s.halo := rfl
@[simp] theorem setAgent_hydro (x : Agent) (s : State) : (s.setAgent x).hydro = s.hydro := rfl
@[simp] theorem setAgent_agent (x : Agent) (s : State) : (s.setAgent x).agent = x := rfl
@[simp] theorem setAgent_line (x : Agent) (s : State) : (s.setAgent x).line = s.line := rfl
@[simp] theorem setAgent_peers (x : Agent) (s : State) : (s.setAgent x).peers = s.peers := rfl
@[simp] theorem setAgent_lc (x : Agent) (s : State) : (s.setAgent x).lc = s.lc := rfl
@[simp] theorem setAgent_field (x : Agent) (s : State) : (s.setAgent x).field = s.field := rfl
@[simp] theorem setAgent_op (x : Agent) (s : State) : (s.setAgent x).op = s.op := rfl
@[simp] theorem setAgent_scaleLink (x : Agent) (s : State) : (s.setAgent x).scaleLink = s.scaleLink := rfl
@[simp] theorem setAgent_anaLink (x : Agent) (s : State) : (s.setAgent x).anaLink = s.anaLink := rfl
@[simp] theorem setAgent_pending (x : Agent) (s : State) : (s.setAgent x).pending = s.pending := rfl
@[simp] theorem setAgent_free (x : Agent) (s : State) : (s.setAgent x).free = s.free := rfl

@[simp] theorem setLine_clock (x : LineIf) (s : State) : (s.setLine x).clock = s.clock := rfl
@[simp] theorem setLine_loader (x : LineIf) (s : State) : (s.setLine x).loader = s.loader := rfl
@[simp] theorem setLine_ports (x : LineIf) (s : State) : (s.setLine x).ports = s.ports := rfl
@[simp] theorem setLine_store (x : LineIf) (s : State) : (s.setLine x).store = s.store := rfl
@[simp] theorem setLine_ana (x : LineIf) (s : State) : (s.setLine x).ana = s.ana := rfl
@[simp] theorem setLine_halo (x : LineIf) (s : State) : (s.setLine x).halo = s.halo := rfl
@[simp] theorem setLine_hydro (x : LineIf) (s : State) : (s.setLine x).hydro = s.hydro := rfl
@[simp] theorem setLine_agent (x : LineIf) (s : State) : (s.setLine x).agent = s.agent := rfl
@[simp] theorem setLine_line (x : LineIf) (s : State) : (s.setLine x).line = x := rfl
@[simp] theorem setLine_peers (x : LineIf) (s : State) : (s.setLine x).peers = s.peers := rfl
@[simp] theorem setLine_lc (x : LineIf) (s : State) : (s.setLine x).lc = s.lc := rfl
@[simp] theorem setLine_field (x : LineIf) (s : State) : (s.setLine x).field = s.field := rfl
@[simp] theorem setLine_op (x : LineIf) (s : State) : (s.setLine x).op = s.op := rfl
@[simp] theorem setLine_scaleLink (x : LineIf) (s : State) : (s.setLine x).scaleLink = s.scaleLink := rfl
@[simp] theorem setLine_anaLink (x : LineIf) (s : State) : (s.setLine x).anaLink = s.anaLink := rfl
@[simp] theorem setLine_pending (x : LineIf) (s : State) : (s.setLine x).pending = s.pending := rfl
@[simp] theorem setLine_free (x : LineIf) (s : State) : (s.setLine x).free = s.free := rfl

@[simp] theorem setLc_clock (x : LineConditions) (s : State) : (s.setLc x).clock = s.clock := rfl
@[simp] theorem setLc_loader (x : LineConditions) (s : State) : (s.setLc x).loader = s.loader := rfl
@[simp] theorem setLc_ports (x : LineConditions) (s : State) : (s.setLc x).ports = s.ports := rfl
@[simp] theorem setLc_store (x : LineConditions) (s : State) : (s.setLc x).store = s.store := rfl
@[simp] theorem setLc_ana (x : LineConditions) (s : State) : (s.setLc x).ana = s.ana := rfl
@[simp] theorem setLc_halo (x : LineConditions) (s : State) : (s.setLc x).halo = s.halo := rfl
@[simp] theorem setLc_hydro (x : LineConditions) (s : State) : (s.setLc x).hydro = s.hydro := rfl
@[simp] theorem setLc_agent (x : LineConditions) (s : State) : (s.setLc x).agent = s.agent := rfl
@[simp] theorem setLc_line (x : LineConditions) (s : State) : (s.setLc x).line = s.line := rfl
@[simp] theorem setLc_peers (x : LineConditions) (s : State) : (s.setLc x).peers = s.peers := rfl
@[simp] theorem setLc_lc (x : LineConditions) (s : State) : (s.setLc x).lc = x := rfl
@[simp] theorem setLc_field (x : LineConditions) (s : State) : (s.setLc x).field = s.field := rfl
@[simp] theorem setLc_op (x : LineConditions) (s : State) : (s.setLc x).op = s.op := rfl
@[simp] theorem setLc_scaleLink (x : LineConditions) (s : State) : (s.setLc x).scaleLink = s.scaleLink := rfl
@[simp] theorem setLc_anaLink (x : LineConditions) (s : State) : (s.setLc x).anaLink = s.anaLink := rfl
@[simp] theorem setLc_pending (x : LineConditions) (s : State) : (s.setLc x).pending = s.pending := rfl
@[simp] theorem setLc_free (x : LineConditions) (s : State) : (s.setLc x).free = s.free := rfl

@[simp] theorem setField_clock (x : FieldUnit) (s : State) : (s.setField x).clock = s.clock := rfl
@[simp] theorem setField_loader (x : FieldUnit) (s : State) : (s.setField x).loader = s.loader := rfl
@[simp] theorem setField_ports (x : FieldUnit) (s : State) : (s.setField x).ports = s.ports := rfl
@[simp] theorem setField_store (x : FieldUnit) (s : State) : (s.setField x).store = s.store := rfl
@[simp] theorem setField_ana (x : FieldUnit) (s : State) : (s.setField x).ana = s.ana := rfl
@[simp] theorem setField_halo (x : FieldUnit) (s : State) : (s.setField x).halo = s.halo := rfl
@[simp] theorem setField_hydro (x : FieldUnit) (s : State) : (s.setField x).hydro = s.hydro := rfl
@[simp] theorem setField_agent (x : FieldUnit) (s : State) : (s.setField x).agent = s.agent := rfl
@[simp] theorem setField_line (x : FieldUnit) (s : State) : (s.setField x).line = s.line := rfl
@[simp] theorem setField_peers (x : FieldUnit) (s : State) : (s.setField x).peers = s.peers := rfl
@[simp] theorem setField_lc (x : FieldUnit) (s : State) : (s.setField x).lc = s.lc := rfl
@[simp] theorem setField_field (x : FieldUnit) (s : State) : (s.setField x).field = x := rfl
@[simp] theorem setField_op (x : FieldUnit) (s : State) : (s.setField x).op = s.op := rfl
@[simp] theorem setField_scaleLink (x : FieldUnit) (s : State) : (s.setField x).scaleLink = s.scaleLink := rfl
@[simp] theorem setField_anaLink (x : FieldUnit) (s : State) : (s.setField x).anaLink = s.anaLink := rfl
@[simp] theorem setField_pending (x : FieldUnit) (s : State) : (s.setField x).pending = s.pending := rfl
@[simp] theorem setField_free (x : FieldUnit) (s : State) : (s.setField x).free = s.free := rfl

@[simp] theorem setOp_clock (x : OperatorPort) (s : State) : (s.setOp x).clock = s.clock := rfl
@[simp] theorem setOp_loader (x : OperatorPort) (s : State) : (s.setOp x).loader = s.loader := rfl
@[simp] theorem setOp_ports (x : OperatorPort) (s : State) : (s.setOp x).ports = s.ports := rfl
@[simp] theorem setOp_store (x : OperatorPort) (s : State) : (s.setOp x).store = s.store := rfl
@[simp] theorem setOp_ana (x : OperatorPort) (s : State) : (s.setOp x).ana = s.ana := rfl
@[simp] theorem setOp_halo (x : OperatorPort) (s : State) : (s.setOp x).halo = s.halo := rfl
@[simp] theorem setOp_hydro (x : OperatorPort) (s : State) : (s.setOp x).hydro = s.hydro := rfl
@[simp] theorem setOp_agent (x : OperatorPort) (s : State) : (s.setOp x).agent = s.agent := rfl
@[simp] theorem setOp_line (x : OperatorPort) (s : State) : (s.setOp x).line = s.line := rfl
@[simp] theorem setOp_peers (x : OperatorPort) (s : State) : (s.setOp x).peers = s.peers := rfl
@[simp] theorem setOp_lc (x : OperatorPort) (s : State) : (s.setOp x).lc = s.lc := rfl
@[simp] theorem setOp_field (x : OperatorPort) (s : State) : (s.setOp x).field = s.field := rfl
@[simp] theorem setOp_op (x : OperatorPort) (s : State) : (s.setOp x).op = x := rfl
@[simp] theorem setOp_scaleLink (x : OperatorPort) (s : State) : (s.setOp x).scaleLink = s.scaleLink := rfl
@[simp] theorem setOp_anaLink (x : OperatorPort) (s : State) : (s.setOp x).anaLink = s.anaLink := rfl
@[simp] theorem setOp_pending (x : OperatorPort) (s : State) : (s.setOp x).pending = s.pending := rfl
@[simp] theorem setOp_free (x : OperatorPort) (s : State) : (s.setOp x).free = s.free := rfl

@[simp] theorem setLoader_clock (x : Loader) (s : State) : (s.setLoader x).clock = s.clock := rfl
@[simp] theorem setLoader_loader (x : Loader) (s : State) : (s.setLoader x).loader = x := rfl
@[simp] theorem setLoader_ports (x : Loader) (s : State) : (s.setLoader x).ports = s.ports := rfl
@[simp] theorem setLoader_store (x : Loader) (s : State) : (s.setLoader x).store = s.store := rfl
@[simp] theorem setLoader_ana (x : Loader) (s : State) : (s.setLoader x).ana = s.ana := rfl
@[simp] theorem setLoader_halo (x : Loader) (s : State) : (s.setLoader x).halo = s.halo := rfl
@[simp] theorem setLoader_hydro (x : Loader) (s : State) : (s.setLoader x).hydro = s.hydro := rfl
@[simp] theorem setLoader_agent (x : Loader) (s : State) : (s.setLoader x).agent = s.agent := rfl
@[simp] theorem setLoader_line (x : Loader) (s : State) : (s.setLoader x).line = s.line := rfl
@[simp] theorem setLoader_peers (x : Loader) (s : State) : (s.setLoader x).peers = s.peers := rfl
@[simp] theorem setLoader_lc (x : Loader) (s : State) : (s.setLoader x).lc = s.lc := rfl
@[simp] theorem setLoader_field (x : Loader) (s : State) : (s.setLoader x).field = s.field := rfl
@[simp] theorem setLoader_op (x : Loader) (s : State) : (s.setLoader x).op = s.op := rfl
@[simp] theorem setLoader_scaleLink (x : Loader) (s : State) : (s.setLoader x).scaleLink = s.scaleLink := rfl
@[simp] theorem setLoader_anaLink (x : Loader) (s : State) : (s.setLoader x).anaLink = s.anaLink := rfl
@[simp] theorem setLoader_pending (x : Loader) (s : State) : (s.setLoader x).pending = s.pending := rfl
@[simp] theorem setLoader_free (x : Loader) (s : State) : (s.setLoader x).free = s.free := rfl

@[simp] theorem setFree_clock (x : Nat) (s : State) : (s.setFree x).clock = s.clock := rfl
@[simp] theorem setFree_loader (x : Nat) (s : State) : (s.setFree x).loader = s.loader := rfl
@[simp] theorem setFree_ports (x : Nat) (s : State) : (s.setFree x).ports = s.ports := rfl
@[simp] theorem setFree_store (x : Nat) (s : State) : (s.setFree x).store = s.store := rfl
@[simp] theorem setFree_ana (x : Nat) (s : State) : (s.setFree x).ana = s.ana := rfl
@[simp] theorem setFree_halo (x : Nat) (s : State) : (s.setFree x).halo = s.halo := rfl
@[simp] theorem setFree_hydro (x : Nat) (s : State) : (s.setFree x).hydro = s.hydro := rfl
@[simp] theorem setFree_agent (x : Nat) (s : State) : (s.setFree x).agent = s.agent := rfl
@[simp] theorem setFree_line (x : Nat) (s : State) : (s.setFree x).line = s.line := rfl
@[simp] theorem setFree_peers (x : Nat) (s : State) : (s.setFree x).peers = s.peers := rfl
@[simp] theorem setFree_lc (x : Nat) (s : State) : (s.setFree x).lc = s.lc := rfl
@[simp] theorem setFree_field (x : Nat) (s : State) : (s.setFree x).field = s.field := rfl
@[simp] theorem setFree_op (x : Nat) (s : State) : (s.setFree x).op = s.op := rfl
@[simp] theorem setFree_scaleLink (x : Nat) (s : State) : (s.setFree x).scaleLink = s.scaleLink := rfl
@[simp] theorem setFree_anaLink (x : Nat) (s : State) : (s.setFree x).anaLink = s.anaLink := rfl
@[simp] theorem setFree_pending (x : Nat) (s : State) : (s.setFree x).pending = s.pending := rfl
@[simp] theorem setFree_free (x : Nat) (s : State) : (s.setFree x).free = x := rfl

/-! ### Updaters of one port, receiver, peer, record link -/

@[simp] theorem setPort_clock (p : PortId) (x : Port) (s : State) : (s.setPort p x).clock = s.clock := rfl
@[simp] theorem setPort_loader (p : PortId) (x : Port) (s : State) : (s.setPort p x).loader = s.loader := rfl
@[simp] theorem setPort_ports (p : PortId) (x : Port) (s : State) : (s.setPort p x).ports = s.ports.set p x := rfl
@[simp] theorem setPort_store (p : PortId) (x : Port) (s : State) : (s.setPort p x).store = s.store := rfl
@[simp] theorem setPort_ana (p : PortId) (x : Port) (s : State) : (s.setPort p x).ana = s.ana := rfl
@[simp] theorem setPort_halo (p : PortId) (x : Port) (s : State) : (s.setPort p x).halo = s.halo := rfl
@[simp] theorem setPort_hydro (p : PortId) (x : Port) (s : State) : (s.setPort p x).hydro = s.hydro := rfl
@[simp] theorem setPort_agent (p : PortId) (x : Port) (s : State) : (s.setPort p x).agent = s.agent := rfl
@[simp] theorem setPort_line (p : PortId) (x : Port) (s : State) : (s.setPort p x).line = s.line := rfl
@[simp] theorem setPort_peers (p : PortId) (x : Port) (s : State) : (s.setPort p x).peers = s.peers := rfl
@[simp] theorem setPort_lc (p : PortId) (x : Port) (s : State) : (s.setPort p x).lc = s.lc := rfl
@[simp] theorem setPort_field (p : PortId) (x : Port) (s : State) : (s.setPort p x).field = s.field := rfl
@[simp] theorem setPort_op (p : PortId) (x : Port) (s : State) : (s.setPort p x).op = s.op := rfl
@[simp] theorem setPort_scaleLink (p : PortId) (x : Port) (s : State) : (s.setPort p x).scaleLink = s.scaleLink := rfl
@[simp] theorem setPort_anaLink (p : PortId) (x : Port) (s : State) : (s.setPort p x).anaLink = s.anaLink := rfl
@[simp] theorem setPort_pending (p : PortId) (x : Port) (s : State) : (s.setPort p x).pending = s.pending := rfl
@[simp] theorem setPort_free (p : PortId) (x : Port) (s : State) : (s.setPort p x).free = s.free := rfl

@[simp] theorem setRcv_clock (c : GasClass) (r : Receiver) (s : State) : (s.setRcv c r).clock = s.clock := by
  cases c <;> rfl
@[simp] theorem setRcv_loader (c : GasClass) (r : Receiver) (s : State) : (s.setRcv c r).loader = s.loader := by
  cases c <;> rfl
@[simp] theorem setRcv_ports (c : GasClass) (r : Receiver) (s : State) : (s.setRcv c r).ports = s.ports := by
  cases c <;> rfl
@[simp] theorem setRcv_store (c : GasClass) (r : Receiver) (s : State) : (s.setRcv c r).store = s.store := by
  cases c <;> rfl
@[simp] theorem setRcv_ana (c : GasClass) (r : Receiver) (s : State) : (s.setRcv c r).ana = s.ana := by
  cases c <;> rfl
@[simp] theorem setRcv_agent (c : GasClass) (r : Receiver) (s : State) : (s.setRcv c r).agent = s.agent := by
  cases c <;> rfl
@[simp] theorem setRcv_line (c : GasClass) (r : Receiver) (s : State) : (s.setRcv c r).line = s.line := by
  cases c <;> rfl
@[simp] theorem setRcv_peers (c : GasClass) (r : Receiver) (s : State) : (s.setRcv c r).peers = s.peers := by
  cases c <;> rfl
@[simp] theorem setRcv_lc (c : GasClass) (r : Receiver) (s : State) : (s.setRcv c r).lc = s.lc := by
  cases c <;> rfl
@[simp] theorem setRcv_field (c : GasClass) (r : Receiver) (s : State) : (s.setRcv c r).field = s.field := by
  cases c <;> rfl
@[simp] theorem setRcv_op (c : GasClass) (r : Receiver) (s : State) : (s.setRcv c r).op = s.op := by
  cases c <;> rfl
@[simp] theorem setRcv_scaleLink (c : GasClass) (r : Receiver) (s : State) : (s.setRcv c r).scaleLink = s.scaleLink := by
  cases c <;> rfl
@[simp] theorem setRcv_anaLink (c : GasClass) (r : Receiver) (s : State) : (s.setRcv c r).anaLink = s.anaLink := by
  cases c <;> rfl
@[simp] theorem setRcv_pending (c : GasClass) (r : Receiver) (s : State) : (s.setRcv c r).pending = s.pending := by
  cases c <;> rfl
@[simp] theorem setRcv_free (c : GasClass) (r : Receiver) (s : State) : (s.setRcv c r).free = s.free := by
  cases c <;> rfl

@[simp] theorem setPeer_clock (a : Address) (x : Peer) (s : State) : (s.setPeer a x).clock = s.clock := rfl
@[simp] theorem setPeer_loader (a : Address) (x : Peer) (s : State) : (s.setPeer a x).loader = s.loader := rfl
@[simp] theorem setPeer_ports (a : Address) (x : Peer) (s : State) : (s.setPeer a x).ports = s.ports := rfl
@[simp] theorem setPeer_store (a : Address) (x : Peer) (s : State) : (s.setPeer a x).store = s.store := rfl
@[simp] theorem setPeer_ana (a : Address) (x : Peer) (s : State) : (s.setPeer a x).ana = s.ana := rfl
@[simp] theorem setPeer_halo (a : Address) (x : Peer) (s : State) : (s.setPeer a x).halo = s.halo := rfl
@[simp] theorem setPeer_hydro (a : Address) (x : Peer) (s : State) : (s.setPeer a x).hydro = s.hydro := rfl
@[simp] theorem setPeer_agent (a : Address) (x : Peer) (s : State) : (s.setPeer a x).agent = s.agent := rfl
@[simp] theorem setPeer_line (a : Address) (x : Peer) (s : State) : (s.setPeer a x).line = s.line := rfl
@[simp] theorem setPeer_lc (a : Address) (x : Peer) (s : State) : (s.setPeer a x).lc = s.lc := rfl
@[simp] theorem setPeer_field (a : Address) (x : Peer) (s : State) : (s.setPeer a x).field = s.field := rfl
@[simp] theorem setPeer_op (a : Address) (x : Peer) (s : State) : (s.setPeer a x).op = s.op := rfl
@[simp] theorem setPeer_scaleLink (a : Address) (x : Peer) (s : State) : (s.setPeer a x).scaleLink = s.scaleLink := rfl
@[simp] theorem setPeer_anaLink (a : Address) (x : Peer) (s : State) : (s.setPeer a x).anaLink = s.anaLink := rfl
@[simp] theorem setPeer_pending (a : Address) (x : Peer) (s : State) : (s.setPeer a x).pending = s.pending := rfl
@[simp] theorem setPeer_free (a : Address) (x : Peer) (s : State) : (s.setPeer a x).free = s.free := rfl

@[simp] theorem setRecordLink_clock (l : RecordLink) (x : RecordLinkState) (s : State) :
    (s.setRecordLink l x).clock = s.clock := by cases l <;> rfl
@[simp] theorem setRecordLink_loader (l : RecordLink) (x : RecordLinkState) (s : State) :
    (s.setRecordLink l x).loader = s.loader := by cases l <;> rfl
@[simp] theorem setRecordLink_ports (l : RecordLink) (x : RecordLinkState) (s : State) :
    (s.setRecordLink l x).ports = s.ports := by cases l <;> rfl
@[simp] theorem setRecordLink_store (l : RecordLink) (x : RecordLinkState) (s : State) :
    (s.setRecordLink l x).store = s.store := by cases l <;> rfl
@[simp] theorem setRecordLink_ana (l : RecordLink) (x : RecordLinkState) (s : State) :
    (s.setRecordLink l x).ana = s.ana := by cases l <;> rfl
@[simp] theorem setRecordLink_halo (l : RecordLink) (x : RecordLinkState) (s : State) :
    (s.setRecordLink l x).halo = s.halo := by cases l <;> rfl
@[simp] theorem setRecordLink_hydro (l : RecordLink) (x : RecordLinkState) (s : State) :
    (s.setRecordLink l x).hydro = s.hydro := by cases l <;> rfl
@[simp] theorem setRecordLink_agent (l : RecordLink) (x : RecordLinkState) (s : State) :
    (s.setRecordLink l x).agent = s.agent := by cases l <;> rfl
@[simp] theorem setRecordLink_line (l : RecordLink) (x : RecordLinkState) (s : State) :
    (s.setRecordLink l x).line = s.line := by cases l <;> rfl
@[simp] theorem setRecordLink_peers (l : RecordLink) (x : RecordLinkState) (s : State) :
    (s.setRecordLink l x).peers = s.peers := by cases l <;> rfl
@[simp] theorem setRecordLink_lc (l : RecordLink) (x : RecordLinkState) (s : State) :
    (s.setRecordLink l x).lc = s.lc := by cases l <;> rfl
@[simp] theorem setRecordLink_field (l : RecordLink) (x : RecordLinkState) (s : State) :
    (s.setRecordLink l x).field = s.field := by cases l <;> rfl
@[simp] theorem setRecordLink_op (l : RecordLink) (x : RecordLinkState) (s : State) :
    (s.setRecordLink l x).op = s.op := by cases l <;> rfl
@[simp] theorem setRecordLink_pending (l : RecordLink) (x : RecordLinkState) (s : State) :
    (s.setRecordLink l x).pending = s.pending := by cases l <;> rfl
@[simp] theorem setRecordLink_free (l : RecordLink) (x : RecordLinkState) (s : State) :
    (s.setRecordLink l x).free = s.free := by cases l <;> rfl

/-! ### What a read sees after an update -/

@[simp] theorem port_setPort_self (p : PortId) (x : Port) (s : State) : (s.setPort p x).port p = x := by
  cases p <;> rfl

theorem port_setPort_ne {p q : PortId} (h : q ≠ p) (x : Port) (s : State) : (s.setPort p x).port q = s.port q := by
  cases p <;> cases q <;> first | rfl | exact absurd rfl h

theorem port_setPort (p q : PortId) (x : Port) (s : State) :
    (s.setPort p x).port q = if q = p then x else s.port q := by
  by_cases h : q = p
  · subst h; simp
  · rw [if_neg h, port_setPort_ne h]

@[simp] theorem rcv_setRcv_self (c : GasClass) (r : Receiver) (s : State) : (s.setRcv c r).rcv c = r := by
  cases c <;> rfl

@[simp] theorem rcv_setRcv_other (c : GasClass) (r : Receiver) (s : State) :
    (s.setRcv c r).rcv c.other = s.rcv c.other := by cases c <;> rfl

theorem rcv_setRcv (c d : GasClass) (r : Receiver) (s : State) :
    (s.setRcv c r).rcv d = if d = c then r else s.rcv d := by cases c <;> cases d <;> rfl

@[simp] theorem peer_setPeer_self (a : Address) (x : Peer) (s : State) : (s.setPeer a x).peer a = x := by
  simp [peer, setPeer]

theorem peer_setPeer_ne {a b : Address} (h : b ≠ a) (x : Peer) (s : State) :
    (s.setPeer a x).peer b = s.peer b := by
  have h' : (a : Nat) ≠ b := fun e => h (Fin.ext e.symm)
  simp [peer, setPeer, h']

@[simp] theorem recordLink_setRecordLink_self (l : RecordLink) (x : RecordLinkState) (s : State) :
    (s.setRecordLink l x).recordLink l = x := by cases l <;> rfl

@[simp] theorem port_setStore (x : CaseStore) (p : PortId) (s : State) : (s.setStore x).port p = s.port p := rfl
@[simp] theorem rcv_setStore (x : CaseStore) (c : GasClass) (s : State) : (s.setStore x).rcv c = s.rcv c := by cases c <;> rfl
@[simp] theorem peer_setStore (x : CaseStore) (a : Address) (s : State) : (s.setStore x).peer a = s.peer a := rfl
@[simp] theorem cfg_setStore (x : CaseStore) (s : State) : (s.setStore x).cfg = s.cfg := rfl
@[simp] theorem loaded_setStore (x : CaseStore) (s : State) : (s.setStore x).loaded = s.loaded := rfl
@[simp] theorem inhibited_setStore (x : CaseStore) (s : State) : (s.setStore x).inhibited = s.inhibited := rfl

@[simp] theorem port_setAna (x : Analyser) (p : PortId) (s : State) : (s.setAna x).port p = s.port p := rfl
@[simp] theorem rcv_setAna (x : Analyser) (c : GasClass) (s : State) : (s.setAna x).rcv c = s.rcv c := by cases c <;> rfl
@[simp] theorem peer_setAna (x : Analyser) (a : Address) (s : State) : (s.setAna x).peer a = s.peer a := rfl
@[simp] theorem cfg_setAna (x : Analyser) (s : State) : (s.setAna x).cfg = s.cfg := rfl
@[simp] theorem loaded_setAna (x : Analyser) (s : State) : (s.setAna x).loaded = s.loaded := rfl
@[simp] theorem inhibited_setAna (x : Analyser) (s : State) : (s.setAna x).inhibited = s.inhibited := rfl

@[simp] theorem port_setAgent (x : Agent) (p : PortId) (s : State) : (s.setAgent x).port p = s.port p := rfl
@[simp] theorem rcv_setAgent (x : Agent) (c : GasClass) (s : State) : (s.setAgent x).rcv c = s.rcv c := by cases c <;> rfl
@[simp] theorem peer_setAgent (x : Agent) (a : Address) (s : State) : (s.setAgent x).peer a = s.peer a := rfl
@[simp] theorem cfg_setAgent (x : Agent) (s : State) : (s.setAgent x).cfg = s.cfg := rfl
@[simp] theorem loaded_setAgent (x : Agent) (s : State) : (s.setAgent x).loaded = s.loaded := rfl
@[simp] theorem inhibited_setAgent (x : Agent) (s : State) : (s.setAgent x).inhibited = s.inhibited := rfl

@[simp] theorem port_setLine (x : LineIf) (p : PortId) (s : State) : (s.setLine x).port p = s.port p := rfl
@[simp] theorem rcv_setLine (x : LineIf) (c : GasClass) (s : State) : (s.setLine x).rcv c = s.rcv c := by cases c <;> rfl
@[simp] theorem peer_setLine (x : LineIf) (a : Address) (s : State) : (s.setLine x).peer a = s.peer a := rfl
@[simp] theorem cfg_setLine (x : LineIf) (s : State) : (s.setLine x).cfg = s.cfg := rfl
@[simp] theorem loaded_setLine (x : LineIf) (s : State) : (s.setLine x).loaded = s.loaded := rfl
@[simp] theorem inhibited_setLine (x : LineIf) (s : State) : (s.setLine x).inhibited = s.inhibited := rfl

@[simp] theorem port_setLc (x : LineConditions) (p : PortId) (s : State) : (s.setLc x).port p = s.port p := rfl
@[simp] theorem rcv_setLc (x : LineConditions) (c : GasClass) (s : State) : (s.setLc x).rcv c = s.rcv c := by cases c <;> rfl
@[simp] theorem peer_setLc (x : LineConditions) (a : Address) (s : State) : (s.setLc x).peer a = s.peer a := rfl
@[simp] theorem cfg_setLc (x : LineConditions) (s : State) : (s.setLc x).cfg = s.cfg := rfl
@[simp] theorem loaded_setLc (x : LineConditions) (s : State) : (s.setLc x).loaded = s.loaded := rfl

@[simp] theorem port_setField (x : FieldUnit) (p : PortId) (s : State) : (s.setField x).port p = s.port p := rfl
@[simp] theorem rcv_setField (x : FieldUnit) (c : GasClass) (s : State) : (s.setField x).rcv c = s.rcv c := by cases c <;> rfl
@[simp] theorem peer_setField (x : FieldUnit) (a : Address) (s : State) : (s.setField x).peer a = s.peer a := rfl
@[simp] theorem cfg_setField (x : FieldUnit) (s : State) : (s.setField x).cfg = s.cfg := rfl
@[simp] theorem loaded_setField (x : FieldUnit) (s : State) : (s.setField x).loaded = s.loaded := rfl
@[simp] theorem inhibited_setField (x : FieldUnit) (s : State) : (s.setField x).inhibited = s.inhibited := rfl

@[simp] theorem port_setOp (x : OperatorPort) (p : PortId) (s : State) : (s.setOp x).port p = s.port p := rfl
@[simp] theorem rcv_setOp (x : OperatorPort) (c : GasClass) (s : State) : (s.setOp x).rcv c = s.rcv c := by cases c <;> rfl
@[simp] theorem peer_setOp (x : OperatorPort) (a : Address) (s : State) : (s.setOp x).peer a = s.peer a := rfl
@[simp] theorem cfg_setOp (x : OperatorPort) (s : State) : (s.setOp x).cfg = s.cfg := rfl
@[simp] theorem loaded_setOp (x : OperatorPort) (s : State) : (s.setOp x).loaded = s.loaded := rfl
@[simp] theorem inhibited_setOp (x : OperatorPort) (s : State) : (s.setOp x).inhibited = s.inhibited := rfl

@[simp] theorem port_setLoader (x : Loader) (p : PortId) (s : State) : (s.setLoader x).port p = s.port p := rfl
@[simp] theorem rcv_setLoader (x : Loader) (c : GasClass) (s : State) : (s.setLoader x).rcv c = s.rcv c := by cases c <;> rfl
@[simp] theorem peer_setLoader (x : Loader) (a : Address) (s : State) : (s.setLoader x).peer a = s.peer a := rfl
@[simp] theorem inhibited_setLoader (x : Loader) (s : State) : (s.setLoader x).inhibited = s.inhibited := rfl

@[simp] theorem port_setFree (x : Nat) (p : PortId) (s : State) : (s.setFree x).port p = s.port p := rfl
@[simp] theorem rcv_setFree (x : Nat) (c : GasClass) (s : State) : (s.setFree x).rcv c = s.rcv c := by cases c <;> rfl
@[simp] theorem peer_setFree (x : Nat) (a : Address) (s : State) : (s.setFree x).peer a = s.peer a := rfl
@[simp] theorem cfg_setFree (x : Nat) (s : State) : (s.setFree x).cfg = s.cfg := rfl
@[simp] theorem loaded_setFree (x : Nat) (s : State) : (s.setFree x).loaded = s.loaded := rfl
@[simp] theorem inhibited_setFree (x : Nat) (s : State) : (s.setFree x).inhibited = s.inhibited := rfl

@[simp] theorem rcv_setPort (p : PortId) (x : Port) (c : GasClass) (s : State) : (s.setPort p x).rcv c = s.rcv c := by
  cases c <;> rfl
@[simp] theorem peer_setPort (p : PortId) (x : Port) (a : Address) (s : State) : (s.setPort p x).peer a = s.peer a := rfl
@[simp] theorem cfg_setPort (p : PortId) (x : Port) (s : State) : (s.setPort p x).cfg = s.cfg := rfl
@[simp] theorem loaded_setPort (p : PortId) (x : Port) (s : State) : (s.setPort p x).loaded = s.loaded := rfl
@[simp] theorem inhibited_setPort (p : PortId) (x : Port) (s : State) : (s.setPort p x).inhibited = s.inhibited := rfl
@[simp] theorem port_setRcv (c : GasClass) (r : Receiver) (p : PortId) (s : State) : (s.setRcv c r).port p = s.port p := by
  cases c <;> rfl
@[simp] theorem peer_setRcv (c : GasClass) (r : Receiver) (a : Address) (s : State) : (s.setRcv c r).peer a = s.peer a := by
  cases c <;> rfl
@[simp] theorem cfg_setRcv (c : GasClass) (r : Receiver) (s : State) : (s.setRcv c r).cfg = s.cfg := by cases c <;> rfl
@[simp] theorem loaded_setRcv (c : GasClass) (r : Receiver) (s : State) : (s.setRcv c r).loaded = s.loaded := by
  cases c <;> rfl
@[simp] theorem inhibited_setRcv (c : GasClass) (r : Receiver) (s : State) : (s.setRcv c r).inhibited = s.inhibited := by
  cases c <;> rfl
@[simp] theorem port_setPeer (a : Address) (x : Peer) (p : PortId) (s : State) : (s.setPeer a x).port p = s.port p := rfl
@[simp] theorem rcv_setPeer (a : Address) (x : Peer) (c : GasClass) (s : State) : (s.setPeer a x).rcv c = s.rcv c := by
  cases c <;> rfl
@[simp] theorem cfg_setPeer (a : Address) (x : Peer) (s : State) : (s.setPeer a x).cfg = s.cfg := rfl
@[simp] theorem inhibited_setPeer (a : Address) (x : Peer) (s : State) : (s.setPeer a x).inhibited = s.inhibited := rfl
@[simp] theorem loaded_setPeer (a : Address) (x : Peer) (s : State) : (s.setPeer a x).loaded = s.loaded := rfl

end Sys2Proof.Machine.State
end

