-- ==== Sys2Proof/Laws/Frames.lean ====
section
/-! SUPPORT. The frame of every shared operation: the blocks it leaves as they are. -/

set_option linter.unusedSimpArgs false
set_option linter.unusedTactic false
set_option linter.unnecessarySeqFocus false
set_option linter.unreachableTactic false

namespace Sys2Proof.Machine

theorem rcv_eq (s : State) (c : GasClass) : s.rcv c = match c with | .halo => s.halo | .hydro => s.hydro := by
  cases c <;> rfl

theorem link_eq (s : State) (l : RecordLink) :
    s.recordLink l = match l with | .scale => s.scaleLink | .analyser => s.anaLink := by cases l <;> rfl

/-! ### What a read sees after an update -/

@[simp] theorem setFree_views (x : Nat) (s : State) :
    (s.setFree x).seconds = s.seconds ∧
    (∀ c, (s.setFree x).accepting c = s.accepting c ∧ (s.setFree x).level c = s.level c ∧ (s.setFree x).band c = s.band c) ∧
    (∀ y, (s.setFree x).portSet y = s.portSet y) ∧ (s.setFree x).flowingPeers = s.flowingPeers ∧
    (s.setFree x).waitingPeers = s.waitingPeers ∧ (∀ c, (s.setFree x).noOther c = s.noOther c) := by
  exact ⟨rfl, fun c => by cases c <;> exact ⟨rfl, rfl, rfl⟩, fun _ => rfl, rfl, rfl, fun _ => rfl⟩

@[simp] theorem setStore_views (x : CaseStore) (s : State) :
    (s.setStore x).seconds = s.seconds ∧
    (∀ c, (s.setStore x).accepting c = s.accepting c ∧ (s.setStore x).level c = s.level c ∧ (s.setStore x).band c = s.band c) ∧
    (∀ y, (s.setStore x).portSet y = s.portSet y) ∧ (s.setStore x).flowingPeers = s.flowingPeers ∧
    (s.setStore x).waitingPeers = s.waitingPeers ∧ (∀ c, (s.setStore x).noOther c = s.noOther c) := by
  exact ⟨rfl, fun c => by cases c <;> exact ⟨rfl, rfl, rfl⟩, fun _ => rfl, rfl, rfl, fun _ => rfl⟩

@[simp] theorem setAna_views (x : Analyser) (s : State) :
    (s.setAna x).seconds = s.seconds ∧
    (∀ c, (s.setAna x).accepting c = s.accepting c ∧ (s.setAna x).level c = s.level c ∧ (s.setAna x).band c = s.band c) ∧
    (∀ y, (s.setAna x).portSet y = s.portSet y) ∧ (s.setAna x).flowingPeers = s.flowingPeers ∧
    (s.setAna x).waitingPeers = s.waitingPeers ∧ (∀ c, (s.setAna x).noOther c = s.noOther c) := by
  exact ⟨rfl, fun c => by cases c <;> exact ⟨rfl, rfl, rfl⟩, fun _ => rfl, rfl, rfl, fun _ => rfl⟩

@[simp] theorem setAgent_views (x : Agent) (s : State) :
    (s.setAgent x).seconds = s.seconds ∧
    (∀ c, (s.setAgent x).accepting c = s.accepting c ∧ (s.setAgent x).level c = s.level c ∧ (s.setAgent x).band c = s.band c) ∧
    (∀ y, (s.setAgent x).portSet y = s.portSet y) ∧ (s.setAgent x).flowingPeers = s.flowingPeers ∧
    (s.setAgent x).waitingPeers = s.waitingPeers ∧ (∀ c, (s.setAgent x).noOther c = s.noOther c) := by
  exact ⟨rfl, fun c => by cases c <;> exact ⟨rfl, rfl, rfl⟩, fun _ => rfl, rfl, rfl, fun _ => rfl⟩

@[simp] theorem setLine_views (x : LineIf) (s : State) :
    (s.setLine x).seconds = s.seconds ∧
    (∀ c, (s.setLine x).accepting c = s.accepting c ∧ (s.setLine x).level c = s.level c ∧ (s.setLine x).band c = s.band c) ∧
    (∀ y, (s.setLine x).portSet y = s.portSet y) ∧ (s.setLine x).flowingPeers = s.flowingPeers ∧
    (s.setLine x).waitingPeers = s.waitingPeers ∧ (∀ c, (s.setLine x).noOther c = s.noOther c) := by
  exact ⟨rfl, fun c => by cases c <;> exact ⟨rfl, rfl, rfl⟩, fun _ => rfl, rfl, rfl, fun _ => rfl⟩

@[simp] theorem setLc_views (x : LineConditions) (s : State) :
    (s.setLc x).seconds = s.seconds ∧
    (∀ c, (s.setLc x).accepting c = s.accepting c ∧ (s.setLc x).level c = s.level c ∧ (s.setLc x).band c = s.band c) ∧
    (∀ y, (s.setLc x).portSet y = s.portSet y) ∧ (s.setLc x).flowingPeers = s.flowingPeers ∧
    (s.setLc x).waitingPeers = s.waitingPeers ∧ (∀ c, (s.setLc x).noOther c = s.noOther c) := by
  exact ⟨rfl, fun c => by cases c <;> exact ⟨rfl, rfl, rfl⟩, fun _ => rfl, rfl, rfl, fun _ => rfl⟩

@[simp] theorem setField_views (x : FieldUnit) (s : State) :
    (s.setField x).seconds = s.seconds ∧
    (∀ c, (s.setField x).accepting c = s.accepting c ∧ (s.setField x).level c = s.level c ∧ (s.setField x).band c = s.band c) ∧
    (∀ y, (s.setField x).portSet y = s.portSet y) ∧ (s.setField x).flowingPeers = s.flowingPeers ∧
    (s.setField x).waitingPeers = s.waitingPeers ∧ (∀ c, (s.setField x).noOther c = s.noOther c) := by
  exact ⟨rfl, fun c => by cases c <;> exact ⟨rfl, rfl, rfl⟩, fun _ => rfl, rfl, rfl, fun _ => rfl⟩

@[simp] theorem setOp_views (x : OperatorPort) (s : State) :
    (s.setOp x).seconds = s.seconds ∧
    (∀ c, (s.setOp x).accepting c = s.accepting c ∧ (s.setOp x).level c = s.level c ∧ (s.setOp x).band c = s.band c) ∧
    (∀ y, (s.setOp x).portSet y = s.portSet y) ∧ (s.setOp x).flowingPeers = s.flowingPeers ∧
    (s.setOp x).waitingPeers = s.waitingPeers ∧ (∀ c, (s.setOp x).noOther c = s.noOther c) := by
  exact ⟨rfl, fun c => by cases c <;> exact ⟨rfl, rfl, rfl⟩, fun _ => rfl, rfl, rfl, fun _ => rfl⟩

@[simp] theorem setPort_views (p : PortId) (x : Port) (s : State) :
    (s.setPort p x).seconds = s.seconds ∧
    (∀ c, (s.setPort p x).accepting c = s.accepting c ∧ (s.setPort p x).level c = s.level c ∧ (s.setPort p x).band c = s.band c) ∧
    (∀ y, (s.setPort p x).portSet y = s.portSet y) ∧ (s.setPort p x).flowingPeers = s.flowingPeers ∧
    (s.setPort p x).waitingPeers = s.waitingPeers ∧ (∀ c, (s.setPort p x).noOther c = s.noOther c) := by
  exact ⟨rfl, fun c => by cases c <;> exact ⟨rfl, rfl, rfl⟩, fun _ => rfl, rfl, rfl, fun _ => rfl⟩

@[simp] theorem setPeer_views (a : Address) (x : Peer) (s : State) :
    (s.setPeer a x).seconds = s.seconds ∧
    (∀ c, (s.setPeer a x).accepting c = s.accepting c ∧ (s.setPeer a x).level c = s.level c ∧ (s.setPeer a x).band c = s.band c) ∧
    (∀ y, (s.setPeer a x).portSet y = s.portSet y) := by
  exact ⟨rfl, fun c => by cases c <;> exact ⟨rfl, rfl, rfl⟩, fun _ => rfl⟩

/-! ### The end of an event, offered frames -/

/-- An offered frame touches the queue, the head's count and the transmitter alone. -/
@[simp] theorem offer_line_frame (q : QueuedFrame) (l : LineIf) :
    (l.offer q).1.framer = l.framer ∧ (l.offer q).1.listenIn = l.listenIn ∧ (l.offer q).1.listenT = l.listenT ∧
    (l.offer q).1.clash = l.clash ∧ (l.offer q).1.clashT = l.clashT ∧ (l.offer q).1.beaconT = l.beaconT ∧
    (l.offer q).1.rxErrors = l.rxErrors ∧ (l.offer q).1.collisions = l.collisions := by
  unfold LineIf.offer
  dsimp only
  (repeat' split) <;> simp [LineIf.wake, LineIf.headDropped] <;> (repeat' split) <;> simp

@[simp] theorem raise_frame (k : EventKind) (s : State) :
    (s.raise k).clock = s.clock ∧ (s.raise k).loader = s.loader ∧ (s.raise k).ports = s.ports ∧
    (s.raise k).store = s.store ∧ (s.raise k).ana = s.ana ∧ (s.raise k).halo = s.halo ∧
    (s.raise k).hydro = s.hydro ∧ (s.raise k).agent = s.agent ∧ (s.raise k).line = s.line ∧
    (s.raise k).peers = s.peers ∧ (s.raise k).lc = s.lc ∧ (s.raise k).field = s.field ∧
    (s.raise k).scaleLink = s.scaleLink ∧ (s.raise k).anaLink = s.anaLink ∧ (s.raise k).pending = s.pending ∧
    (s.raise k).free = s.free ∧ (s.raise k).op.framer = s.op.framer ∧ (s.raise k).op.gap = s.op.gap ∧
    (s.raise k).op.tx = s.op.tx ∧ (s.raise k).op.owed = s.op.owed := by
  simp [State.raise]

@[simp] theorem raise_views (k : EventKind) (s : State) :
    (s.raise k).cfg = s.cfg ∧
    (s.raise k).loaded = s.loaded ∧
    (∀ y, (s.raise k).portSet y = s.portSet y) ∧
    (s.raise k).seconds = s.seconds ∧
    (s.raise k).inhibited = s.inhibited ∧
    (s.raise k).inhibitSeconds = s.inhibitSeconds ∧
    (∀ pp, (s.raise k).port pp = s.port pp) ∧
    (∀ cc, (s.raise k).rcv cc = s.rcv cc ∧ (s.raise k).accepting cc = s.accepting cc ∧ (s.raise k).level cc = s.level cc ∧
      (s.raise k).band cc = s.band cc) ∧
    (s.raise k).flowingPeers = s.flowingPeers ∧
    (s.raise k).waitingPeers = s.waitingPeers ∧
    (∀ aa, (s.raise k).peer aa = s.peer aa) ∧
    (∀ cc, (s.raise k).noOther cc = s.noOther cc) ∧
    (∀ ll, (s.raise k).recordLink ll = s.recordLink ll) := by
  simp [State.portSet, State.cfg, State.loaded, State.seconds, State.inhibited, State.inhibitSeconds, State.port, State.accepting, State.level, State.band, State.peer, State.flowingPeers, State.waitingPeers, State.peersIn, State.noOther, rcv_eq, link_eq]

@[simp] theorem raise_flag (k : EventKind) (s : State) (e : EventKind) (he : s.op.flag e = true) :
    (s.raise k).op.flag e = true := by
  simp only [State.raise, OperatorPort.flag, State.setOp_op, BitVec.getLsbD_or, Bool.or_eq_true] at *
  exact Or.inl he

@[simp] theorem updateLamp_frame (s : State) :
    (s.updateLamp).clock = s.clock ∧ (s.updateLamp).loader = s.loader ∧ (s.updateLamp).ports = s.ports ∧
    (s.updateLamp).store = s.store ∧ (s.updateLamp).ana = s.ana ∧ (s.updateLamp).halo = s.halo ∧
    (s.updateLamp).hydro = s.hydro ∧ (s.updateLamp).agent = s.agent ∧ (s.updateLamp).line = s.line ∧
    (s.updateLamp).peers = s.peers ∧ (s.updateLamp).lc = s.lc ∧ (s.updateLamp).op = s.op ∧
    (s.updateLamp).scaleLink = s.scaleLink ∧ (s.updateLamp).anaLink = s.anaLink ∧
    (s.updateLamp).pending = s.pending ∧ (s.updateLamp).free = s.free ∧
    (s.updateLamp).field.clamp = s.field.clamp ∧ (s.updateLamp).field.confirm = s.field.confirm ∧
    (s.updateLamp).field.release = s.field.release ∧ (s.updateLamp).field.estop = s.field.estop ∧
    (s.updateLamp).field.selH = s.field.selH ∧ (s.updateLamp).field.selK = s.field.selK ∧
    (s.updateLamp).field.samples = s.field.samples ∧ (s.updateLamp).field.sampleTs = s.field.sampleTs ∧
    (s.updateLamp).field.headerSample = s.field.headerSample ∧ (s.updateLamp).field.headerT = s.field.headerT := by
  simp [State.updateLamp]

@[simp] theorem updateLamp_views (s : State) :
    (s.updateLamp).cfg = s.cfg ∧
    (s.updateLamp).loaded = s.loaded ∧
    (∀ y, (s.updateLamp).portSet y = s.portSet y) ∧
    (s.updateLamp).seconds = s.seconds ∧
    (s.updateLamp).inhibited = s.inhibited ∧
    (s.updateLamp).inhibitSeconds = s.inhibitSeconds ∧
    (∀ pp, (s.updateLamp).port pp = s.port pp) ∧
    (∀ cc, (s.updateLamp).rcv cc = s.rcv cc ∧ (s.updateLamp).accepting cc = s.accepting cc ∧ (s.updateLamp).level cc = s.level cc ∧
      (s.updateLamp).band cc = s.band cc) ∧
    (s.updateLamp).flowingPeers = s.flowingPeers ∧
    (s.updateLamp).waitingPeers = s.waitingPeers ∧
    (∀ aa, (s.updateLamp).peer aa = s.peer aa) ∧
    (∀ cc, (s.updateLamp).noOther cc = s.noOther cc) ∧
    (∀ ll, (s.updateLamp).recordLink ll = s.recordLink ll) := by
  simp [State.portSet, State.cfg, State.loaded, State.seconds, State.inhibited, State.inhibitSeconds, State.port, State.accepting, State.level, State.band, State.peer, State.flowingPeers, State.waitingPeers, State.peersIn, State.noOther, rcv_eq, link_eq]

@[simp] theorem watchLines_frame (s : State) :
    (s.watchLines).clock = s.clock ∧ (s.watchLines).loader = s.loader ∧ (s.watchLines).ports = s.ports ∧
    (s.watchLines).store = s.store ∧ (s.watchLines).ana = s.ana ∧ (s.watchLines).halo = s.halo ∧
    (s.watchLines).hydro = s.hydro ∧ (s.watchLines).agent = s.agent ∧ (s.watchLines).line = s.line ∧
    (s.watchLines).peers = s.peers ∧ (s.watchLines).lc = s.lc ∧ (s.watchLines).op = s.op ∧
    (s.watchLines).scaleLink = s.scaleLink ∧ (s.watchLines).anaLink = s.anaLink ∧
    (s.watchLines).pending = s.pending ∧ (s.watchLines).free = s.free ∧
    (s.watchLines).field.samples = s.field.samples ∧ (s.watchLines).field.sampleTs = s.field.sampleTs ∧
    (s.watchLines).field.headerSample = s.field.headerSample ∧ (s.watchLines).field.headerT = s.field.headerT ∧
    (s.watchLines).field.lamp = s.field.lamp := by
  simp [State.watchLines, FieldUnit.mapLines]

/-- An operation on every line, seen at one line. -/
@[simp] theorem mapLines_input (f : InputLine → LineInput → LineInput) (x : FieldUnit) (l : InputLine) :
    (x.mapLines f).input l = f l (x.input l) := by
  cases l with
  | clamp p => cases p <;> rfl
  | confirm p => cases p <;> rfl
  | release p => cases p <;> rfl
  | _ => rfl

/-- The end of an event at one line: its filter follows what the line shows (R161, R162, R166). -/
theorem watchLines_input (s : State) (l : InputLine) :
    s.watchLines.field.input l = (s.field.input l).watch (s.lineNow l) (s.filterMs l) := by
  simp [State.watchLines]

/-- What watching leaves of a line: all but its filter. -/
@[simp] theorem watch_frame (now : Bool) (ms : Nat) (i : LineInput) :
    (i.watch now ms).level = i.level ∧ (i.watch now ms).assertLatch = i.assertLatch ∧
    (i.watch now ms).deassertLatch = i.deassertLatch ∧ (i.watch now ms).pauseRec = i.pauseRec ∧
    (i.watch now ms).pin = i.pin := by
  unfold LineInput.watch
  (repeat' split) <;> simp_all

@[simp] theorem watchLines_views (s : State) :
    (s.watchLines).cfg = s.cfg ∧
    (s.watchLines).loaded = s.loaded ∧
    (∀ y, (s.watchLines).portSet y = s.portSet y) ∧
    (s.watchLines).seconds = s.seconds ∧
    (s.watchLines).inhibited = s.inhibited ∧
    (s.watchLines).inhibitSeconds = s.inhibitSeconds ∧
    (∀ pp, (s.watchLines).port pp = s.port pp) ∧
    (∀ cc, (s.watchLines).rcv cc = s.rcv cc ∧ (s.watchLines).accepting cc = s.accepting cc ∧ (s.watchLines).level cc = s.level cc ∧
      (s.watchLines).band cc = s.band cc) ∧
    (s.watchLines).flowingPeers = s.flowingPeers ∧
    (s.watchLines).waitingPeers = s.waitingPeers ∧
    (∀ aa, (s.watchLines).peer aa = s.peer aa) ∧
    (∀ cc, (s.watchLines).noOther cc = s.noOther cc) ∧
    (∀ ll, (s.watchLines).recordLink ll = s.recordLink ll) := by
  simp [State.portSet, State.cfg, State.loaded, State.seconds, State.inhibited, State.inhibitSeconds, State.port, State.accepting, State.level, State.band, State.peer, State.flowingPeers, State.waitingPeers, State.peersIn, State.noOther, rcv_eq, link_eq]

@[simp] theorem startEvents_frame (s : State) :
    (s.startEvents).clock = s.clock ∧ (s.startEvents).loader = s.loader ∧ (s.startEvents).ports = s.ports ∧
    (s.startEvents).store = s.store ∧ (s.startEvents).ana = s.ana ∧ (s.startEvents).halo = s.halo ∧
    (s.startEvents).hydro = s.hydro ∧ (s.startEvents).agent = s.agent ∧ (s.startEvents).line = s.line ∧
    (s.startEvents).peers = s.peers ∧ (s.startEvents).lc = s.lc ∧ (s.startEvents).field = s.field ∧
    (s.startEvents).scaleLink = s.scaleLink ∧ (s.startEvents).anaLink = s.anaLink ∧
    (s.startEvents).pending = s.pending ∧ (s.startEvents).free = s.free ∧ (s.startEvents).op.framer = s.op.framer ∧
    (s.startEvents).op.gap = s.op.gap ∧ (s.startEvents).op.owed = s.op.owed := by
  unfold State.startEvents
  try dsimp only
  (repeat' split) <;> simp

@[simp] theorem startEvents_views (s : State) :
    (s.startEvents).cfg = s.cfg ∧
    (s.startEvents).loaded = s.loaded ∧
    (∀ y, (s.startEvents).portSet y = s.portSet y) ∧
    (s.startEvents).seconds = s.seconds ∧
    (s.startEvents).inhibited = s.inhibited ∧
    (s.startEvents).inhibitSeconds = s.inhibitSeconds ∧
    (∀ pp, (s.startEvents).port pp = s.port pp) ∧
    (∀ cc, (s.startEvents).rcv cc = s.rcv cc ∧ (s.startEvents).accepting cc = s.accepting cc ∧ (s.startEvents).level cc = s.level cc ∧
      (s.startEvents).band cc = s.band cc) ∧
    (s.startEvents).flowingPeers = s.flowingPeers ∧
    (s.startEvents).waitingPeers = s.waitingPeers ∧
    (∀ aa, (s.startEvents).peer aa = s.peer aa) ∧
    (∀ cc, (s.startEvents).noOther cc = s.noOther cc) ∧
    (∀ ll, (s.startEvents).recordLink ll = s.recordLink ll) := by
  simp [State.portSet, State.cfg, State.loaded, State.seconds, State.inhibited, State.inhibitSeconds, State.port, State.accepting, State.level, State.band, State.peer, State.flowingPeers, State.waitingPeers, State.peersIn, State.noOther, rcv_eq, link_eq]

@[simp] theorem finish_frame (s : State) :
    (s.finish).clock = s.clock ∧ (s.finish).loader = s.loader ∧ (s.finish).ports = s.ports ∧
    (s.finish).store = s.store ∧ (s.finish).ana = s.ana ∧ (s.finish).halo = s.halo ∧ (s.finish).hydro = s.hydro ∧
    (s.finish).agent = s.agent ∧ (s.finish).line = s.line ∧ (s.finish).peers = s.peers ∧ (s.finish).lc = s.lc ∧
    (s.finish).scaleLink = s.scaleLink ∧ (s.finish).anaLink = s.anaLink ∧ (s.finish).pending = s.pending ∧
    (s.finish).free = s.free ∧ (s.finish).op.framer = s.op.framer ∧ (s.finish).op.gap = s.op.gap ∧
    (s.finish).op.owed = s.op.owed ∧ (s.finish).field.samples = s.field.samples ∧
    (s.finish).field.sampleTs = s.field.sampleTs ∧ (s.finish).field.headerSample = s.field.headerSample ∧
    (s.finish).field.headerT = s.field.headerT := by
  simp [State.finish]

/-- The end of an event at one line: its filter follows what the line shows (R161, R162, R166). -/
theorem finish_input (s : State) (l : InputLine) :
    s.finish.field.input l = (s.field.input l).watch (s.lineNow l) (s.filterMs l) := by
  rw [State.finish, show s.updateLamp.watchLines.startEvents.field = s.updateLamp.watchLines.field by simp,
    watchLines_input]
  cases l <;> rfl

@[simp] theorem finish_views (s : State) :
    (s.finish).cfg = s.cfg ∧
    (s.finish).loaded = s.loaded ∧
    (∀ y, (s.finish).portSet y = s.portSet y) ∧
    (s.finish).seconds = s.seconds ∧
    (s.finish).inhibited = s.inhibited ∧
    (s.finish).inhibitSeconds = s.inhibitSeconds ∧
    (∀ pp, (s.finish).port pp = s.port pp) ∧
    (∀ cc, (s.finish).rcv cc = s.rcv cc ∧ (s.finish).accepting cc = s.accepting cc ∧ (s.finish).level cc = s.level cc ∧
      (s.finish).band cc = s.band cc) ∧
    (s.finish).flowingPeers = s.flowingPeers ∧
    (s.finish).waitingPeers = s.waitingPeers ∧
    (∀ aa, (s.finish).peer aa = s.peer aa) ∧
    (∀ cc, (s.finish).noOther cc = s.noOther cc) ∧
    (∀ ll, (s.finish).recordLink ll = s.recordLink ll) := by
  simp [State.portSet, State.cfg, State.loaded, State.seconds, State.inhibited, State.inhibitSeconds, State.port, State.accepting, State.level, State.band, State.peer, State.flowingPeers, State.waitingPeers, State.peersIn, State.noOther, rcv_eq, link_eq]

@[simp] theorem offerEntry_frame (f : Frame) (n : Nat) (s : State) :
    ((s.offerEntry f n).1).clock = s.clock ∧ ((s.offerEntry f n).1).loader = s.loader ∧
    ((s.offerEntry f n).1).ports = s.ports ∧ ((s.offerEntry f n).1).store = s.store ∧
    ((s.offerEntry f n).1).ana = s.ana ∧ ((s.offerEntry f n).1).halo = s.halo ∧
    ((s.offerEntry f n).1).hydro = s.hydro ∧ ((s.offerEntry f n).1).agent = s.agent ∧
    ((s.offerEntry f n).1).peers = s.peers ∧ ((s.offerEntry f n).1).lc = s.lc ∧
    ((s.offerEntry f n).1).field = s.field ∧ ((s.offerEntry f n).1).scaleLink = s.scaleLink ∧
    ((s.offerEntry f n).1).anaLink = s.anaLink ∧ ((s.offerEntry f n).1).pending = s.pending ∧
    ((s.offerEntry f n).1).free = s.free ∧ ((s.offerEntry f n).1).line.framer = s.line.framer ∧
    ((s.offerEntry f n).1).line.listenIn = s.line.listenIn ∧ ((s.offerEntry f n).1).line.listenT = s.line.listenT ∧
    ((s.offerEntry f n).1).line.clash = s.line.clash ∧ ((s.offerEntry f n).1).line.clashT = s.line.clashT ∧
    ((s.offerEntry f n).1).line.beaconT = s.line.beaconT ∧ ((s.offerEntry f n).1).line.rxErrors = s.line.rxErrors ∧
    ((s.offerEntry f n).1).line.collisions = s.line.collisions ∧ ((s.offerEntry f n).1).op.framer = s.op.framer ∧
    ((s.offerEntry f n).1).op.gap = s.op.gap ∧ ((s.offerEntry f n).1).op.tx = s.op.tx ∧
    ((s.offerEntry f n).1).op.owed = s.op.owed := by
  unfold State.offerEntry
  dsimp only
  (repeat' split) <;> simp

@[simp] theorem offerEntry_views (f : Frame) (n : Nat) (s : State) :
    ((s.offerEntry f n).1).cfg = s.cfg ∧
    ((s.offerEntry f n).1).loaded = s.loaded ∧
    (∀ y, ((s.offerEntry f n).1).portSet y = s.portSet y) ∧
    ((s.offerEntry f n).1).seconds = s.seconds ∧
    ((s.offerEntry f n).1).inhibited = s.inhibited ∧
    ((s.offerEntry f n).1).inhibitSeconds = s.inhibitSeconds ∧
    (∀ pp, ((s.offerEntry f n).1).port pp = s.port pp) ∧
    (∀ cc, ((s.offerEntry f n).1).rcv cc = s.rcv cc ∧ ((s.offerEntry f n).1).accepting cc = s.accepting cc ∧ ((s.offerEntry f n).1).level cc = s.level cc ∧
      ((s.offerEntry f n).1).band cc = s.band cc) ∧
    ((s.offerEntry f n).1).flowingPeers = s.flowingPeers ∧
    ((s.offerEntry f n).1).waitingPeers = s.waitingPeers ∧
    (∀ aa, ((s.offerEntry f n).1).peer aa = s.peer aa) ∧
    (∀ cc, ((s.offerEntry f n).1).noOther cc = s.noOther cc) ∧
    (∀ ll, ((s.offerEntry f n).1).recordLink ll = s.recordLink ll) := by
  simp [State.portSet, State.cfg, State.loaded, State.seconds, State.inhibited, State.inhibitSeconds, State.port, State.accepting, State.level, State.band, State.peer, State.flowingPeers, State.waitingPeers, State.peersIn, State.noOther, rcv_eq, link_eq]

@[simp] theorem offerEntry_flag (f : Frame) (n : Nat) (s : State) (e : EventKind) (he : s.op.flag e = true) :
    ((s.offerEntry f n).1).op.flag e = true := by
  unfold State.offerEntry
  try dsimp only
  (repeat' split) <;> simp (maxDischargeDepth := 9) [he]

@[simp] theorem offer_frame (f : Frame) (s : State) :
    (s.offer f).clock = s.clock ∧ (s.offer f).loader = s.loader ∧ (s.offer f).ports = s.ports ∧
    (s.offer f).store = s.store ∧ (s.offer f).ana = s.ana ∧ (s.offer f).halo = s.halo ∧
    (s.offer f).hydro = s.hydro ∧ (s.offer f).agent = s.agent ∧ (s.offer f).peers = s.peers ∧
    (s.offer f).lc = s.lc ∧ (s.offer f).field = s.field ∧ (s.offer f).scaleLink = s.scaleLink ∧
    (s.offer f).anaLink = s.anaLink ∧ (s.offer f).pending = s.pending ∧ (s.offer f).free = s.free ∧
    (s.offer f).line.framer = s.line.framer ∧ (s.offer f).line.listenIn = s.line.listenIn ∧
    (s.offer f).line.listenT = s.line.listenT ∧ (s.offer f).line.clash = s.line.clash ∧
    (s.offer f).line.clashT = s.line.clashT ∧ (s.offer f).line.beaconT = s.line.beaconT ∧
    (s.offer f).line.rxErrors = s.line.rxErrors ∧ (s.offer f).line.collisions = s.line.collisions ∧
    (s.offer f).op.framer = s.op.framer ∧ (s.offer f).op.gap = s.op.gap ∧ (s.offer f).op.tx = s.op.tx ∧
    (s.offer f).op.owed = s.op.owed := by
  simp [State.offer]

@[simp] theorem offer_views (f : Frame) (s : State) :
    (s.offer f).cfg = s.cfg ∧
    (s.offer f).loaded = s.loaded ∧
    (∀ y, (s.offer f).portSet y = s.portSet y) ∧
    (s.offer f).seconds = s.seconds ∧
    (s.offer f).inhibited = s.inhibited ∧
    (s.offer f).inhibitSeconds = s.inhibitSeconds ∧
    (∀ pp, (s.offer f).port pp = s.port pp) ∧
    (∀ cc, (s.offer f).rcv cc = s.rcv cc ∧ (s.offer f).accepting cc = s.accepting cc ∧ (s.offer f).level cc = s.level cc ∧
      (s.offer f).band cc = s.band cc) ∧
    (s.offer f).flowingPeers = s.flowingPeers ∧
    (s.offer f).waitingPeers = s.waitingPeers ∧
    (∀ aa, (s.offer f).peer aa = s.peer aa) ∧
    (∀ cc, (s.offer f).noOther cc = s.noOther cc) ∧
    (∀ ll, (s.offer f).recordLink ll = s.recordLink ll) := by
  simp [State.portSet, State.cfg, State.loaded, State.seconds, State.inhibited, State.inhibitSeconds, State.port, State.accepting, State.level, State.band, State.peer, State.flowingPeers, State.waitingPeers, State.peersIn, State.noOther, rcv_eq, link_eq]

@[simp] theorem offer_flag (f : Frame) (s : State) (e : EventKind) (he : s.op.flag e = true) :
    (s.offer f).op.flag e = true := by
  unfold State.offer
  try dsimp only
  (repeat' split) <;> simp (maxDischargeDepth := 9) [he]

@[simp] theorem offerBeacon_frame (s : State) :
    (s.offerBeacon).clock = s.clock ∧ (s.offerBeacon).loader = s.loader ∧ (s.offerBeacon).ports = s.ports ∧
    (s.offerBeacon).store = s.store ∧ (s.offerBeacon).ana = s.ana ∧ (s.offerBeacon).halo = s.halo ∧
    (s.offerBeacon).hydro = s.hydro ∧ (s.offerBeacon).agent = s.agent ∧ (s.offerBeacon).peers = s.peers ∧
    (s.offerBeacon).lc = s.lc ∧ (s.offerBeacon).field = s.field ∧ (s.offerBeacon).scaleLink = s.scaleLink ∧
    (s.offerBeacon).anaLink = s.anaLink ∧ (s.offerBeacon).pending = s.pending ∧ (s.offerBeacon).free = s.free ∧
    (s.offerBeacon).line.framer = s.line.framer ∧ (s.offerBeacon).line.listenIn = s.line.listenIn ∧
    (s.offerBeacon).line.listenT = s.line.listenT ∧ (s.offerBeacon).line.clash = s.line.clash ∧
    (s.offerBeacon).line.clashT = s.line.clashT ∧ (s.offerBeacon).line.beaconT = s.line.beaconT ∧
    (s.offerBeacon).line.rxErrors = s.line.rxErrors ∧ (s.offerBeacon).line.collisions = s.line.collisions ∧
    (s.offerBeacon).op.framer = s.op.framer ∧ (s.offerBeacon).op.gap = s.op.gap ∧ (s.offerBeacon).op.tx = s.op.tx ∧
    (s.offerBeacon).op.owed = s.op.owed := by
  simp [State.offerBeacon]

@[simp] theorem offerBeacon_views (s : State) :
    (s.offerBeacon).cfg = s.cfg ∧
    (s.offerBeacon).loaded = s.loaded ∧
    (∀ y, (s.offerBeacon).portSet y = s.portSet y) ∧
    (s.offerBeacon).seconds = s.seconds ∧
    (s.offerBeacon).inhibited = s.inhibited ∧
    (s.offerBeacon).inhibitSeconds = s.inhibitSeconds ∧
    (∀ pp, (s.offerBeacon).port pp = s.port pp) ∧
    (∀ cc, (s.offerBeacon).rcv cc = s.rcv cc ∧ (s.offerBeacon).accepting cc = s.accepting cc ∧ (s.offerBeacon).level cc = s.level cc ∧
      (s.offerBeacon).band cc = s.band cc) ∧
    (s.offerBeacon).flowingPeers = s.flowingPeers ∧
    (s.offerBeacon).waitingPeers = s.waitingPeers ∧
    (∀ aa, (s.offerBeacon).peer aa = s.peer aa) ∧
    (∀ cc, (s.offerBeacon).noOther cc = s.noOther cc) ∧
    (∀ ll, (s.offerBeacon).recordLink ll = s.recordLink ll) := by
  simp [State.portSet, State.cfg, State.loaded, State.seconds, State.inhibited, State.inhibitSeconds, State.port, State.accepting, State.level, State.band, State.peer, State.flowingPeers, State.waitingPeers, State.peersIn, State.noOther, rcv_eq, link_eq]

@[simp] theorem offerBeacon_flag (s : State) (e : EventKind) (he : s.op.flag e = true) :
    (s.offerBeacon).op.flag e = true := by
  unfold State.offerBeacon
  try dsimp only
  (repeat' split) <;> simp (maxDischargeDepth := 9) [he]

@[simp] theorem lcOffer_frame (f : Frame) (s : State) :
    (s.lcOffer f).clock = s.clock ∧ (s.lcOffer f).loader = s.loader ∧ (s.lcOffer f).ports = s.ports ∧
    (s.lcOffer f).store = s.store ∧ (s.lcOffer f).ana = s.ana ∧ (s.lcOffer f).halo = s.halo ∧
    (s.lcOffer f).hydro = s.hydro ∧ (s.lcOffer f).agent = s.agent ∧ (s.lcOffer f).peers = s.peers ∧
    (s.lcOffer f).field = s.field ∧ (s.lcOffer f).scaleLink = s.scaleLink ∧ (s.lcOffer f).anaLink = s.anaLink ∧
    (s.lcOffer f).pending = s.pending ∧ (s.lcOffer f).free = s.free ∧ (s.lcOffer f).line.framer = s.line.framer ∧
    (s.lcOffer f).line.listenIn = s.line.listenIn ∧ (s.lcOffer f).line.listenT = s.line.listenT ∧
    (s.lcOffer f).line.clash = s.line.clash ∧ (s.lcOffer f).line.clashT = s.line.clashT ∧
    (s.lcOffer f).line.beaconT = s.line.beaconT ∧ (s.lcOffer f).line.rxErrors = s.line.rxErrors ∧
    (s.lcOffer f).line.collisions = s.line.collisions ∧ (s.lcOffer f).op.framer = s.op.framer ∧
    (s.lcOffer f).op.gap = s.op.gap ∧ (s.lcOffer f).op.tx = s.op.tx ∧ (s.lcOffer f).op.owed = s.op.owed ∧
    (s.lcOffer f).lc.inhibit = s.lc.inhibit ∧ (s.lcOffer f).lc.estop = s.lc.estop ∧
    (s.lcOffer f).lc.lastPause = s.lc.lastPause ∧ (s.lcOffer f).lc.paused = s.lc.paused ∧
    (s.lcOffer f).lc.causeLine = s.lc.causeLine ∧ (s.lcOffer f).lc.causeEstop = s.lc.causeEstop ∧
    (s.lcOffer f).lc.causeOperator = s.lc.causeOperator ∧ (s.lcOffer f).lc.estopRepeat = s.lc.estopRepeat := by
  unfold State.lcOffer
  try dsimp only
  (repeat' split) <;> simp

@[simp] theorem lcOffer_views (f : Frame) (s : State) :
    (s.lcOffer f).cfg = s.cfg ∧
    (s.lcOffer f).loaded = s.loaded ∧
    (∀ y, (s.lcOffer f).portSet y = s.portSet y) ∧
    (s.lcOffer f).seconds = s.seconds ∧
    (s.lcOffer f).inhibited = s.inhibited ∧
    (s.lcOffer f).inhibitSeconds = s.inhibitSeconds ∧
    (∀ pp, (s.lcOffer f).port pp = s.port pp) ∧
    (∀ cc, (s.lcOffer f).rcv cc = s.rcv cc ∧ (s.lcOffer f).accepting cc = s.accepting cc ∧ (s.lcOffer f).level cc = s.level cc ∧
      (s.lcOffer f).band cc = s.band cc) ∧
    (s.lcOffer f).flowingPeers = s.flowingPeers ∧
    (s.lcOffer f).waitingPeers = s.waitingPeers ∧
    (∀ aa, (s.lcOffer f).peer aa = s.peer aa) ∧
    (∀ cc, (s.lcOffer f).noOther cc = s.noOther cc) ∧
    (∀ ll, (s.lcOffer f).recordLink ll = s.recordLink ll) := by
  simp [State.portSet, State.cfg, State.loaded, State.seconds, State.inhibited, State.inhibitSeconds, State.port, State.accepting, State.level, State.band, State.peer, State.flowingPeers, State.waitingPeers, State.peersIn, State.noOther, rcv_eq, link_eq]

@[simp] theorem lcOffer_flag (f : Frame) (s : State) (e : EventKind) (he : s.op.flag e = true) :
    (s.lcOffer f).op.flag e = true := by
  unfold State.lcOffer
  try dsimp only
  (repeat' split) <;> simp (maxDischargeDepth := 9) [he]

/-! ### Ports -/

@[simp] theorem modPort_frame (p : PortId) (g : Port → Port) (s : State) :
    (s.modPort p g).clock = s.clock ∧ (s.modPort p g).loader = s.loader ∧ (s.modPort p g).store = s.store ∧
    (s.modPort p g).ana = s.ana ∧ (s.modPort p g).halo = s.halo ∧ (s.modPort p g).hydro = s.hydro ∧
    (s.modPort p g).agent = s.agent ∧ (s.modPort p g).line = s.line ∧ (s.modPort p g).peers = s.peers ∧
    (s.modPort p g).lc = s.lc ∧ (s.modPort p g).field = s.field ∧ (s.modPort p g).op = s.op ∧
    (s.modPort p g).scaleLink = s.scaleLink ∧ (s.modPort p g).anaLink = s.anaLink ∧
    (s.modPort p g).pending = s.pending ∧ (s.modPort p g).free = s.free := by
  simp [State.modPort]

@[simp] theorem modPort_views (p : PortId) (g : Port → Port) (s : State) :
    (s.modPort p g).cfg = s.cfg ∧
    (s.modPort p g).loaded = s.loaded ∧
    (∀ y, (s.modPort p g).portSet y = s.portSet y) ∧
    (s.modPort p g).seconds = s.seconds ∧
    (s.modPort p g).inhibited = s.inhibited ∧
    (s.modPort p g).inhibitSeconds = s.inhibitSeconds ∧
    (∀ cc, (s.modPort p g).rcv cc = s.rcv cc ∧ (s.modPort p g).accepting cc = s.accepting cc ∧ (s.modPort p g).level cc = s.level cc ∧
      (s.modPort p g).band cc = s.band cc) ∧
    (s.modPort p g).flowingPeers = s.flowingPeers ∧
    (s.modPort p g).waitingPeers = s.waitingPeers ∧
    (∀ aa, (s.modPort p g).peer aa = s.peer aa) ∧
    (∀ cc, (s.modPort p g).noOther cc = s.noOther cc) ∧
    (∀ ll, (s.modPort p g).recordLink ll = s.recordLink ll) := by
  simp [State.portSet, State.cfg, State.loaded, State.seconds, State.inhibited, State.inhibitSeconds, State.port, State.accepting, State.level, State.band, State.peer, State.flowingPeers, State.waitingPeers, State.peersIn, State.noOther, rcv_eq, link_eq]

@[simp] theorem route_frame (p : PortId) (s : State) :
    (s.route p).clock = s.clock ∧ (s.route p).loader = s.loader ∧ (s.route p).store = s.store ∧
    (s.route p).ana = s.ana ∧ (s.route p).halo = s.halo ∧ (s.route p).hydro = s.hydro ∧
    (s.route p).agent = s.agent ∧ (s.route p).line = s.line ∧ (s.route p).peers = s.peers ∧ (s.route p).lc = s.lc ∧
    (s.route p).field = s.field ∧ (s.route p).op = s.op ∧ (s.route p).scaleLink = s.scaleLink ∧
    (s.route p).anaLink = s.anaLink ∧ (s.route p).pending = s.pending ∧ (s.route p).free = s.free := by
  unfold State.route
  try dsimp only
  (repeat' split) <;> simp

@[simp] theorem route_views (p : PortId) (s : State) :
    (s.route p).cfg = s.cfg ∧
    (s.route p).loaded = s.loaded ∧
    (∀ y, (s.route p).portSet y = s.portSet y) ∧
    (s.route p).seconds = s.seconds ∧
    (s.route p).inhibited = s.inhibited ∧
    (s.route p).inhibitSeconds = s.inhibitSeconds ∧
    (∀ cc, (s.route p).rcv cc = s.rcv cc ∧ (s.route p).accepting cc = s.accepting cc ∧ (s.route p).level cc = s.level cc ∧
      (s.route p).band cc = s.band cc) ∧
    (s.route p).flowingPeers = s.flowingPeers ∧
    (s.route p).waitingPeers = s.waitingPeers ∧
    (∀ aa, (s.route p).peer aa = s.peer aa) ∧
    (∀ cc, (s.route p).noOther cc = s.noOther cc) ∧
    (∀ ll, (s.route p).recordLink ll = s.recordLink ll) := by
  simp [State.portSet, State.cfg, State.loaded, State.seconds, State.inhibited, State.inhibitSeconds, State.port, State.accepting, State.level, State.band, State.peer, State.flowingPeers, State.waitingPeers, State.peersIn, State.noOther, rcv_eq, link_eq]

@[simp] theorem recheck_frame (p : PortId) (s : State) :
    (s.recheck p).clock = s.clock ∧ (s.recheck p).loader = s.loader ∧ (s.recheck p).store = s.store ∧
    (s.recheck p).ana = s.ana ∧ (s.recheck p).halo = s.halo ∧ (s.recheck p).hydro = s.hydro ∧
    (s.recheck p).agent = s.agent ∧ (s.recheck p).line = s.line ∧ (s.recheck p).peers = s.peers ∧
    (s.recheck p).lc = s.lc ∧ (s.recheck p).field = s.field ∧ (s.recheck p).op = s.op ∧
    (s.recheck p).scaleLink = s.scaleLink ∧ (s.recheck p).anaLink = s.anaLink ∧ (s.recheck p).pending = s.pending ∧
    (s.recheck p).free = s.free := by
  unfold State.recheck
  try dsimp only
  (repeat' split) <;> simp

@[simp] theorem recheck_views (p : PortId) (s : State) :
    (s.recheck p).cfg = s.cfg ∧
    (s.recheck p).loaded = s.loaded ∧
    (∀ y, (s.recheck p).portSet y = s.portSet y) ∧
    (s.recheck p).seconds = s.seconds ∧
    (s.recheck p).inhibited = s.inhibited ∧
    (s.recheck p).inhibitSeconds = s.inhibitSeconds ∧
    (∀ cc, (s.recheck p).rcv cc = s.rcv cc ∧ (s.recheck p).accepting cc = s.accepting cc ∧ (s.recheck p).level cc = s.level cc ∧
      (s.recheck p).band cc = s.band cc) ∧
    (s.recheck p).flowingPeers = s.flowingPeers ∧
    (s.recheck p).waitingPeers = s.waitingPeers ∧
    (∀ aa, (s.recheck p).peer aa = s.peer aa) ∧
    (∀ cc, (s.recheck p).noOther cc = s.noOther cc) ∧
    (∀ ll, (s.recheck p).recordLink ll = s.recordLink ll) := by
  simp [State.portSet, State.cfg, State.loaded, State.seconds, State.inhibited, State.inhibitSeconds, State.port, State.accepting, State.level, State.band, State.peer, State.flowingPeers, State.waitingPeers, State.peersIn, State.noOther, rcv_eq, link_eq]

@[simp] theorem tryConnect_frame (p : PortId) (s : State) :
    (s.tryConnect p).clock = s.clock ∧ (s.tryConnect p).loader = s.loader ∧ (s.tryConnect p).store = s.store ∧
    (s.tryConnect p).ana = s.ana ∧ (s.tryConnect p).halo = s.halo ∧ (s.tryConnect p).hydro = s.hydro ∧
    (s.tryConnect p).agent = s.agent ∧ (s.tryConnect p).line = s.line ∧ (s.tryConnect p).peers = s.peers ∧
    (s.tryConnect p).lc = s.lc ∧ (s.tryConnect p).field = s.field ∧ (s.tryConnect p).op = s.op ∧
    (s.tryConnect p).scaleLink = s.scaleLink ∧ (s.tryConnect p).anaLink = s.anaLink ∧
    (s.tryConnect p).pending = s.pending ∧ (s.tryConnect p).free = s.free := by
  unfold State.tryConnect
  try dsimp only
  (repeat' split) <;> simp

@[simp] theorem tryConnect_views (p : PortId) (s : State) :
    (s.tryConnect p).cfg = s.cfg ∧
    (s.tryConnect p).loaded = s.loaded ∧
    (∀ y, (s.tryConnect p).portSet y = s.portSet y) ∧
    (s.tryConnect p).seconds = s.seconds ∧
    (s.tryConnect p).inhibited = s.inhibited ∧
    (s.tryConnect p).inhibitSeconds = s.inhibitSeconds ∧
    (∀ cc, (s.tryConnect p).rcv cc = s.rcv cc ∧ (s.tryConnect p).accepting cc = s.accepting cc ∧ (s.tryConnect p).level cc = s.level cc ∧
      (s.tryConnect p).band cc = s.band cc) ∧
    (s.tryConnect p).flowingPeers = s.flowingPeers ∧
    (s.tryConnect p).waitingPeers = s.waitingPeers ∧
    (∀ aa, (s.tryConnect p).peer aa = s.peer aa) ∧
    (∀ cc, (s.tryConnect p).noOther cc = s.noOther cc) ∧
    (∀ ll, (s.tryConnect p).recordLink ll = s.recordLink ll) := by
  simp [State.portSet, State.cfg, State.loaded, State.seconds, State.inhibited, State.inhibitSeconds, State.port, State.accepting, State.level, State.band, State.peer, State.flowingPeers, State.waitingPeers, State.peersIn, State.noOther, rcv_eq, link_eq]

@[simp] theorem portNotice_frame (c : GasClass) (b : Bool) (p : PortId) (s : State) :
    (s.portNotice c b p).clock = s.clock ∧ (s.portNotice c b p).loader = s.loader ∧
    (s.portNotice c b p).store = s.store ∧ (s.portNotice c b p).ana = s.ana ∧ (s.portNotice c b p).halo = s.halo ∧
    (s.portNotice c b p).hydro = s.hydro ∧ (s.portNotice c b p).agent = s.agent ∧
    (s.portNotice c b p).line = s.line ∧ (s.portNotice c b p).peers = s.peers ∧ (s.portNotice c b p).lc = s.lc ∧
    (s.portNotice c b p).field = s.field ∧ (s.portNotice c b p).op = s.op ∧
    (s.portNotice c b p).scaleLink = s.scaleLink ∧ (s.portNotice c b p).anaLink = s.anaLink ∧
    (s.portNotice c b p).pending = s.pending ∧ (s.portNotice c b p).free = s.free := by
  unfold State.portNotice
  try dsimp only
  (repeat' split) <;> simp

@[simp] theorem portNotice_views (c : GasClass) (b : Bool) (p : PortId) (s : State) :
    (s.portNotice c b p).cfg = s.cfg ∧
    (s.portNotice c b p).loaded = s.loaded ∧
    (∀ y, (s.portNotice c b p).portSet y = s.portSet y) ∧
    (s.portNotice c b p).seconds = s.seconds ∧
    (s.portNotice c b p).inhibited = s.inhibited ∧
    (s.portNotice c b p).inhibitSeconds = s.inhibitSeconds ∧
    (∀ cc, (s.portNotice c b p).rcv cc = s.rcv cc ∧ (s.portNotice c b p).accepting cc = s.accepting cc ∧ (s.portNotice c b p).level cc = s.level cc ∧
      (s.portNotice c b p).band cc = s.band cc) ∧
    (s.portNotice c b p).flowingPeers = s.flowingPeers ∧
    (s.portNotice c b p).waitingPeers = s.waitingPeers ∧
    (∀ aa, (s.portNotice c b p).peer aa = s.peer aa) ∧
    (∀ cc, (s.portNotice c b p).noOther cc = s.noOther cc) ∧
    (∀ ll, (s.portNotice c b p).recordLink ll = s.recordLink ll) := by
  simp [State.portSet, State.cfg, State.loaded, State.seconds, State.inhibited, State.inhibitSeconds, State.port, State.accepting, State.level, State.band, State.peer, State.flowingPeers, State.waitingPeers, State.peersIn, State.noOther, rcv_eq, link_eq]

@[simp] theorem tellPorts_frame (c : GasClass) (s : State) :
    (s.tellPorts c).clock = s.clock ∧ (s.tellPorts c).loader = s.loader ∧ (s.tellPorts c).store = s.store ∧
    (s.tellPorts c).ana = s.ana ∧ (s.tellPorts c).halo = s.halo ∧ (s.tellPorts c).hydro = s.hydro ∧
    (s.tellPorts c).agent = s.agent ∧ (s.tellPorts c).line = s.line ∧ (s.tellPorts c).peers = s.peers ∧
    (s.tellPorts c).lc = s.lc ∧ (s.tellPorts c).field = s.field ∧ (s.tellPorts c).op = s.op ∧
    (s.tellPorts c).scaleLink = s.scaleLink ∧ (s.tellPorts c).anaLink = s.anaLink ∧
    (s.tellPorts c).pending = s.pending ∧ (s.tellPorts c).free = s.free := by
  simp [State.tellPorts, State.eachPort]

@[simp] theorem tellPorts_views (c : GasClass) (s : State) :
    (s.tellPorts c).cfg = s.cfg ∧
    (s.tellPorts c).loaded = s.loaded ∧
    (∀ y, (s.tellPorts c).portSet y = s.portSet y) ∧
    (s.tellPorts c).seconds = s.seconds ∧
    (s.tellPorts c).inhibited = s.inhibited ∧
    (s.tellPorts c).inhibitSeconds = s.inhibitSeconds ∧
    (∀ cc, (s.tellPorts c).rcv cc = s.rcv cc ∧ (s.tellPorts c).accepting cc = s.accepting cc ∧ (s.tellPorts c).level cc = s.level cc ∧
      (s.tellPorts c).band cc = s.band cc) ∧
    (s.tellPorts c).flowingPeers = s.flowingPeers ∧
    (s.tellPorts c).waitingPeers = s.waitingPeers ∧
    (∀ aa, (s.tellPorts c).peer aa = s.peer aa) ∧
    (∀ cc, (s.tellPorts c).noOther cc = s.noOther cc) ∧
    (∀ ll, (s.tellPorts c).recordLink ll = s.recordLink ll) := by
  simp [State.portSet, State.cfg, State.loaded, State.seconds, State.inhibited, State.inhibitSeconds, State.port, State.accepting, State.level, State.band, State.peer, State.flowingPeers, State.waitingPeers, State.peersIn, State.noOther, rcv_eq, link_eq]

@[simp] theorem portResume_frame (p : PortId) (s : State) :
    (s.portResume p).clock = s.clock ∧ (s.portResume p).loader = s.loader ∧ (s.portResume p).store = s.store ∧
    (s.portResume p).ana = s.ana ∧ (s.portResume p).halo = s.halo ∧ (s.portResume p).hydro = s.hydro ∧
    (s.portResume p).agent = s.agent ∧ (s.portResume p).line = s.line ∧ (s.portResume p).peers = s.peers ∧
    (s.portResume p).lc = s.lc ∧ (s.portResume p).field = s.field ∧ (s.portResume p).op = s.op ∧
    (s.portResume p).scaleLink = s.scaleLink ∧ (s.portResume p).anaLink = s.anaLink ∧
    (s.portResume p).pending = s.pending ∧ (s.portResume p).free = s.free := by
  unfold State.portResume
  try dsimp only
  (repeat' split) <;> simp

@[simp] theorem portResume_views (p : PortId) (s : State) :
    (s.portResume p).cfg = s.cfg ∧
    (s.portResume p).loaded = s.loaded ∧
    (∀ y, (s.portResume p).portSet y = s.portSet y) ∧
    (s.portResume p).seconds = s.seconds ∧
    (s.portResume p).inhibited = s.inhibited ∧
    (s.portResume p).inhibitSeconds = s.inhibitSeconds ∧
    (∀ cc, (s.portResume p).rcv cc = s.rcv cc ∧ (s.portResume p).accepting cc = s.accepting cc ∧ (s.portResume p).level cc = s.level cc ∧
      (s.portResume p).band cc = s.band cc) ∧
    (s.portResume p).flowingPeers = s.flowingPeers ∧
    (s.portResume p).waitingPeers = s.waitingPeers ∧
    (∀ aa, (s.portResume p).peer aa = s.peer aa) ∧
    (∀ cc, (s.portResume p).noOther cc = s.noOther cc) ∧
    (∀ ll, (s.portResume p).recordLink ll = s.recordLink ll) := by
  simp [State.portSet, State.cfg, State.loaded, State.seconds, State.inhibited, State.inhibitSeconds, State.port, State.accepting, State.level, State.band, State.peer, State.flowingPeers, State.waitingPeers, State.peersIn, State.noOther, rcv_eq, link_eq]

@[simp] theorem portInhibitEnd_frame (p : PortId) (s : State) :
    (s.portInhibitEnd p).clock = s.clock ∧ (s.portInhibitEnd p).loader = s.loader ∧
    (s.portInhibitEnd p).store = s.store ∧ (s.portInhibitEnd p).ana = s.ana ∧ (s.portInhibitEnd p).halo = s.halo ∧
    (s.portInhibitEnd p).hydro = s.hydro ∧ (s.portInhibitEnd p).agent = s.agent ∧
    (s.portInhibitEnd p).line = s.line ∧ (s.portInhibitEnd p).peers = s.peers ∧ (s.portInhibitEnd p).lc = s.lc ∧
    (s.portInhibitEnd p).field = s.field ∧ (s.portInhibitEnd p).op = s.op ∧
    (s.portInhibitEnd p).scaleLink = s.scaleLink ∧ (s.portInhibitEnd p).anaLink = s.anaLink ∧
    (s.portInhibitEnd p).pending = s.pending ∧ (s.portInhibitEnd p).free = s.free := by
  unfold State.portInhibitEnd
  try dsimp only
  (repeat' split) <;> simp

@[simp] theorem portInhibitEnd_views (p : PortId) (s : State) :
    (s.portInhibitEnd p).cfg = s.cfg ∧
    (s.portInhibitEnd p).loaded = s.loaded ∧
    (∀ y, (s.portInhibitEnd p).portSet y = s.portSet y) ∧
    (s.portInhibitEnd p).seconds = s.seconds ∧
    (s.portInhibitEnd p).inhibited = s.inhibited ∧
    (s.portInhibitEnd p).inhibitSeconds = s.inhibitSeconds ∧
    (∀ cc, (s.portInhibitEnd p).rcv cc = s.rcv cc ∧ (s.portInhibitEnd p).accepting cc = s.accepting cc ∧ (s.portInhibitEnd p).level cc = s.level cc ∧
      (s.portInhibitEnd p).band cc = s.band cc) ∧
    (s.portInhibitEnd p).flowingPeers = s.flowingPeers ∧
    (s.portInhibitEnd p).waitingPeers = s.waitingPeers ∧
    (∀ aa, (s.portInhibitEnd p).peer aa = s.peer aa) ∧
    (∀ cc, (s.portInhibitEnd p).noOther cc = s.noOther cc) ∧
    (∀ ll, (s.portInhibitEnd p).recordLink ll = s.recordLink ll) := by
  simp [State.portSet, State.cfg, State.loaded, State.seconds, State.inhibited, State.inhibitSeconds, State.port, State.accepting, State.level, State.band, State.peer, State.flowingPeers, State.waitingPeers, State.peersIn, State.noOther, rcv_eq, link_eq]

@[simp] theorem toRiseTest_frame (p : PortId) (s : State) :
    (s.toRiseTest p).clock = s.clock ∧ (s.toRiseTest p).loader = s.loader ∧ (s.toRiseTest p).store = s.store ∧
    (s.toRiseTest p).ana = s.ana ∧ (s.toRiseTest p).halo = s.halo ∧ (s.toRiseTest p).hydro = s.hydro ∧
    (s.toRiseTest p).agent = s.agent ∧ (s.toRiseTest p).line = s.line ∧ (s.toRiseTest p).peers = s.peers ∧
    (s.toRiseTest p).lc = s.lc ∧ (s.toRiseTest p).field = s.field ∧ (s.toRiseTest p).op = s.op ∧
    (s.toRiseTest p).scaleLink = s.scaleLink ∧ (s.toRiseTest p).anaLink = s.anaLink ∧
    (s.toRiseTest p).pending = s.pending ∧ (s.toRiseTest p).free = s.free := by
  simp [State.toRiseTest]

@[simp] theorem toRiseTest_views (p : PortId) (s : State) :
    (s.toRiseTest p).cfg = s.cfg ∧
    (s.toRiseTest p).loaded = s.loaded ∧
    (∀ y, (s.toRiseTest p).portSet y = s.portSet y) ∧
    (s.toRiseTest p).seconds = s.seconds ∧
    (s.toRiseTest p).inhibited = s.inhibited ∧
    (s.toRiseTest p).inhibitSeconds = s.inhibitSeconds ∧
    (∀ cc, (s.toRiseTest p).rcv cc = s.rcv cc ∧ (s.toRiseTest p).accepting cc = s.accepting cc ∧ (s.toRiseTest p).level cc = s.level cc ∧
      (s.toRiseTest p).band cc = s.band cc) ∧
    (s.toRiseTest p).flowingPeers = s.flowingPeers ∧
    (s.toRiseTest p).waitingPeers = s.waitingPeers ∧
    (∀ aa, (s.toRiseTest p).peer aa = s.peer aa) ∧
    (∀ cc, (s.toRiseTest p).noOther cc = s.noOther cc) ∧
    (∀ ll, (s.toRiseTest p).recordLink ll = s.recordLink ll) := by
  simp [State.portSet, State.cfg, State.loaded, State.seconds, State.inhibited, State.inhibitSeconds, State.port, State.accepting, State.level, State.band, State.peer, State.flowingPeers, State.waitingPeers, State.peersIn, State.noOther, rcv_eq, link_eq]

@[simp] theorem takeStepSample_frame (p : PortId) (n : Nat) (s : State) :
    (s.takeStepSample p n).clock = s.clock ∧ (s.takeStepSample p n).loader = s.loader ∧
    (s.takeStepSample p n).store = s.store ∧ (s.takeStepSample p n).ana = s.ana ∧
    (s.takeStepSample p n).halo = s.halo ∧ (s.takeStepSample p n).hydro = s.hydro ∧
    (s.takeStepSample p n).agent = s.agent ∧ (s.takeStepSample p n).line = s.line ∧
    (s.takeStepSample p n).peers = s.peers ∧ (s.takeStepSample p n).lc = s.lc ∧
    (s.takeStepSample p n).field = s.field ∧ (s.takeStepSample p n).op = s.op ∧
    (s.takeStepSample p n).scaleLink = s.scaleLink ∧ (s.takeStepSample p n).anaLink = s.anaLink ∧
    (s.takeStepSample p n).pending = s.pending ∧ (s.takeStepSample p n).free = s.free := by
  unfold State.takeStepSample
  try dsimp only
  (repeat' split) <;> simp

@[simp] theorem takeStepSample_views (p : PortId) (n : Nat) (s : State) :
    (s.takeStepSample p n).cfg = s.cfg ∧
    (s.takeStepSample p n).loaded = s.loaded ∧
    (∀ y, (s.takeStepSample p n).portSet y = s.portSet y) ∧
    (s.takeStepSample p n).seconds = s.seconds ∧
    (s.takeStepSample p n).inhibited = s.inhibited ∧
    (s.takeStepSample p n).inhibitSeconds = s.inhibitSeconds ∧
    (∀ cc, (s.takeStepSample p n).rcv cc = s.rcv cc ∧ (s.takeStepSample p n).accepting cc = s.accepting cc ∧ (s.takeStepSample p n).level cc = s.level cc ∧
      (s.takeStepSample p n).band cc = s.band cc) ∧
    (s.takeStepSample p n).flowingPeers = s.flowingPeers ∧
    (s.takeStepSample p n).waitingPeers = s.waitingPeers ∧
    (∀ aa, (s.takeStepSample p n).peer aa = s.peer aa) ∧
    (∀ cc, (s.takeStepSample p n).noOther cc = s.noOther cc) ∧
    (∀ ll, (s.takeStepSample p n).recordLink ll = s.recordLink ll) := by
  simp [State.portSet, State.cfg, State.loaded, State.seconds, State.inhibited, State.inhibitSeconds, State.port, State.accepting, State.level, State.band, State.peer, State.flowingPeers, State.waitingPeers, State.peersIn, State.noOther, rcv_eq, link_eq]

@[simp] theorem serve_frame (s : State) :
    (s.serve).clock = s.clock ∧ (s.serve).loader = s.loader ∧ (s.serve).ports = s.ports ∧
    (s.serve).store = s.store ∧ (s.serve).halo = s.halo ∧ (s.serve).hydro = s.hydro ∧ (s.serve).agent = s.agent ∧
    (s.serve).line = s.line ∧ (s.serve).peers = s.peers ∧ (s.serve).lc = s.lc ∧ (s.serve).field = s.field ∧
    (s.serve).op = s.op ∧ (s.serve).scaleLink = s.scaleLink ∧ (s.serve).anaLink = s.anaLink ∧
    (s.serve).pending = s.pending ∧ (s.serve).free = s.free := by
  unfold State.serve
  try dsimp only
  (repeat' split) <;> simp

@[simp] theorem serve_views (s : State) :
    (s.serve).cfg = s.cfg ∧
    (s.serve).loaded = s.loaded ∧
    (∀ y, (s.serve).portSet y = s.portSet y) ∧
    (s.serve).seconds = s.seconds ∧
    (s.serve).inhibited = s.inhibited ∧
    (s.serve).inhibitSeconds = s.inhibitSeconds ∧
    (∀ pp, (s.serve).port pp = s.port pp) ∧
    (∀ cc, (s.serve).rcv cc = s.rcv cc ∧ (s.serve).accepting cc = s.accepting cc ∧ (s.serve).level cc = s.level cc ∧
      (s.serve).band cc = s.band cc) ∧
    (s.serve).flowingPeers = s.flowingPeers ∧
    (s.serve).waitingPeers = s.waitingPeers ∧
    (∀ aa, (s.serve).peer aa = s.peer aa) ∧
    (∀ cc, (s.serve).noOther cc = s.noOther cc) ∧
    (∀ ll, (s.serve).recordLink ll = s.recordLink ll) := by
  simp [State.portSet, State.cfg, State.loaded, State.seconds, State.inhibited, State.inhibitSeconds, State.port, State.accepting, State.level, State.band, State.peer, State.flowingPeers, State.waitingPeers, State.peersIn, State.noOther, rcv_eq, link_eq]

@[simp] theorem joinClassify_frame (p : PortId) (s : State) :
    (s.joinClassify p).clock = s.clock ∧ (s.joinClassify p).loader = s.loader ∧
    (s.joinClassify p).ports = s.ports ∧ (s.joinClassify p).store = s.store ∧ (s.joinClassify p).halo = s.halo ∧
    (s.joinClassify p).hydro = s.hydro ∧ (s.joinClassify p).agent = s.agent ∧ (s.joinClassify p).line = s.line ∧
    (s.joinClassify p).peers = s.peers ∧ (s.joinClassify p).lc = s.lc ∧ (s.joinClassify p).field = s.field ∧
    (s.joinClassify p).op = s.op ∧ (s.joinClassify p).scaleLink = s.scaleLink ∧
    (s.joinClassify p).anaLink = s.anaLink ∧ (s.joinClassify p).pending = s.pending ∧
    (s.joinClassify p).free = s.free := by
  simp [State.joinClassify]

@[simp] theorem joinClassify_views (p : PortId) (s : State) :
    (s.joinClassify p).cfg = s.cfg ∧
    (s.joinClassify p).loaded = s.loaded ∧
    (∀ y, (s.joinClassify p).portSet y = s.portSet y) ∧
    (s.joinClassify p).seconds = s.seconds ∧
    (s.joinClassify p).inhibited = s.inhibited ∧
    (s.joinClassify p).inhibitSeconds = s.inhibitSeconds ∧
    (∀ pp, (s.joinClassify p).port pp = s.port pp) ∧
    (∀ cc, (s.joinClassify p).rcv cc = s.rcv cc ∧ (s.joinClassify p).accepting cc = s.accepting cc ∧ (s.joinClassify p).level cc = s.level cc ∧
      (s.joinClassify p).band cc = s.band cc) ∧
    (s.joinClassify p).flowingPeers = s.flowingPeers ∧
    (s.joinClassify p).waitingPeers = s.waitingPeers ∧
    (∀ aa, (s.joinClassify p).peer aa = s.peer aa) ∧
    (∀ cc, (s.joinClassify p).noOther cc = s.noOther cc) ∧
    (∀ ll, (s.joinClassify p).recordLink ll = s.recordLink ll) := by
  simp [State.portSet, State.cfg, State.loaded, State.seconds, State.inhibited, State.inhibitSeconds, State.port, State.accepting, State.level, State.band, State.peer, State.flowingPeers, State.waitingPeers, State.peersIn, State.noOther, rcv_eq, link_eq]

@[simp] theorem withdraw_frame (p : PortId) (s : State) :
    (s.withdraw p).clock = s.clock ∧ (s.withdraw p).loader = s.loader ∧ (s.withdraw p).ports = s.ports ∧
    (s.withdraw p).store = s.store ∧ (s.withdraw p).halo = s.halo ∧ (s.withdraw p).hydro = s.hydro ∧
    (s.withdraw p).agent = s.agent ∧ (s.withdraw p).line = s.line ∧ (s.withdraw p).peers = s.peers ∧
    (s.withdraw p).lc = s.lc ∧ (s.withdraw p).field = s.field ∧ (s.withdraw p).op = s.op ∧
    (s.withdraw p).scaleLink = s.scaleLink ∧ (s.withdraw p).anaLink = s.anaLink ∧
    (s.withdraw p).pending = s.pending ∧ (s.withdraw p).free = s.free := by
  simp [State.withdraw]

@[simp] theorem withdraw_views (p : PortId) (s : State) :
    (s.withdraw p).cfg = s.cfg ∧
    (s.withdraw p).loaded = s.loaded ∧
    (∀ y, (s.withdraw p).portSet y = s.portSet y) ∧
    (s.withdraw p).seconds = s.seconds ∧
    (s.withdraw p).inhibited = s.inhibited ∧
    (s.withdraw p).inhibitSeconds = s.inhibitSeconds ∧
    (∀ pp, (s.withdraw p).port pp = s.port pp) ∧
    (∀ cc, (s.withdraw p).rcv cc = s.rcv cc ∧ (s.withdraw p).accepting cc = s.accepting cc ∧ (s.withdraw p).level cc = s.level cc ∧
      (s.withdraw p).band cc = s.band cc) ∧
    (s.withdraw p).flowingPeers = s.flowingPeers ∧
    (s.withdraw p).waitingPeers = s.waitingPeers ∧
    (∀ aa, (s.withdraw p).peer aa = s.peer aa) ∧
    (∀ cc, (s.withdraw p).noOther cc = s.noOther cc) ∧
    (∀ ll, (s.withdraw p).recordLink ll = s.recordLink ll) := by
  simp [State.portSet, State.cfg, State.loaded, State.seconds, State.inhibited, State.inhibitSeconds, State.port, State.accepting, State.level, State.band, State.peer, State.flowingPeers, State.waitingPeers, State.peersIn, State.noOther, rcv_eq, link_eq]

@[simp] theorem startSniff_frame (s : State) :
    (s.startSniff).clock = s.clock ∧ (s.startSniff).loader = s.loader ∧ (s.startSniff).ports = s.ports ∧
    (s.startSniff).store = s.store ∧ (s.startSniff).halo = s.halo ∧ (s.startSniff).hydro = s.hydro ∧
    (s.startSniff).agent = s.agent ∧ (s.startSniff).line = s.line ∧ (s.startSniff).peers = s.peers ∧
    (s.startSniff).lc = s.lc ∧ (s.startSniff).field = s.field ∧ (s.startSniff).op = s.op ∧
    (s.startSniff).scaleLink = s.scaleLink ∧ (s.startSniff).anaLink = s.anaLink ∧
    (s.startSniff).pending = s.pending ∧ (s.startSniff).free = s.free := by
  unfold State.startSniff
  try dsimp only
  (repeat' split) <;> simp

@[simp] theorem startSniff_views (s : State) :
    (s.startSniff).cfg = s.cfg ∧
    (s.startSniff).loaded = s.loaded ∧
    (∀ y, (s.startSniff).portSet y = s.portSet y) ∧
    (s.startSniff).seconds = s.seconds ∧
    (s.startSniff).inhibited = s.inhibited ∧
    (s.startSniff).inhibitSeconds = s.inhibitSeconds ∧
    (∀ pp, (s.startSniff).port pp = s.port pp) ∧
    (∀ cc, (s.startSniff).rcv cc = s.rcv cc ∧ (s.startSniff).accepting cc = s.accepting cc ∧ (s.startSniff).level cc = s.level cc ∧
      (s.startSniff).band cc = s.band cc) ∧
    (s.startSniff).flowingPeers = s.flowingPeers ∧
    (s.startSniff).waitingPeers = s.waitingPeers ∧
    (∀ aa, (s.startSniff).peer aa = s.peer aa) ∧
    (∀ cc, (s.startSniff).noOther cc = s.noOther cc) ∧
    (∀ ll, (s.startSniff).recordLink ll = s.recordLink ll) := by
  simp [State.portSet, State.cfg, State.loaded, State.seconds, State.inhibited, State.inhibitSeconds, State.port, State.accepting, State.level, State.band, State.peer, State.flowingPeers, State.waitingPeers, State.peersIn, State.noOther, rcv_eq, link_eq]

@[simp] theorem analyserIdle_frame (s : State) :
    (s.analyserIdle).clock = s.clock ∧ (s.analyserIdle).loader = s.loader ∧ (s.analyserIdle).ports = s.ports ∧
    (s.analyserIdle).store = s.store ∧ (s.analyserIdle).halo = s.halo ∧ (s.analyserIdle).hydro = s.hydro ∧
    (s.analyserIdle).agent = s.agent ∧ (s.analyserIdle).line = s.line ∧ (s.analyserIdle).peers = s.peers ∧
    (s.analyserIdle).lc = s.lc ∧ (s.analyserIdle).field = s.field ∧ (s.analyserIdle).op = s.op ∧
    (s.analyserIdle).scaleLink = s.scaleLink ∧ (s.analyserIdle).anaLink = s.anaLink ∧
    (s.analyserIdle).pending = s.pending ∧ (s.analyserIdle).free = s.free := by
  unfold State.analyserIdle
  try dsimp only
  (repeat' split) <;> simp

@[simp] theorem analyserIdle_views (s : State) :
    (s.analyserIdle).cfg = s.cfg ∧
    (s.analyserIdle).loaded = s.loaded ∧
    (∀ y, (s.analyserIdle).portSet y = s.portSet y) ∧
    (s.analyserIdle).seconds = s.seconds ∧
    (s.analyserIdle).inhibited = s.inhibited ∧
    (s.analyserIdle).inhibitSeconds = s.inhibitSeconds ∧
    (∀ pp, (s.analyserIdle).port pp = s.port pp) ∧
    (∀ cc, (s.analyserIdle).rcv cc = s.rcv cc ∧ (s.analyserIdle).accepting cc = s.accepting cc ∧ (s.analyserIdle).level cc = s.level cc ∧
      (s.analyserIdle).band cc = s.band cc) ∧
    (s.analyserIdle).flowingPeers = s.flowingPeers ∧
    (s.analyserIdle).waitingPeers = s.waitingPeers ∧
    (∀ aa, (s.analyserIdle).peer aa = s.peer aa) ∧
    (∀ cc, (s.analyserIdle).noOther cc = s.noOther cc) ∧
    (∀ ll, (s.analyserIdle).recordLink ll = s.recordLink ll) := by
  simp [State.portSet, State.cfg, State.loaded, State.seconds, State.inhibited, State.inhibitSeconds, State.port, State.accepting, State.level, State.band, State.peer, State.flowingPeers, State.waitingPeers, State.peersIn, State.noOther, rcv_eq, link_eq]

@[simp] theorem toClassify_frame (p : PortId) (s : State) :
    (s.toClassify p).clock = s.clock ∧ (s.toClassify p).loader = s.loader ∧ (s.toClassify p).store = s.store ∧
    (s.toClassify p).halo = s.halo ∧ (s.toClassify p).hydro = s.hydro ∧ (s.toClassify p).agent = s.agent ∧
    (s.toClassify p).line = s.line ∧ (s.toClassify p).peers = s.peers ∧ (s.toClassify p).lc = s.lc ∧
    (s.toClassify p).field = s.field ∧ (s.toClassify p).op = s.op ∧ (s.toClassify p).scaleLink = s.scaleLink ∧
    (s.toClassify p).anaLink = s.anaLink ∧ (s.toClassify p).pending = s.pending ∧ (s.toClassify p).free = s.free := by
  simp [State.toClassify]

@[simp] theorem toClassify_views (p : PortId) (s : State) :
    (s.toClassify p).cfg = s.cfg ∧
    (s.toClassify p).loaded = s.loaded ∧
    (∀ y, (s.toClassify p).portSet y = s.portSet y) ∧
    (s.toClassify p).seconds = s.seconds ∧
    (s.toClassify p).inhibited = s.inhibited ∧
    (s.toClassify p).inhibitSeconds = s.inhibitSeconds ∧
    (∀ cc, (s.toClassify p).rcv cc = s.rcv cc ∧ (s.toClassify p).accepting cc = s.accepting cc ∧ (s.toClassify p).level cc = s.level cc ∧
      (s.toClassify p).band cc = s.band cc) ∧
    (s.toClassify p).flowingPeers = s.flowingPeers ∧
    (s.toClassify p).waitingPeers = s.waitingPeers ∧
    (∀ aa, (s.toClassify p).peer aa = s.peer aa) ∧
    (∀ cc, (s.toClassify p).noOther cc = s.noOther cc) ∧
    (∀ ll, (s.toClassify p).recordLink ll = s.recordLink ll) := by
  simp [State.portSet, State.cfg, State.loaded, State.seconds, State.inhibited, State.inhibitSeconds, State.port, State.accepting, State.level, State.band, State.peer, State.flowingPeers, State.waitingPeers, State.peersIn, State.noOther, rcv_eq, link_eq]

@[simp] theorem enqueueRecord_frame (p : PortId) (r : CaseRecord) (s : State) :
    (s.enqueueRecord p r).clock = s.clock ∧ (s.enqueueRecord p r).loader = s.loader ∧
    (s.enqueueRecord p r).ana = s.ana ∧ (s.enqueueRecord p r).halo = s.halo ∧
    (s.enqueueRecord p r).hydro = s.hydro ∧ (s.enqueueRecord p r).agent = s.agent ∧
    (s.enqueueRecord p r).line = s.line ∧ (s.enqueueRecord p r).peers = s.peers ∧ (s.enqueueRecord p r).lc = s.lc ∧
    (s.enqueueRecord p r).field = s.field ∧ (s.enqueueRecord p r).scaleLink = s.scaleLink ∧
    (s.enqueueRecord p r).anaLink = s.anaLink ∧ (s.enqueueRecord p r).pending = s.pending ∧
    (s.enqueueRecord p r).free = s.free ∧ (s.enqueueRecord p r).op.framer = s.op.framer ∧
    (s.enqueueRecord p r).op.gap = s.op.gap ∧ (s.enqueueRecord p r).op.tx = s.op.tx ∧
    (s.enqueueRecord p r).op.owed = s.op.owed := by
  simp [State.enqueueRecord]

@[simp] theorem enqueueRecord_views (p : PortId) (r : CaseRecord) (s : State) :
    (s.enqueueRecord p r).cfg = s.cfg ∧
    (s.enqueueRecord p r).loaded = s.loaded ∧
    (∀ y, (s.enqueueRecord p r).portSet y = s.portSet y) ∧
    (s.enqueueRecord p r).seconds = s.seconds ∧
    (s.enqueueRecord p r).inhibited = s.inhibited ∧
    (s.enqueueRecord p r).inhibitSeconds = s.inhibitSeconds ∧
    (∀ cc, (s.enqueueRecord p r).rcv cc = s.rcv cc ∧ (s.enqueueRecord p r).accepting cc = s.accepting cc ∧ (s.enqueueRecord p r).level cc = s.level cc ∧
      (s.enqueueRecord p r).band cc = s.band cc) ∧
    (s.enqueueRecord p r).flowingPeers = s.flowingPeers ∧
    (s.enqueueRecord p r).waitingPeers = s.waitingPeers ∧
    (∀ aa, (s.enqueueRecord p r).peer aa = s.peer aa) ∧
    (∀ cc, (s.enqueueRecord p r).noOther cc = s.noOther cc) ∧
    (∀ ll, (s.enqueueRecord p r).recordLink ll = s.recordLink ll) := by
  simp [State.portSet, State.cfg, State.loaded, State.seconds, State.inhibited, State.inhibitSeconds, State.port, State.accepting, State.level, State.band, State.peer, State.flowingPeers, State.waitingPeers, State.peersIn, State.noOther, rcv_eq, link_eq]

@[simp] theorem enqueueRecord_flag (p : PortId) (r : CaseRecord) (s : State) (e : EventKind) (he : s.op.flag e = true) :
    (s.enqueueRecord p r).op.flag e = true := by
  unfold State.enqueueRecord
  try dsimp only
  (repeat' split) <;> simp (maxDischargeDepth := 9) [he]

@[simp] theorem closeCase_frame (p : PortId) (r : CaseResult) (s : State) :
    (s.closeCase p r).clock = s.clock ∧ (s.closeCase p r).loader = s.loader ∧ (s.closeCase p r).halo = s.halo ∧
    (s.closeCase p r).hydro = s.hydro ∧ (s.closeCase p r).agent = s.agent ∧ (s.closeCase p r).line = s.line ∧
    (s.closeCase p r).peers = s.peers ∧ (s.closeCase p r).lc = s.lc ∧ (s.closeCase p r).field = s.field ∧
    (s.closeCase p r).scaleLink = s.scaleLink ∧ (s.closeCase p r).anaLink = s.anaLink ∧
    (s.closeCase p r).pending = s.pending ∧ (s.closeCase p r).free = s.free ∧
    (s.closeCase p r).op.framer = s.op.framer ∧ (s.closeCase p r).op.gap = s.op.gap ∧
    (s.closeCase p r).op.tx = s.op.tx ∧ (s.closeCase p r).op.owed = s.op.owed := by
  unfold State.closeCase
  try dsimp only
  (repeat' split) <;> simp

@[simp] theorem closeCase_views (p : PortId) (r : CaseResult) (s : State) :
    (s.closeCase p r).cfg = s.cfg ∧
    (s.closeCase p r).loaded = s.loaded ∧
    (∀ y, (s.closeCase p r).portSet y = s.portSet y) ∧
    (s.closeCase p r).seconds = s.seconds ∧
    (s.closeCase p r).inhibited = s.inhibited ∧
    (s.closeCase p r).inhibitSeconds = s.inhibitSeconds ∧
    (∀ cc, (s.closeCase p r).rcv cc = s.rcv cc ∧ (s.closeCase p r).accepting cc = s.accepting cc ∧ (s.closeCase p r).level cc = s.level cc ∧
      (s.closeCase p r).band cc = s.band cc) ∧
    (s.closeCase p r).flowingPeers = s.flowingPeers ∧
    (s.closeCase p r).waitingPeers = s.waitingPeers ∧
    (∀ aa, (s.closeCase p r).peer aa = s.peer aa) ∧
    (∀ cc, (s.closeCase p r).noOther cc = s.noOther cc) ∧
    (∀ ll, (s.closeCase p r).recordLink ll = s.recordLink ll) := by
  simp [State.portSet, State.cfg, State.loaded, State.seconds, State.inhibited, State.inhibitSeconds, State.port, State.accepting, State.level, State.band, State.peer, State.flowingPeers, State.waitingPeers, State.peersIn, State.noOther, rcv_eq, link_eq]

@[simp] theorem closeCase_flag (p : PortId) (r : CaseResult) (s : State) (e : EventKind) (he : s.op.flag e = true) :
    (s.closeCase p r).op.flag e = true := by
  unfold State.closeCase
  try dsimp only
  (repeat' split) <;> simp (maxDischargeDepth := 9) [he]

@[simp] theorem quarantine_frame (p : PortId) (q : QReason) (s : State) :
    (s.quarantine p q).clock = s.clock ∧ (s.quarantine p q).loader = s.loader ∧
    (s.quarantine p q).store = s.store ∧ (s.quarantine p q).halo = s.halo ∧ (s.quarantine p q).hydro = s.hydro ∧
    (s.quarantine p q).agent = s.agent ∧ (s.quarantine p q).line = s.line ∧ (s.quarantine p q).peers = s.peers ∧
    (s.quarantine p q).lc = s.lc ∧ (s.quarantine p q).field = s.field ∧
    (s.quarantine p q).scaleLink = s.scaleLink ∧ (s.quarantine p q).anaLink = s.anaLink ∧
    (s.quarantine p q).pending = s.pending ∧ (s.quarantine p q).free = s.free ∧
    (s.quarantine p q).op.framer = s.op.framer ∧ (s.quarantine p q).op.gap = s.op.gap ∧
    (s.quarantine p q).op.tx = s.op.tx ∧ (s.quarantine p q).op.owed = s.op.owed := by
  unfold State.quarantine
  try dsimp only
  (repeat' split) <;> simp

@[simp] theorem quarantine_views (p : PortId) (q : QReason) (s : State) :
    (s.quarantine p q).cfg = s.cfg ∧
    (s.quarantine p q).loaded = s.loaded ∧
    (∀ y, (s.quarantine p q).portSet y = s.portSet y) ∧
    (s.quarantine p q).seconds = s.seconds ∧
    (s.quarantine p q).inhibited = s.inhibited ∧
    (s.quarantine p q).inhibitSeconds = s.inhibitSeconds ∧
    (∀ cc, (s.quarantine p q).rcv cc = s.rcv cc ∧ (s.quarantine p q).accepting cc = s.accepting cc ∧ (s.quarantine p q).level cc = s.level cc ∧
      (s.quarantine p q).band cc = s.band cc) ∧
    (s.quarantine p q).flowingPeers = s.flowingPeers ∧
    (s.quarantine p q).waitingPeers = s.waitingPeers ∧
    (∀ aa, (s.quarantine p q).peer aa = s.peer aa) ∧
    (∀ cc, (s.quarantine p q).noOther cc = s.noOther cc) ∧
    (∀ ll, (s.quarantine p q).recordLink ll = s.recordLink ll) := by
  simp [State.portSet, State.cfg, State.loaded, State.seconds, State.inhibited, State.inhibitSeconds, State.port, State.accepting, State.level, State.band, State.peer, State.flowingPeers, State.waitingPeers, State.peersIn, State.noOther, rcv_eq, link_eq]

@[simp] theorem quarantine_flag (p : PortId) (q : QReason) (s : State) (e : EventKind) (he : s.op.flag e = true) :
    (s.quarantine p q).op.flag e = true := by
  unfold State.quarantine
  try dsimp only
  (repeat' split) <;> simp (maxDischargeDepth := 9) [he]

@[simp] theorem portSniff_frame (p : PortId) (o : SniffOutcome) (s : State) :
    (s.portSniff p o).clock = s.clock ∧ (s.portSniff p o).loader = s.loader ∧ (s.portSniff p o).store = s.store ∧
    (s.portSniff p o).halo = s.halo ∧ (s.portSniff p o).hydro = s.hydro ∧ (s.portSniff p o).agent = s.agent ∧
    (s.portSniff p o).line = s.line ∧ (s.portSniff p o).peers = s.peers ∧ (s.portSniff p o).lc = s.lc ∧
    (s.portSniff p o).field = s.field ∧ (s.portSniff p o).scaleLink = s.scaleLink ∧
    (s.portSniff p o).anaLink = s.anaLink ∧ (s.portSniff p o).pending = s.pending ∧
    (s.portSniff p o).free = s.free ∧ (s.portSniff p o).op.framer = s.op.framer ∧
    (s.portSniff p o).op.gap = s.op.gap ∧ (s.portSniff p o).op.tx = s.op.tx ∧ (s.portSniff p o).op.owed = s.op.owed := by
  unfold State.portSniff
  try dsimp only
  (repeat' split) <;> simp

@[simp] theorem portSniff_views (p : PortId) (o : SniffOutcome) (s : State) :
    (s.portSniff p o).cfg = s.cfg ∧
    (s.portSniff p o).loaded = s.loaded ∧
    (∀ y, (s.portSniff p o).portSet y = s.portSet y) ∧
    (s.portSniff p o).seconds = s.seconds ∧
    (s.portSniff p o).inhibited = s.inhibited ∧
    (s.portSniff p o).inhibitSeconds = s.inhibitSeconds ∧
    (∀ cc, (s.portSniff p o).rcv cc = s.rcv cc ∧ (s.portSniff p o).accepting cc = s.accepting cc ∧ (s.portSniff p o).level cc = s.level cc ∧
      (s.portSniff p o).band cc = s.band cc) ∧
    (s.portSniff p o).flowingPeers = s.flowingPeers ∧
    (s.portSniff p o).waitingPeers = s.waitingPeers ∧
    (∀ aa, (s.portSniff p o).peer aa = s.peer aa) ∧
    (∀ cc, (s.portSniff p o).noOther cc = s.noOther cc) ∧
    (∀ ll, (s.portSniff p o).recordLink ll = s.recordLink ll) := by
  simp [State.portSet, State.cfg, State.loaded, State.seconds, State.inhibited, State.inhibitSeconds, State.port, State.accepting, State.level, State.band, State.peer, State.flowingPeers, State.waitingPeers, State.peersIn, State.noOther, rcv_eq, link_eq]

@[simp] theorem portSniff_flag (p : PortId) (o : SniffOutcome) (s : State) (e : EventKind) (he : s.op.flag e = true) :
    (s.portSniff p o).op.flag e = true := by
  unfold State.portSniff
  try dsimp only
  (repeat' split) <;> simp (maxDischargeDepth := 9) [he]

@[simp] theorem portTakesSample_frame (p : PortId) (x : Sample) (s : State) :
    (s.portTakesSample p x).clock = s.clock ∧ (s.portTakesSample p x).loader = s.loader ∧
    (s.portTakesSample p x).halo = s.halo ∧ (s.portTakesSample p x).hydro = s.hydro ∧
    (s.portTakesSample p x).agent = s.agent ∧ (s.portTakesSample p x).line = s.line ∧
    (s.portTakesSample p x).peers = s.peers ∧ (s.portTakesSample p x).lc = s.lc ∧
    (s.portTakesSample p x).field = s.field ∧ (s.portTakesSample p x).scaleLink = s.scaleLink ∧
    (s.portTakesSample p x).anaLink = s.anaLink ∧ (s.portTakesSample p x).pending = s.pending ∧
    (s.portTakesSample p x).free = s.free ∧ (s.portTakesSample p x).op.framer = s.op.framer ∧
    (s.portTakesSample p x).op.gap = s.op.gap ∧ (s.portTakesSample p x).op.tx = s.op.tx ∧
    (s.portTakesSample p x).op.owed = s.op.owed := by
  unfold State.portTakesSample
  try dsimp only
  (repeat' split) <;> simp

@[simp] theorem portTakesSample_views (p : PortId) (x : Sample) (s : State) :
    (s.portTakesSample p x).cfg = s.cfg ∧
    (s.portTakesSample p x).loaded = s.loaded ∧
    (∀ y, (s.portTakesSample p x).portSet y = s.portSet y) ∧
    (s.portTakesSample p x).seconds = s.seconds ∧
    (s.portTakesSample p x).inhibited = s.inhibited ∧
    (s.portTakesSample p x).inhibitSeconds = s.inhibitSeconds ∧
    (∀ cc, (s.portTakesSample p x).rcv cc = s.rcv cc ∧ (s.portTakesSample p x).accepting cc = s.accepting cc ∧ (s.portTakesSample p x).level cc = s.level cc ∧
      (s.portTakesSample p x).band cc = s.band cc) ∧
    (s.portTakesSample p x).flowingPeers = s.flowingPeers ∧
    (s.portTakesSample p x).waitingPeers = s.waitingPeers ∧
    (∀ aa, (s.portTakesSample p x).peer aa = s.peer aa) ∧
    (∀ cc, (s.portTakesSample p x).noOther cc = s.noOther cc) ∧
    (∀ ll, (s.portTakesSample p x).recordLink ll = s.recordLink ll) := by
  simp [State.portSet, State.cfg, State.loaded, State.seconds, State.inhibited, State.inhibitSeconds, State.port, State.accepting, State.level, State.band, State.peer, State.flowingPeers, State.waitingPeers, State.peersIn, State.noOther, rcv_eq, link_eq]

@[simp] theorem portTakesSample_flag (p : PortId) (x : Sample) (s : State) (e : EventKind) (he : s.op.flag e = true) :
    (s.portTakesSample p x).op.flag e = true := by
  unfold State.portTakesSample
  try dsimp only
  (repeat' split) <;> simp (maxDischargeDepth := 9) [he]

@[simp] theorem deliverShare_frame (d : Nat) (l : List Share) (x : Share) (s : State) :
    (s.deliverShare d l x).clock = s.clock ∧ (s.deliverShare d l x).loader = s.loader ∧
    (s.deliverShare d l x).store = s.store ∧ (s.deliverShare d l x).ana = s.ana ∧
    (s.deliverShare d l x).halo = s.halo ∧ (s.deliverShare d l x).hydro = s.hydro ∧
    (s.deliverShare d l x).agent = s.agent ∧ (s.deliverShare d l x).line = s.line ∧
    (s.deliverShare d l x).peers = s.peers ∧ (s.deliverShare d l x).lc = s.lc ∧
    (s.deliverShare d l x).field = s.field ∧ (s.deliverShare d l x).op = s.op ∧
    (s.deliverShare d l x).scaleLink = s.scaleLink ∧ (s.deliverShare d l x).anaLink = s.anaLink ∧
    (s.deliverShare d l x).pending = s.pending ∧ (s.deliverShare d l x).free = s.free := by
  simp [State.deliverShare]

@[simp] theorem deliverShare_views (d : Nat) (l : List Share) (x : Share) (s : State) :
    (s.deliverShare d l x).cfg = s.cfg ∧
    (s.deliverShare d l x).loaded = s.loaded ∧
    (∀ y, (s.deliverShare d l x).portSet y = s.portSet y) ∧
    (s.deliverShare d l x).seconds = s.seconds ∧
    (s.deliverShare d l x).inhibited = s.inhibited ∧
    (s.deliverShare d l x).inhibitSeconds = s.inhibitSeconds ∧
    (∀ cc, (s.deliverShare d l x).rcv cc = s.rcv cc ∧ (s.deliverShare d l x).accepting cc = s.accepting cc ∧ (s.deliverShare d l x).level cc = s.level cc ∧
      (s.deliverShare d l x).band cc = s.band cc) ∧
    (s.deliverShare d l x).flowingPeers = s.flowingPeers ∧
    (s.deliverShare d l x).waitingPeers = s.waitingPeers ∧
    (∀ aa, (s.deliverShare d l x).peer aa = s.peer aa) ∧
    (∀ cc, (s.deliverShare d l x).noOther cc = s.noOther cc) ∧
    (∀ ll, (s.deliverShare d l x).recordLink ll = s.recordLink ll) := by
  simp [State.portSet, State.cfg, State.loaded, State.seconds, State.inhibited, State.inhibitSeconds, State.port, State.accepting, State.level, State.band, State.peer, State.flowingPeers, State.waitingPeers, State.peersIn, State.noOther, rcv_eq, link_eq]

/-! ### Receivers and the header agent -/

@[simp] theorem goTo_frame (d : DState) (a : Agent) :
    (a.goTo d).sought = a.sought ∧ (a.goTo d).key = a.key ∧ (a.goTo d).viewClass = a.viewClass ∧
    (a.goTo d).viewSerial = a.viewSerial ∧ (a.goTo d).owner = a.owner ∧ (a.goTo d).heldH = a.heldH ∧
    (a.goTo d).heldK = a.heldK ∧ (a.goTo d).reasonH = a.reasonH ∧ (a.goTo d).reasonK = a.reasonK ∧
    (a.goTo d).overpressure = a.overpressure ∧ (a.goTo d).headerFault = a.headerFault ∧
    (a.goTo d).conflict = a.conflict ∧ (a.goTo d).overRepeat = a.overRepeat ∧
    (a.goTo d).conflictRepeat = a.conflictRepeat ∧ (a.goTo d).purgeSerial = a.purgeSerial ∧
    (a.goTo d).dischH = a.dischH ∧ (a.goTo d).dischK = a.dischK ∧ (a.goTo d).purgeV = a.purgeV ∧
    (a.goTo d).selH = a.selH ∧ (a.goTo d).selK = a.selK ∧ (a.goTo d).contended = a.contended ∧
    (a.goTo d).reserved = a.reserved ∧ (a.goTo d).entry = a.entry ∧ (a.goTo d).dstate = d ∧
    (a.goTo d).window = .stopped ∧ (a.goTo d).drain = .stopped ∧ (a.goTo d).purge = .stopped ∧
    (a.goTo d).backoff = .stopped := by
  simp [Agent.goTo]

@[simp] theorem setHold_frame (h : HoldClass) (a : Agent) :
    (a.setHold h).sought = a.sought ∧ (a.setHold h).key = a.key ∧ (a.setHold h).viewClass = a.viewClass ∧
    (a.setHold h).viewSerial = a.viewSerial ∧ (a.setHold h).owner = a.owner ∧ (a.setHold h).reasonH = a.reasonH ∧
    (a.setHold h).reasonK = a.reasonK ∧ (a.setHold h).overpressure = a.overpressure ∧
    (a.setHold h).headerFault = a.headerFault ∧ (a.setHold h).conflict = a.conflict ∧
    (a.setHold h).overRepeat = a.overRepeat ∧ (a.setHold h).conflictRepeat = a.conflictRepeat ∧
    (a.setHold h).purgeSerial = a.purgeSerial ∧ (a.setHold h).dischH = a.dischH ∧ (a.setHold h).dischK = a.dischK ∧
    (a.setHold h).purgeV = a.purgeV ∧ (a.setHold h).selH = a.selH ∧ (a.setHold h).selK = a.selK ∧
    (a.setHold h).contended = a.contended ∧ (a.setHold h).reserved = a.reserved ∧ (a.setHold h).entry = a.entry ∧
    (a.setHold h).window = a.window ∧ (a.setHold h).drain = a.drain ∧ (a.setHold h).purge = a.purge ∧
    (a.setHold h).backoff = a.backoff ∧ (a.setHold h).dstate = a.dstate := by
  cases h <;> simp [Agent.setHold, HoldClass.bars]

@[simp] theorem recordReason_frame (h : HoldClass) (r : HoldReason) (a : Agent) :
    (a.recordReason h r).sought = a.sought ∧ (a.recordReason h r).key = a.key ∧
    (a.recordReason h r).viewClass = a.viewClass ∧ (a.recordReason h r).viewSerial = a.viewSerial ∧
    (a.recordReason h r).owner = a.owner ∧ (a.recordReason h r).heldH = a.heldH ∧
    (a.recordReason h r).heldK = a.heldK ∧ (a.recordReason h r).overpressure = a.overpressure ∧
    (a.recordReason h r).headerFault = a.headerFault ∧ (a.recordReason h r).conflict = a.conflict ∧
    (a.recordReason h r).overRepeat = a.overRepeat ∧ (a.recordReason h r).conflictRepeat = a.conflictRepeat ∧
    (a.recordReason h r).purgeSerial = a.purgeSerial ∧ (a.recordReason h r).dischH = a.dischH ∧
    (a.recordReason h r).dischK = a.dischK ∧ (a.recordReason h r).purgeV = a.purgeV ∧
    (a.recordReason h r).selH = a.selH ∧ (a.recordReason h r).selK = a.selK ∧
    (a.recordReason h r).contended = a.contended ∧ (a.recordReason h r).reserved = a.reserved ∧
    (a.recordReason h r).entry = a.entry ∧ (a.recordReason h r).window = a.window ∧
    (a.recordReason h r).drain = a.drain ∧ (a.recordReason h r).purge = a.purge ∧
    (a.recordReason h r).backoff = a.backoff ∧ (a.recordReason h r).dstate = a.dstate := by
  cases h <;> simp [Agent.recordReason, HoldClass.bars]

@[simp] theorem shut_frame (a : Agent) :
    (a.shut).sought = a.sought ∧ (a.shut).key = a.key ∧ (a.shut).viewClass = a.viewClass ∧
    (a.shut).viewSerial = a.viewSerial ∧ (a.shut).owner = a.owner ∧ (a.shut).heldH = a.heldH ∧
    (a.shut).heldK = a.heldK ∧ (a.shut).reasonH = a.reasonH ∧ (a.shut).reasonK = a.reasonK ∧
    (a.shut).overpressure = a.overpressure ∧ (a.shut).headerFault = a.headerFault ∧
    (a.shut).conflict = a.conflict ∧ (a.shut).overRepeat = a.overRepeat ∧
    (a.shut).conflictRepeat = a.conflictRepeat ∧ (a.shut).purgeSerial = a.purgeSerial ∧
    (a.shut).purgeV = a.purgeV ∧ (a.shut).contended = a.contended ∧ (a.shut).reserved = a.reserved ∧
    (a.shut).entry = a.entry ∧ (a.shut).window = a.window ∧ (a.shut).drain = a.drain ∧ (a.shut).purge = a.purge ∧
    (a.shut).backoff = a.backoff ∧ (a.shut).dstate = a.dstate ∧ a.shut.dischH = false ∧ a.shut.dischK = false ∧
    a.shut.selH = false ∧ a.shut.selK = false := by
  simp [Agent.shut]

@[simp] theorem flowOut_frame (c : GasClass) (a : Agent) :
    (a.flowOut c).sought = a.sought ∧ (a.flowOut c).key = a.key ∧ (a.flowOut c).viewClass = a.viewClass ∧
    (a.flowOut c).viewSerial = a.viewSerial ∧ (a.flowOut c).owner = a.owner ∧ (a.flowOut c).heldH = a.heldH ∧
    (a.flowOut c).heldK = a.heldK ∧ (a.flowOut c).reasonH = a.reasonH ∧ (a.flowOut c).reasonK = a.reasonK ∧
    (a.flowOut c).overpressure = a.overpressure ∧ (a.flowOut c).headerFault = a.headerFault ∧
    (a.flowOut c).conflict = a.conflict ∧ (a.flowOut c).overRepeat = a.overRepeat ∧
    (a.flowOut c).conflictRepeat = a.conflictRepeat ∧ (a.flowOut c).purgeSerial = a.purgeSerial ∧
    (a.flowOut c).purgeV = a.purgeV ∧ (a.flowOut c).contended = a.contended ∧ (a.flowOut c).reserved = a.reserved ∧
    (a.flowOut c).entry = a.entry ∧ (a.flowOut c).window = a.window ∧ (a.flowOut c).drain = a.drain ∧
    (a.flowOut c).purge = a.purge ∧ (a.flowOut c).backoff = a.backoff ∧ (a.flowOut c).dstate = a.dstate := by
  cases c <;> simp [Agent.flowOut]

@[simp] theorem receiverFlowStart_frame (c : GasClass) (s : State) :
    ((s.receiverFlowStart c).1).clock = s.clock ∧ ((s.receiverFlowStart c).1).loader = s.loader ∧
    ((s.receiverFlowStart c).1).store = s.store ∧ ((s.receiverFlowStart c).1).ana = s.ana ∧
    ((s.receiverFlowStart c).1).agent = s.agent ∧ ((s.receiverFlowStart c).1).line = s.line ∧
    ((s.receiverFlowStart c).1).peers = s.peers ∧ ((s.receiverFlowStart c).1).lc = s.lc ∧
    ((s.receiverFlowStart c).1).field = s.field ∧ ((s.receiverFlowStart c).1).op = s.op ∧
    ((s.receiverFlowStart c).1).scaleLink = s.scaleLink ∧ ((s.receiverFlowStart c).1).anaLink = s.anaLink ∧
    ((s.receiverFlowStart c).1).pending = s.pending ∧ ((s.receiverFlowStart c).1).free = s.free ∧
    ((s.receiverFlowStart c).1).halo.first = s.halo.first ∧
    ((s.receiverFlowStart c).1).halo.latest = s.halo.latest ∧
    ((s.receiverFlowStart c).1).halo.overMark = s.halo.overMark ∧
    ((s.receiverFlowStart c).1).halo.baseline = s.halo.baseline ∧
    ((s.receiverFlowStart c).1).halo.last = s.halo.last ∧
    ((s.receiverFlowStart c).1).halo.attributed = s.halo.attributed ∧
    ((s.receiverFlowStart c).1).halo.unattributed = s.halo.unattributed ∧
    ((s.receiverFlowStart c).1).halo.outflow = s.halo.outflow ∧
    ((s.receiverFlowStart c).1).halo.drift = s.halo.drift ∧
    ((s.receiverFlowStart c).1).halo.silence = s.halo.silence ∧
    ((s.receiverFlowStart c).1).hydro.first = s.hydro.first ∧
    ((s.receiverFlowStart c).1).hydro.latest = s.hydro.latest ∧
    ((s.receiverFlowStart c).1).hydro.overMark = s.hydro.overMark ∧
    ((s.receiverFlowStart c).1).hydro.baseline = s.hydro.baseline ∧
    ((s.receiverFlowStart c).1).hydro.last = s.hydro.last ∧
    ((s.receiverFlowStart c).1).hydro.attributed = s.hydro.attributed ∧
    ((s.receiverFlowStart c).1).hydro.unattributed = s.hydro.unattributed ∧
    ((s.receiverFlowStart c).1).hydro.outflow = s.hydro.outflow ∧
    ((s.receiverFlowStart c).1).hydro.drift = s.hydro.drift ∧
    ((s.receiverFlowStart c).1).hydro.silence = s.hydro.silence := by
  unfold State.receiverFlowStart
  dsimp only
  split <;> cases c <;> simp [State.setRcv, State.rcv, Receiver.startFlow]

@[simp] theorem receiverFlowStart_views (c : GasClass) (s : State) :
    ((s.receiverFlowStart c).1).cfg = s.cfg ∧
    ((s.receiverFlowStart c).1).loaded = s.loaded ∧
    (∀ y, ((s.receiverFlowStart c).1).portSet y = s.portSet y) ∧
    ((s.receiverFlowStart c).1).seconds = s.seconds ∧
    ((s.receiverFlowStart c).1).inhibited = s.inhibited ∧
    ((s.receiverFlowStart c).1).inhibitSeconds = s.inhibitSeconds ∧
    ((s.receiverFlowStart c).1).flowingPeers = s.flowingPeers ∧
    ((s.receiverFlowStart c).1).waitingPeers = s.waitingPeers ∧
    (∀ aa, ((s.receiverFlowStart c).1).peer aa = s.peer aa) ∧
    (∀ cc, ((s.receiverFlowStart c).1).noOther cc = s.noOther cc) ∧
    (∀ ll, ((s.receiverFlowStart c).1).recordLink ll = s.recordLink ll) := by
  simp [State.portSet, State.cfg, State.loaded, State.seconds, State.inhibited, State.inhibitSeconds, State.port, State.accepting, State.level, State.band, State.peer, State.flowingPeers, State.waitingPeers, State.peersIn, State.noOther, rcv_eq, link_eq]

@[simp] theorem receiverFlowEnd_frame (c : GasClass) (s : State) :
    (s.receiverFlowEnd c).clock = s.clock ∧ (s.receiverFlowEnd c).loader = s.loader ∧
    (s.receiverFlowEnd c).store = s.store ∧ (s.receiverFlowEnd c).ana = s.ana ∧
    (s.receiverFlowEnd c).agent = s.agent ∧ (s.receiverFlowEnd c).line = s.line ∧
    (s.receiverFlowEnd c).peers = s.peers ∧ (s.receiverFlowEnd c).lc = s.lc ∧
    (s.receiverFlowEnd c).field = s.field ∧ (s.receiverFlowEnd c).op = s.op ∧
    (s.receiverFlowEnd c).scaleLink = s.scaleLink ∧ (s.receiverFlowEnd c).anaLink = s.anaLink ∧
    (s.receiverFlowEnd c).pending = s.pending ∧ (s.receiverFlowEnd c).free = s.free ∧
    (s.receiverFlowEnd c).halo.first = s.halo.first ∧ (s.receiverFlowEnd c).halo.latest = s.halo.latest ∧
    (s.receiverFlowEnd c).halo.overMark = s.halo.overMark ∧ (s.receiverFlowEnd c).halo.baseline = s.halo.baseline ∧
    (s.receiverFlowEnd c).halo.last = s.halo.last ∧ (s.receiverFlowEnd c).halo.attributed = s.halo.attributed ∧
    (s.receiverFlowEnd c).halo.unattributed = s.halo.unattributed ∧
    (s.receiverFlowEnd c).halo.outflow = s.halo.outflow ∧ (s.receiverFlowEnd c).halo.drift = s.halo.drift ∧
    (s.receiverFlowEnd c).halo.silence = s.halo.silence ∧ (s.receiverFlowEnd c).hydro.first = s.hydro.first ∧
    (s.receiverFlowEnd c).hydro.latest = s.hydro.latest ∧ (s.receiverFlowEnd c).hydro.overMark = s.hydro.overMark ∧
    (s.receiverFlowEnd c).hydro.baseline = s.hydro.baseline ∧ (s.receiverFlowEnd c).hydro.last = s.hydro.last ∧
    (s.receiverFlowEnd c).hydro.attributed = s.hydro.attributed ∧
    (s.receiverFlowEnd c).hydro.unattributed = s.hydro.unattributed ∧
    (s.receiverFlowEnd c).hydro.outflow = s.hydro.outflow ∧ (s.receiverFlowEnd c).hydro.drift = s.hydro.drift ∧
    (s.receiverFlowEnd c).hydro.silence = s.hydro.silence := by
  unfold State.receiverFlowEnd
  dsimp only
  split <;> cases c <;> simp [State.setRcv, State.rcv, Receiver.checkRequest, Receiver.dropFlow]

@[simp] theorem receiverFlowEnd_views (c : GasClass) (s : State) :
    (s.receiverFlowEnd c).cfg = s.cfg ∧
    (s.receiverFlowEnd c).loaded = s.loaded ∧
    (∀ y, (s.receiverFlowEnd c).portSet y = s.portSet y) ∧
    (s.receiverFlowEnd c).seconds = s.seconds ∧
    (s.receiverFlowEnd c).inhibited = s.inhibited ∧
    (s.receiverFlowEnd c).inhibitSeconds = s.inhibitSeconds ∧
    (s.receiverFlowEnd c).flowingPeers = s.flowingPeers ∧
    (s.receiverFlowEnd c).waitingPeers = s.waitingPeers ∧
    (∀ aa, (s.receiverFlowEnd c).peer aa = s.peer aa) ∧
    (∀ cc, (s.receiverFlowEnd c).noOther cc = s.noOther cc) ∧
    (∀ ll, (s.receiverFlowEnd c).recordLink ll = s.recordLink ll) := by
  simp [State.portSet, State.cfg, State.loaded, State.seconds, State.inhibited, State.inhibitSeconds, State.port, State.accepting, State.level, State.band, State.peer, State.flowingPeers, State.waitingPeers, State.peersIn, State.noOther, rcv_eq, link_eq]

@[simp] theorem offerHoldOnly_frame (h : HoldClass) (r : HoldReason) (s : State) :
    (s.offerHoldOnly h r).clock = s.clock ∧ (s.offerHoldOnly h r).loader = s.loader ∧
    (s.offerHoldOnly h r).ports = s.ports ∧ (s.offerHoldOnly h r).store = s.store ∧
    (s.offerHoldOnly h r).ana = s.ana ∧ (s.offerHoldOnly h r).halo = s.halo ∧
    (s.offerHoldOnly h r).hydro = s.hydro ∧ (s.offerHoldOnly h r).peers = s.peers ∧
    (s.offerHoldOnly h r).lc = s.lc ∧ (s.offerHoldOnly h r).field = s.field ∧
    (s.offerHoldOnly h r).scaleLink = s.scaleLink ∧ (s.offerHoldOnly h r).anaLink = s.anaLink ∧
    (s.offerHoldOnly h r).pending = s.pending ∧ (s.offerHoldOnly h r).free = s.free ∧
    (s.offerHoldOnly h r).agent.viewClass = s.agent.viewClass ∧
    (s.offerHoldOnly h r).agent.viewSerial = s.agent.viewSerial ∧
    (s.offerHoldOnly h r).agent.owner = s.agent.owner ∧ (s.offerHoldOnly h r).agent.reasonH = s.agent.reasonH ∧
    (s.offerHoldOnly h r).agent.reasonK = s.agent.reasonK ∧
    (s.offerHoldOnly h r).agent.overpressure = s.agent.overpressure ∧
    (s.offerHoldOnly h r).agent.headerFault = s.agent.headerFault ∧
    (s.offerHoldOnly h r).agent.conflict = s.agent.conflict ∧
    (s.offerHoldOnly h r).agent.overRepeat = s.agent.overRepeat ∧
    (s.offerHoldOnly h r).agent.conflictRepeat = s.agent.conflictRepeat ∧
    (s.offerHoldOnly h r).agent.purgeSerial = s.agent.purgeSerial ∧
    (s.offerHoldOnly h r).agent.dischH = s.agent.dischH ∧ (s.offerHoldOnly h r).agent.dischK = s.agent.dischK ∧
    (s.offerHoldOnly h r).agent.purgeV = s.agent.purgeV ∧ (s.offerHoldOnly h r).agent.selH = s.agent.selH ∧
    (s.offerHoldOnly h r).agent.selK = s.agent.selK ∧ (s.offerHoldOnly h r).line.framer = s.line.framer ∧
    (s.offerHoldOnly h r).line.listenIn = s.line.listenIn ∧ (s.offerHoldOnly h r).line.listenT = s.line.listenT ∧
    (s.offerHoldOnly h r).line.clash = s.line.clash ∧ (s.offerHoldOnly h r).line.clashT = s.line.clashT ∧
    (s.offerHoldOnly h r).line.beaconT = s.line.beaconT ∧ (s.offerHoldOnly h r).line.rxErrors = s.line.rxErrors ∧
    (s.offerHoldOnly h r).line.collisions = s.line.collisions ∧ (s.offerHoldOnly h r).op.framer = s.op.framer ∧
    (s.offerHoldOnly h r).op.gap = s.op.gap ∧ (s.offerHoldOnly h r).op.tx = s.op.tx ∧
    (s.offerHoldOnly h r).op.owed = s.op.owed := by
  simp [State.offerHoldOnly]

@[simp] theorem offerHoldOnly_views (h : HoldClass) (r : HoldReason) (s : State) :
    (s.offerHoldOnly h r).cfg = s.cfg ∧
    (s.offerHoldOnly h r).loaded = s.loaded ∧
    (∀ y, (s.offerHoldOnly h r).portSet y = s.portSet y) ∧
    (s.offerHoldOnly h r).seconds = s.seconds ∧
    (s.offerHoldOnly h r).inhibited = s.inhibited ∧
    (s.offerHoldOnly h r).inhibitSeconds = s.inhibitSeconds ∧
    (∀ pp, (s.offerHoldOnly h r).port pp = s.port pp) ∧
    (∀ cc, (s.offerHoldOnly h r).rcv cc = s.rcv cc ∧ (s.offerHoldOnly h r).accepting cc = s.accepting cc ∧ (s.offerHoldOnly h r).level cc = s.level cc ∧
      (s.offerHoldOnly h r).band cc = s.band cc) ∧
    (s.offerHoldOnly h r).flowingPeers = s.flowingPeers ∧
    (s.offerHoldOnly h r).waitingPeers = s.waitingPeers ∧
    (∀ aa, (s.offerHoldOnly h r).peer aa = s.peer aa) ∧
    (∀ cc, (s.offerHoldOnly h r).noOther cc = s.noOther cc) ∧
    (∀ ll, (s.offerHoldOnly h r).recordLink ll = s.recordLink ll) := by
  simp [State.portSet, State.cfg, State.loaded, State.seconds, State.inhibited, State.inhibitSeconds, State.port, State.accepting, State.level, State.band, State.peer, State.flowingPeers, State.waitingPeers, State.peersIn, State.noOther, rcv_eq, link_eq]

@[simp] theorem offerHoldOnly_flag (h : HoldClass) (r : HoldReason) (s : State) (e : EventKind) (he : s.op.flag e = true) :
    (s.offerHoldOnly h r).op.flag e = true := by
  unfold State.offerHoldOnly
  try dsimp only
  (repeat' split) <;> simp (maxDischargeDepth := 9) [he]

@[simp] theorem noticeChange_frame (d : DState) (s : State) :
    (s.noticeChange d).clock = s.clock ∧ (s.noticeChange d).loader = s.loader ∧
    (s.noticeChange d).ports = s.ports ∧ (s.noticeChange d).store = s.store ∧ (s.noticeChange d).ana = s.ana ∧
    (s.noticeChange d).halo = s.halo ∧ (s.noticeChange d).hydro = s.hydro ∧ (s.noticeChange d).agent = s.agent ∧
    (s.noticeChange d).peers = s.peers ∧ (s.noticeChange d).lc = s.lc ∧ (s.noticeChange d).field = s.field ∧
    (s.noticeChange d).scaleLink = s.scaleLink ∧ (s.noticeChange d).anaLink = s.anaLink ∧
    (s.noticeChange d).pending = s.pending ∧ (s.noticeChange d).free = s.free ∧
    (s.noticeChange d).line.framer = s.line.framer ∧ (s.noticeChange d).line.listenIn = s.line.listenIn ∧
    (s.noticeChange d).line.listenT = s.line.listenT ∧ (s.noticeChange d).line.clash = s.line.clash ∧
    (s.noticeChange d).line.clashT = s.line.clashT ∧ (s.noticeChange d).line.beaconT = s.line.beaconT ∧
    (s.noticeChange d).line.rxErrors = s.line.rxErrors ∧ (s.noticeChange d).line.collisions = s.line.collisions ∧
    (s.noticeChange d).op.framer = s.op.framer ∧ (s.noticeChange d).op.gap = s.op.gap ∧
    (s.noticeChange d).op.tx = s.op.tx ∧ (s.noticeChange d).op.owed = s.op.owed := by
  unfold State.noticeChange
  try dsimp only
  (repeat' split) <;> simp

@[simp] theorem noticeChange_views (d : DState) (s : State) :
    (s.noticeChange d).cfg = s.cfg ∧
    (s.noticeChange d).loaded = s.loaded ∧
    (∀ y, (s.noticeChange d).portSet y = s.portSet y) ∧
    (s.noticeChange d).seconds = s.seconds ∧
    (s.noticeChange d).inhibited = s.inhibited ∧
    (s.noticeChange d).inhibitSeconds = s.inhibitSeconds ∧
    (∀ pp, (s.noticeChange d).port pp = s.port pp) ∧
    (∀ cc, (s.noticeChange d).rcv cc = s.rcv cc ∧ (s.noticeChange d).accepting cc = s.accepting cc ∧ (s.noticeChange d).level cc = s.level cc ∧
      (s.noticeChange d).band cc = s.band cc) ∧
    (s.noticeChange d).flowingPeers = s.flowingPeers ∧
    (s.noticeChange d).waitingPeers = s.waitingPeers ∧
    (∀ aa, (s.noticeChange d).peer aa = s.peer aa) ∧
    (∀ cc, (s.noticeChange d).noOther cc = s.noOther cc) ∧
    (∀ ll, (s.noticeChange d).recordLink ll = s.recordLink ll) := by
  simp [State.portSet, State.cfg, State.loaded, State.seconds, State.inhibited, State.inhibitSeconds, State.port, State.accepting, State.level, State.band, State.peer, State.flowingPeers, State.waitingPeers, State.peersIn, State.noOther, rcv_eq, link_eq]

@[simp] theorem noticeChange_flag (d : DState) (s : State) (e : EventKind) (he : s.op.flag e = true) :
    (s.noticeChange d).op.flag e = true := by
  unfold State.noticeChange
  try dsimp only
  (repeat' split) <;> simp (maxDischargeDepth := 9) [he]

@[simp] theorem toBackoff_frame (b : Bool) (s : State) :
    (s.toBackoff b).clock = s.clock ∧ (s.toBackoff b).loader = s.loader ∧ (s.toBackoff b).ports = s.ports ∧
    (s.toBackoff b).store = s.store ∧ (s.toBackoff b).ana = s.ana ∧ (s.toBackoff b).halo = s.halo ∧
    (s.toBackoff b).hydro = s.hydro ∧ (s.toBackoff b).peers = s.peers ∧ (s.toBackoff b).lc = s.lc ∧
    (s.toBackoff b).field = s.field ∧ (s.toBackoff b).scaleLink = s.scaleLink ∧
    (s.toBackoff b).anaLink = s.anaLink ∧ (s.toBackoff b).pending = s.pending ∧ (s.toBackoff b).free = s.free ∧
    (s.toBackoff b).agent.viewClass = s.agent.viewClass ∧ (s.toBackoff b).agent.viewSerial = s.agent.viewSerial ∧
    (s.toBackoff b).agent.owner = s.agent.owner ∧ (s.toBackoff b).agent.heldH = s.agent.heldH ∧
    (s.toBackoff b).agent.heldK = s.agent.heldK ∧ (s.toBackoff b).agent.reasonH = s.agent.reasonH ∧
    (s.toBackoff b).agent.reasonK = s.agent.reasonK ∧ (s.toBackoff b).agent.overpressure = s.agent.overpressure ∧
    (s.toBackoff b).agent.headerFault = s.agent.headerFault ∧ (s.toBackoff b).agent.conflict = s.agent.conflict ∧
    (s.toBackoff b).agent.overRepeat = s.agent.overRepeat ∧
    (s.toBackoff b).agent.conflictRepeat = s.agent.conflictRepeat ∧
    (s.toBackoff b).agent.purgeSerial = s.agent.purgeSerial ∧ (s.toBackoff b).agent.dischH = s.agent.dischH ∧
    (s.toBackoff b).agent.dischK = s.agent.dischK ∧ (s.toBackoff b).agent.purgeV = s.agent.purgeV ∧
    (s.toBackoff b).agent.selH = s.agent.selH ∧ (s.toBackoff b).agent.selK = s.agent.selK ∧
    (s.toBackoff b).line.framer = s.line.framer ∧ (s.toBackoff b).line.listenIn = s.line.listenIn ∧
    (s.toBackoff b).line.listenT = s.line.listenT ∧ (s.toBackoff b).line.clash = s.line.clash ∧
    (s.toBackoff b).line.clashT = s.line.clashT ∧ (s.toBackoff b).line.beaconT = s.line.beaconT ∧
    (s.toBackoff b).line.rxErrors = s.line.rxErrors ∧ (s.toBackoff b).line.collisions = s.line.collisions ∧
    (s.toBackoff b).op.framer = s.op.framer ∧ (s.toBackoff b).op.gap = s.op.gap ∧ (s.toBackoff b).op.tx = s.op.tx ∧
    (s.toBackoff b).op.owed = s.op.owed := by
  simp [State.toBackoff]

@[simp] theorem toBackoff_views (b : Bool) (s : State) :
    (s.toBackoff b).cfg = s.cfg ∧
    (s.toBackoff b).loaded = s.loaded ∧
    (∀ y, (s.toBackoff b).portSet y = s.portSet y) ∧
    (s.toBackoff b).seconds = s.seconds ∧
    (s.toBackoff b).inhibited = s.inhibited ∧
    (s.toBackoff b).inhibitSeconds = s.inhibitSeconds ∧
    (∀ pp, (s.toBackoff b).port pp = s.port pp) ∧
    (∀ cc, (s.toBackoff b).rcv cc = s.rcv cc ∧ (s.toBackoff b).accepting cc = s.accepting cc ∧ (s.toBackoff b).level cc = s.level cc ∧
      (s.toBackoff b).band cc = s.band cc) ∧
    (s.toBackoff b).flowingPeers = s.flowingPeers ∧
    (s.toBackoff b).waitingPeers = s.waitingPeers ∧
    (∀ aa, (s.toBackoff b).peer aa = s.peer aa) ∧
    (∀ cc, (s.toBackoff b).noOther cc = s.noOther cc) ∧
    (∀ ll, (s.toBackoff b).recordLink ll = s.recordLink ll) := by
  simp [State.portSet, State.cfg, State.loaded, State.seconds, State.inhibited, State.inhibitSeconds, State.port, State.accepting, State.level, State.band, State.peer, State.flowingPeers, State.waitingPeers, State.peersIn, State.noOther, rcv_eq, link_eq]

@[simp] theorem toBackoff_flag (b : Bool) (s : State) (e : EventKind) (he : s.op.flag e = true) :
    (s.toBackoff b).op.flag e = true := by
  unfold State.toBackoff
  try dsimp only
  (repeat' split) <;> simp (maxDischargeDepth := 9) [he]

@[simp] theorem toListen_frame (u : Purpose) (c : GasClass) (s : State) :
    (s.toListen u c).clock = s.clock ∧ (s.toListen u c).loader = s.loader ∧ (s.toListen u c).ports = s.ports ∧
    (s.toListen u c).store = s.store ∧ (s.toListen u c).ana = s.ana ∧ (s.toListen u c).halo = s.halo ∧
    (s.toListen u c).hydro = s.hydro ∧ (s.toListen u c).peers = s.peers ∧ (s.toListen u c).lc = s.lc ∧
    (s.toListen u c).field = s.field ∧ (s.toListen u c).scaleLink = s.scaleLink ∧
    (s.toListen u c).anaLink = s.anaLink ∧ (s.toListen u c).pending = s.pending ∧ (s.toListen u c).free = s.free ∧
    (s.toListen u c).agent.viewClass = s.agent.viewClass ∧ (s.toListen u c).agent.viewSerial = s.agent.viewSerial ∧
    (s.toListen u c).agent.owner = s.agent.owner ∧ (s.toListen u c).agent.heldH = s.agent.heldH ∧
    (s.toListen u c).agent.heldK = s.agent.heldK ∧ (s.toListen u c).agent.reasonH = s.agent.reasonH ∧
    (s.toListen u c).agent.reasonK = s.agent.reasonK ∧ (s.toListen u c).agent.overpressure = s.agent.overpressure ∧
    (s.toListen u c).agent.headerFault = s.agent.headerFault ∧ (s.toListen u c).agent.conflict = s.agent.conflict ∧
    (s.toListen u c).agent.overRepeat = s.agent.overRepeat ∧
    (s.toListen u c).agent.conflictRepeat = s.agent.conflictRepeat ∧
    (s.toListen u c).agent.purgeSerial = s.agent.purgeSerial ∧ (s.toListen u c).agent.dischH = s.agent.dischH ∧
    (s.toListen u c).agent.dischK = s.agent.dischK ∧ (s.toListen u c).agent.purgeV = s.agent.purgeV ∧
    (s.toListen u c).agent.selH = s.agent.selH ∧ (s.toListen u c).agent.selK = s.agent.selK ∧
    (s.toListen u c).line.framer = s.line.framer ∧ (s.toListen u c).line.listenIn = s.line.listenIn ∧
    (s.toListen u c).line.listenT = s.line.listenT ∧ (s.toListen u c).line.clash = s.line.clash ∧
    (s.toListen u c).line.clashT = s.line.clashT ∧ (s.toListen u c).line.beaconT = s.line.beaconT ∧
    (s.toListen u c).line.rxErrors = s.line.rxErrors ∧ (s.toListen u c).line.collisions = s.line.collisions ∧
    (s.toListen u c).op.framer = s.op.framer ∧ (s.toListen u c).op.gap = s.op.gap ∧
    (s.toListen u c).op.tx = s.op.tx ∧ (s.toListen u c).op.owed = s.op.owed := by
  unfold State.toListen
  try dsimp only
  (repeat' split) <;> simp

@[simp] theorem toListen_views (u : Purpose) (c : GasClass) (s : State) :
    (s.toListen u c).cfg = s.cfg ∧
    (s.toListen u c).loaded = s.loaded ∧
    (∀ y, (s.toListen u c).portSet y = s.portSet y) ∧
    (s.toListen u c).seconds = s.seconds ∧
    (s.toListen u c).inhibited = s.inhibited ∧
    (s.toListen u c).inhibitSeconds = s.inhibitSeconds ∧
    (∀ pp, (s.toListen u c).port pp = s.port pp) ∧
    (∀ cc, (s.toListen u c).rcv cc = s.rcv cc ∧ (s.toListen u c).accepting cc = s.accepting cc ∧ (s.toListen u c).level cc = s.level cc ∧
      (s.toListen u c).band cc = s.band cc) ∧
    (s.toListen u c).flowingPeers = s.flowingPeers ∧
    (s.toListen u c).waitingPeers = s.waitingPeers ∧
    (∀ aa, (s.toListen u c).peer aa = s.peer aa) ∧
    (∀ cc, (s.toListen u c).noOther cc = s.noOther cc) ∧
    (∀ ll, (s.toListen u c).recordLink ll = s.recordLink ll) := by
  simp [State.portSet, State.cfg, State.loaded, State.seconds, State.inhibited, State.inhibitSeconds, State.port, State.accepting, State.level, State.band, State.peer, State.flowingPeers, State.waitingPeers, State.peersIn, State.noOther, rcv_eq, link_eq]

@[simp] theorem toListen_flag (u : Purpose) (c : GasClass) (s : State) (e : EventKind) (he : s.op.flag e = true) :
    (s.toListen u c).op.flag e = true := by
  unfold State.toListen
  try dsimp only
  (repeat' split) <;> simp (maxDischargeDepth := 9) [he]

@[simp] theorem idleCheck_frame (s : State) :
    (s.idleCheck).clock = s.clock ∧ (s.idleCheck).loader = s.loader ∧ (s.idleCheck).ports = s.ports ∧
    (s.idleCheck).store = s.store ∧ (s.idleCheck).ana = s.ana ∧ (s.idleCheck).halo = s.halo ∧
    (s.idleCheck).hydro = s.hydro ∧ (s.idleCheck).peers = s.peers ∧ (s.idleCheck).lc = s.lc ∧
    (s.idleCheck).field = s.field ∧ (s.idleCheck).scaleLink = s.scaleLink ∧ (s.idleCheck).anaLink = s.anaLink ∧
    (s.idleCheck).pending = s.pending ∧ (s.idleCheck).free = s.free ∧
    (s.idleCheck).agent.viewClass = s.agent.viewClass ∧ (s.idleCheck).agent.viewSerial = s.agent.viewSerial ∧
    (s.idleCheck).agent.owner = s.agent.owner ∧ (s.idleCheck).agent.heldH = s.agent.heldH ∧
    (s.idleCheck).agent.heldK = s.agent.heldK ∧ (s.idleCheck).agent.reasonH = s.agent.reasonH ∧
    (s.idleCheck).agent.reasonK = s.agent.reasonK ∧ (s.idleCheck).agent.overpressure = s.agent.overpressure ∧
    (s.idleCheck).agent.headerFault = s.agent.headerFault ∧ (s.idleCheck).agent.conflict = s.agent.conflict ∧
    (s.idleCheck).agent.overRepeat = s.agent.overRepeat ∧
    (s.idleCheck).agent.conflictRepeat = s.agent.conflictRepeat ∧
    (s.idleCheck).agent.purgeSerial = s.agent.purgeSerial ∧ (s.idleCheck).agent.dischH = s.agent.dischH ∧
    (s.idleCheck).agent.dischK = s.agent.dischK ∧ (s.idleCheck).agent.purgeV = s.agent.purgeV ∧
    (s.idleCheck).agent.selH = s.agent.selH ∧ (s.idleCheck).agent.selK = s.agent.selK ∧
    (s.idleCheck).line.framer = s.line.framer ∧ (s.idleCheck).line.listenIn = s.line.listenIn ∧
    (s.idleCheck).line.listenT = s.line.listenT ∧ (s.idleCheck).line.clash = s.line.clash ∧
    (s.idleCheck).line.clashT = s.line.clashT ∧ (s.idleCheck).line.beaconT = s.line.beaconT ∧
    (s.idleCheck).line.rxErrors = s.line.rxErrors ∧ (s.idleCheck).line.collisions = s.line.collisions ∧
    (s.idleCheck).op.framer = s.op.framer ∧ (s.idleCheck).op.gap = s.op.gap ∧ (s.idleCheck).op.tx = s.op.tx ∧
    (s.idleCheck).op.owed = s.op.owed := by
  unfold State.idleCheck
  try dsimp only
  (repeat' split) <;> simp

@[simp] theorem idleCheck_views (s : State) :
    (s.idleCheck).cfg = s.cfg ∧
    (s.idleCheck).loaded = s.loaded ∧
    (∀ y, (s.idleCheck).portSet y = s.portSet y) ∧
    (s.idleCheck).seconds = s.seconds ∧
    (s.idleCheck).inhibited = s.inhibited ∧
    (s.idleCheck).inhibitSeconds = s.inhibitSeconds ∧
    (∀ pp, (s.idleCheck).port pp = s.port pp) ∧
    (∀ cc, (s.idleCheck).rcv cc = s.rcv cc ∧ (s.idleCheck).accepting cc = s.accepting cc ∧ (s.idleCheck).level cc = s.level cc ∧
      (s.idleCheck).band cc = s.band cc) ∧
    (s.idleCheck).flowingPeers = s.flowingPeers ∧
    (s.idleCheck).waitingPeers = s.waitingPeers ∧
    (∀ aa, (s.idleCheck).peer aa = s.peer aa) ∧
    (∀ cc, (s.idleCheck).noOther cc = s.noOther cc) ∧
    (∀ ll, (s.idleCheck).recordLink ll = s.recordLink ll) := by
  simp [State.portSet, State.cfg, State.loaded, State.seconds, State.inhibited, State.inhibitSeconds, State.port, State.accepting, State.level, State.band, State.peer, State.flowingPeers, State.waitingPeers, State.peersIn, State.noOther, rcv_eq, link_eq]

@[simp] theorem idleCheck_flag (s : State) (e : EventKind) (he : s.op.flag e = true) :
    (s.idleCheck).op.flag e = true := by
  unfold State.idleCheck
  try dsimp only
  (repeat' split) <;> simp (maxDischargeDepth := 9) [he]

@[simp] theorem toIdle_frame (s : State) :
    (s.toIdle).clock = s.clock ∧ (s.toIdle).loader = s.loader ∧ (s.toIdle).ports = s.ports ∧
    (s.toIdle).store = s.store ∧ (s.toIdle).ana = s.ana ∧ (s.toIdle).halo = s.halo ∧ (s.toIdle).hydro = s.hydro ∧
    (s.toIdle).peers = s.peers ∧ (s.toIdle).lc = s.lc ∧ (s.toIdle).field = s.field ∧
    (s.toIdle).scaleLink = s.scaleLink ∧ (s.toIdle).anaLink = s.anaLink ∧ (s.toIdle).pending = s.pending ∧
    (s.toIdle).free = s.free ∧ (s.toIdle).agent.viewClass = s.agent.viewClass ∧
    (s.toIdle).agent.viewSerial = s.agent.viewSerial ∧ (s.toIdle).agent.owner = s.agent.owner ∧
    (s.toIdle).agent.heldH = s.agent.heldH ∧ (s.toIdle).agent.heldK = s.agent.heldK ∧
    (s.toIdle).agent.reasonH = s.agent.reasonH ∧ (s.toIdle).agent.reasonK = s.agent.reasonK ∧
    (s.toIdle).agent.overpressure = s.agent.overpressure ∧ (s.toIdle).agent.headerFault = s.agent.headerFault ∧
    (s.toIdle).agent.conflict = s.agent.conflict ∧ (s.toIdle).agent.overRepeat = s.agent.overRepeat ∧
    (s.toIdle).agent.conflictRepeat = s.agent.conflictRepeat ∧ (s.toIdle).agent.purgeSerial = s.agent.purgeSerial ∧
    (s.toIdle).agent.dischH = s.agent.dischH ∧ (s.toIdle).agent.dischK = s.agent.dischK ∧
    (s.toIdle).agent.purgeV = s.agent.purgeV ∧ (s.toIdle).agent.selH = s.agent.selH ∧
    (s.toIdle).agent.selK = s.agent.selK ∧ (s.toIdle).line.framer = s.line.framer ∧
    (s.toIdle).line.listenIn = s.line.listenIn ∧ (s.toIdle).line.listenT = s.line.listenT ∧
    (s.toIdle).line.clash = s.line.clash ∧ (s.toIdle).line.clashT = s.line.clashT ∧
    (s.toIdle).line.beaconT = s.line.beaconT ∧ (s.toIdle).line.rxErrors = s.line.rxErrors ∧
    (s.toIdle).line.collisions = s.line.collisions ∧ (s.toIdle).op.framer = s.op.framer ∧
    (s.toIdle).op.gap = s.op.gap ∧ (s.toIdle).op.tx = s.op.tx ∧ (s.toIdle).op.owed = s.op.owed := by
  simp [State.toIdle]

@[simp] theorem toIdle_views (s : State) :
    (s.toIdle).cfg = s.cfg ∧
    (s.toIdle).loaded = s.loaded ∧
    (∀ y, (s.toIdle).portSet y = s.portSet y) ∧
    (s.toIdle).seconds = s.seconds ∧
    (s.toIdle).inhibited = s.inhibited ∧
    (s.toIdle).inhibitSeconds = s.inhibitSeconds ∧
    (∀ pp, (s.toIdle).port pp = s.port pp) ∧
    (∀ cc, (s.toIdle).rcv cc = s.rcv cc ∧ (s.toIdle).accepting cc = s.accepting cc ∧ (s.toIdle).level cc = s.level cc ∧
      (s.toIdle).band cc = s.band cc) ∧
    (s.toIdle).flowingPeers = s.flowingPeers ∧
    (s.toIdle).waitingPeers = s.waitingPeers ∧
    (∀ aa, (s.toIdle).peer aa = s.peer aa) ∧
    (∀ cc, (s.toIdle).noOther cc = s.noOther cc) ∧
    (∀ ll, (s.toIdle).recordLink ll = s.recordLink ll) := by
  simp [State.portSet, State.cfg, State.loaded, State.seconds, State.inhibited, State.inhibitSeconds, State.port, State.accepting, State.level, State.band, State.peer, State.flowingPeers, State.waitingPeers, State.peersIn, State.noOther, rcv_eq, link_eq]

@[simp] theorem toIdle_flag (s : State) (e : EventKind) (he : s.op.flag e = true) :
    (s.toIdle).op.flag e = true := by
  unfold State.toIdle
  try dsimp only
  (repeat' split) <;> simp (maxDischargeDepth := 9) [he]

@[simp] theorem goNext_frame (n : NextState) (s : State) :
    (s.goNext n).clock = s.clock ∧ (s.goNext n).loader = s.loader ∧ (s.goNext n).ports = s.ports ∧
    (s.goNext n).store = s.store ∧ (s.goNext n).ana = s.ana ∧ (s.goNext n).halo = s.halo ∧
    (s.goNext n).hydro = s.hydro ∧ (s.goNext n).peers = s.peers ∧ (s.goNext n).lc = s.lc ∧
    (s.goNext n).field = s.field ∧ (s.goNext n).scaleLink = s.scaleLink ∧ (s.goNext n).anaLink = s.anaLink ∧
    (s.goNext n).pending = s.pending ∧ (s.goNext n).free = s.free ∧
    (s.goNext n).agent.viewClass = s.agent.viewClass ∧ (s.goNext n).agent.viewSerial = s.agent.viewSerial ∧
    (s.goNext n).agent.owner = s.agent.owner ∧ (s.goNext n).agent.heldH = s.agent.heldH ∧
    (s.goNext n).agent.heldK = s.agent.heldK ∧ (s.goNext n).agent.reasonH = s.agent.reasonH ∧
    (s.goNext n).agent.reasonK = s.agent.reasonK ∧ (s.goNext n).agent.overpressure = s.agent.overpressure ∧
    (s.goNext n).agent.headerFault = s.agent.headerFault ∧ (s.goNext n).agent.conflict = s.agent.conflict ∧
    (s.goNext n).agent.overRepeat = s.agent.overRepeat ∧
    (s.goNext n).agent.conflictRepeat = s.agent.conflictRepeat ∧
    (s.goNext n).agent.purgeSerial = s.agent.purgeSerial ∧ (s.goNext n).agent.dischH = s.agent.dischH ∧
    (s.goNext n).agent.dischK = s.agent.dischK ∧ (s.goNext n).agent.purgeV = s.agent.purgeV ∧
    (s.goNext n).agent.selH = s.agent.selH ∧ (s.goNext n).agent.selK = s.agent.selK ∧
    (s.goNext n).line.framer = s.line.framer ∧ (s.goNext n).line.listenIn = s.line.listenIn ∧
    (s.goNext n).line.listenT = s.line.listenT ∧ (s.goNext n).line.clash = s.line.clash ∧
    (s.goNext n).line.clashT = s.line.clashT ∧ (s.goNext n).line.beaconT = s.line.beaconT ∧
    (s.goNext n).line.rxErrors = s.line.rxErrors ∧ (s.goNext n).line.collisions = s.line.collisions ∧
    (s.goNext n).op.framer = s.op.framer ∧ (s.goNext n).op.gap = s.op.gap ∧ (s.goNext n).op.tx = s.op.tx ∧
    (s.goNext n).op.owed = s.op.owed := by
  unfold State.goNext
  try dsimp only
  (repeat' split) <;> simp

@[simp] theorem goNext_views (n : NextState) (s : State) :
    (s.goNext n).cfg = s.cfg ∧
    (s.goNext n).loaded = s.loaded ∧
    (∀ y, (s.goNext n).portSet y = s.portSet y) ∧
    (s.goNext n).seconds = s.seconds ∧
    (s.goNext n).inhibited = s.inhibited ∧
    (s.goNext n).inhibitSeconds = s.inhibitSeconds ∧
    (∀ pp, (s.goNext n).port pp = s.port pp) ∧
    (∀ cc, (s.goNext n).rcv cc = s.rcv cc ∧ (s.goNext n).accepting cc = s.accepting cc ∧ (s.goNext n).level cc = s.level cc ∧
      (s.goNext n).band cc = s.band cc) ∧
    (s.goNext n).flowingPeers = s.flowingPeers ∧
    (s.goNext n).waitingPeers = s.waitingPeers ∧
    (∀ aa, (s.goNext n).peer aa = s.peer aa) ∧
    (∀ cc, (s.goNext n).noOther cc = s.noOther cc) ∧
    (∀ ll, (s.goNext n).recordLink ll = s.recordLink ll) := by
  simp [State.portSet, State.cfg, State.loaded, State.seconds, State.inhibited, State.inhibitSeconds, State.port, State.accepting, State.level, State.band, State.peer, State.flowingPeers, State.waitingPeers, State.peersIn, State.noOther, rcv_eq, link_eq]

@[simp] theorem goNext_flag (n : NextState) (s : State) (e : EventKind) (he : s.op.flag e = true) :
    (s.goNext n).op.flag e = true := by
  unfold State.goNext
  try dsimp only
  (repeat' split) <;> simp (maxDischargeDepth := 9) [he]

@[simp] theorem endFlow_frame (a b : Bool) (n : NextState) (s : State) :
    (s.endFlow a b n).clock = s.clock ∧ (s.endFlow a b n).loader = s.loader ∧ (s.endFlow a b n).store = s.store ∧
    (s.endFlow a b n).ana = s.ana ∧ (s.endFlow a b n).peers = s.peers ∧ (s.endFlow a b n).lc = s.lc ∧
    (s.endFlow a b n).field = s.field ∧ (s.endFlow a b n).scaleLink = s.scaleLink ∧
    (s.endFlow a b n).anaLink = s.anaLink ∧ (s.endFlow a b n).pending = s.pending ∧
    (s.endFlow a b n).free = s.free ∧ (s.endFlow a b n).agent.viewClass = s.agent.viewClass ∧
    (s.endFlow a b n).agent.viewSerial = s.agent.viewSerial ∧ (s.endFlow a b n).agent.owner = s.agent.owner ∧
    (s.endFlow a b n).agent.reasonH = s.agent.reasonH ∧ (s.endFlow a b n).agent.reasonK = s.agent.reasonK ∧
    (s.endFlow a b n).agent.overpressure = s.agent.overpressure ∧
    (s.endFlow a b n).agent.headerFault = s.agent.headerFault ∧
    (s.endFlow a b n).agent.conflict = s.agent.conflict ∧ (s.endFlow a b n).agent.overRepeat = s.agent.overRepeat ∧
    (s.endFlow a b n).agent.conflictRepeat = s.agent.conflictRepeat ∧
    (s.endFlow a b n).agent.purgeSerial = s.agent.purgeSerial ∧ (s.endFlow a b n).agent.purgeV = s.agent.purgeV ∧
    (s.endFlow a b n).line.framer = s.line.framer ∧ (s.endFlow a b n).line.listenIn = s.line.listenIn ∧
    (s.endFlow a b n).line.listenT = s.line.listenT ∧ (s.endFlow a b n).line.clash = s.line.clash ∧
    (s.endFlow a b n).line.clashT = s.line.clashT ∧ (s.endFlow a b n).line.beaconT = s.line.beaconT ∧
    (s.endFlow a b n).line.rxErrors = s.line.rxErrors ∧ (s.endFlow a b n).line.collisions = s.line.collisions ∧
    (s.endFlow a b n).op.framer = s.op.framer ∧ (s.endFlow a b n).op.gap = s.op.gap ∧
    (s.endFlow a b n).op.tx = s.op.tx ∧ (s.endFlow a b n).op.owed = s.op.owed ∧
    (s.endFlow a b n).halo.first = s.halo.first ∧ (s.endFlow a b n).halo.latest = s.halo.latest ∧
    (s.endFlow a b n).halo.overMark = s.halo.overMark ∧ (s.endFlow a b n).halo.baseline = s.halo.baseline ∧
    (s.endFlow a b n).halo.last = s.halo.last ∧ (s.endFlow a b n).halo.attributed = s.halo.attributed ∧
    (s.endFlow a b n).halo.unattributed = s.halo.unattributed ∧ (s.endFlow a b n).halo.outflow = s.halo.outflow ∧
    (s.endFlow a b n).halo.drift = s.halo.drift ∧ (s.endFlow a b n).halo.silence = s.halo.silence ∧
    (s.endFlow a b n).hydro.first = s.hydro.first ∧ (s.endFlow a b n).hydro.latest = s.hydro.latest ∧
    (s.endFlow a b n).hydro.overMark = s.hydro.overMark ∧ (s.endFlow a b n).hydro.baseline = s.hydro.baseline ∧
    (s.endFlow a b n).hydro.last = s.hydro.last ∧ (s.endFlow a b n).hydro.attributed = s.hydro.attributed ∧
    (s.endFlow a b n).hydro.unattributed = s.hydro.unattributed ∧
    (s.endFlow a b n).hydro.outflow = s.hydro.outflow ∧ (s.endFlow a b n).hydro.drift = s.hydro.drift ∧
    (s.endFlow a b n).hydro.silence = s.hydro.silence := by
  unfold State.endFlow
  try dsimp only
  (repeat' split) <;> simp

@[simp] theorem endFlow_views (a b : Bool) (n : NextState) (s : State) :
    (s.endFlow a b n).cfg = s.cfg ∧
    (s.endFlow a b n).loaded = s.loaded ∧
    (∀ y, (s.endFlow a b n).portSet y = s.portSet y) ∧
    (s.endFlow a b n).seconds = s.seconds ∧
    (s.endFlow a b n).inhibited = s.inhibited ∧
    (s.endFlow a b n).inhibitSeconds = s.inhibitSeconds ∧
    (s.endFlow a b n).flowingPeers = s.flowingPeers ∧
    (s.endFlow a b n).waitingPeers = s.waitingPeers ∧
    (∀ aa, (s.endFlow a b n).peer aa = s.peer aa) ∧
    (∀ cc, (s.endFlow a b n).noOther cc = s.noOther cc) ∧
    (∀ ll, (s.endFlow a b n).recordLink ll = s.recordLink ll) := by
  simp [State.portSet, State.cfg, State.loaded, State.seconds, State.inhibited, State.inhibitSeconds, State.port, State.accepting, State.level, State.band, State.peer, State.flowingPeers, State.waitingPeers, State.peersIn, State.noOther, rcv_eq, link_eq]

@[simp] theorem endFlow_flag (a b : Bool) (n : NextState) (s : State) (e : EventKind) (he : s.op.flag e = true) :
    (s.endFlow a b n).op.flag e = true := by
  unfold State.endFlow
  try dsimp only
  (repeat' split) <;> simp (maxDischargeDepth := 9) [he]

@[simp] theorem endFlow_held (b : Bool) (n : NextState) (s : State) :
    (s.endFlow false b n).agent.heldH = s.agent.heldH ∧ (s.endFlow false b n).agent.heldK = s.agent.heldK := by
  unfold State.endFlow
  dsimp only
  (repeat' split) <;> simp_all

@[simp] theorem startFlow_frame (c : GasClass) (s : State) :
    (s.startFlow c).clock = s.clock ∧ (s.startFlow c).loader = s.loader ∧ (s.startFlow c).store = s.store ∧
    (s.startFlow c).ana = s.ana ∧ (s.startFlow c).peers = s.peers ∧ (s.startFlow c).lc = s.lc ∧
    (s.startFlow c).field = s.field ∧ (s.startFlow c).scaleLink = s.scaleLink ∧
    (s.startFlow c).anaLink = s.anaLink ∧ (s.startFlow c).pending = s.pending ∧ (s.startFlow c).free = s.free ∧
    (s.startFlow c).agent.viewClass = s.agent.viewClass ∧ (s.startFlow c).agent.viewSerial = s.agent.viewSerial ∧
    (s.startFlow c).agent.owner = s.agent.owner ∧ (s.startFlow c).agent.heldH = s.agent.heldH ∧
    (s.startFlow c).agent.heldK = s.agent.heldK ∧ (s.startFlow c).agent.reasonH = s.agent.reasonH ∧
    (s.startFlow c).agent.reasonK = s.agent.reasonK ∧ (s.startFlow c).agent.overpressure = s.agent.overpressure ∧
    (s.startFlow c).agent.headerFault = s.agent.headerFault ∧ (s.startFlow c).agent.conflict = s.agent.conflict ∧
    (s.startFlow c).agent.overRepeat = s.agent.overRepeat ∧
    (s.startFlow c).agent.conflictRepeat = s.agent.conflictRepeat ∧
    (s.startFlow c).agent.purgeSerial = s.agent.purgeSerial ∧ (s.startFlow c).agent.purgeV = s.agent.purgeV ∧
    (s.startFlow c).line.framer = s.line.framer ∧ (s.startFlow c).line.listenIn = s.line.listenIn ∧
    (s.startFlow c).line.listenT = s.line.listenT ∧ (s.startFlow c).line.clash = s.line.clash ∧
    (s.startFlow c).line.clashT = s.line.clashT ∧ (s.startFlow c).line.beaconT = s.line.beaconT ∧
    (s.startFlow c).line.rxErrors = s.line.rxErrors ∧ (s.startFlow c).line.collisions = s.line.collisions ∧
    (s.startFlow c).op.framer = s.op.framer ∧ (s.startFlow c).op.gap = s.op.gap ∧ (s.startFlow c).op.tx = s.op.tx ∧
    (s.startFlow c).op.owed = s.op.owed ∧ (s.startFlow c).halo.first = s.halo.first ∧
    (s.startFlow c).halo.latest = s.halo.latest ∧ (s.startFlow c).halo.overMark = s.halo.overMark ∧
    (s.startFlow c).halo.baseline = s.halo.baseline ∧ (s.startFlow c).halo.last = s.halo.last ∧
    (s.startFlow c).halo.attributed = s.halo.attributed ∧ (s.startFlow c).halo.unattributed = s.halo.unattributed ∧
    (s.startFlow c).halo.outflow = s.halo.outflow ∧ (s.startFlow c).halo.drift = s.halo.drift ∧
    (s.startFlow c).halo.silence = s.halo.silence ∧ (s.startFlow c).hydro.first = s.hydro.first ∧
    (s.startFlow c).hydro.latest = s.hydro.latest ∧ (s.startFlow c).hydro.overMark = s.hydro.overMark ∧
    (s.startFlow c).hydro.baseline = s.hydro.baseline ∧ (s.startFlow c).hydro.last = s.hydro.last ∧
    (s.startFlow c).hydro.attributed = s.hydro.attributed ∧
    (s.startFlow c).hydro.unattributed = s.hydro.unattributed ∧ (s.startFlow c).hydro.outflow = s.hydro.outflow ∧
    (s.startFlow c).hydro.drift = s.hydro.drift ∧ (s.startFlow c).hydro.silence = s.hydro.silence := by
  unfold State.startFlow
  try dsimp only
  (repeat' split) <;> simp

@[simp] theorem startFlow_views (c : GasClass) (s : State) :
    (s.startFlow c).cfg = s.cfg ∧
    (s.startFlow c).loaded = s.loaded ∧
    (∀ y, (s.startFlow c).portSet y = s.portSet y) ∧
    (s.startFlow c).seconds = s.seconds ∧
    (s.startFlow c).inhibited = s.inhibited ∧
    (s.startFlow c).inhibitSeconds = s.inhibitSeconds ∧
    (s.startFlow c).flowingPeers = s.flowingPeers ∧
    (s.startFlow c).waitingPeers = s.waitingPeers ∧
    (∀ aa, (s.startFlow c).peer aa = s.peer aa) ∧
    (∀ cc, (s.startFlow c).noOther cc = s.noOther cc) ∧
    (∀ ll, (s.startFlow c).recordLink ll = s.recordLink ll) := by
  simp [State.portSet, State.cfg, State.loaded, State.seconds, State.inhibited, State.inhibitSeconds, State.port, State.accepting, State.level, State.band, State.peer, State.flowingPeers, State.waitingPeers, State.peersIn, State.noOther, rcv_eq, link_eq]

@[simp] theorem startFlow_flag (c : GasClass) (s : State) (e : EventKind) (he : s.op.flag e = true) :
    (s.startFlow c).op.flag e = true := by
  unfold State.startFlow
  try dsimp only
  (repeat' split) <;> simp (maxDischargeDepth := 9) [he]

@[simp] theorem abortPurge_frame (a b : Bool) (n : NextState) (s : State) :
    (s.abortPurge a b n).clock = s.clock ∧ (s.abortPurge a b n).loader = s.loader ∧
    (s.abortPurge a b n).ports = s.ports ∧ (s.abortPurge a b n).store = s.store ∧
    (s.abortPurge a b n).ana = s.ana ∧ (s.abortPurge a b n).halo = s.halo ∧ (s.abortPurge a b n).hydro = s.hydro ∧
    (s.abortPurge a b n).peers = s.peers ∧ (s.abortPurge a b n).lc = s.lc ∧ (s.abortPurge a b n).field = s.field ∧
    (s.abortPurge a b n).scaleLink = s.scaleLink ∧ (s.abortPurge a b n).anaLink = s.anaLink ∧
    (s.abortPurge a b n).pending = s.pending ∧ (s.abortPurge a b n).free = s.free ∧
    (s.abortPurge a b n).agent.reasonH = s.agent.reasonH ∧ (s.abortPurge a b n).agent.reasonK = s.agent.reasonK ∧
    (s.abortPurge a b n).agent.overpressure = s.agent.overpressure ∧
    (s.abortPurge a b n).agent.headerFault = s.agent.headerFault ∧
    (s.abortPurge a b n).agent.conflict = s.agent.conflict ∧
    (s.abortPurge a b n).agent.overRepeat = s.agent.overRepeat ∧
    (s.abortPurge a b n).agent.conflictRepeat = s.agent.conflictRepeat ∧
    (s.abortPurge a b n).agent.purgeSerial = s.agent.purgeSerial ∧
    (s.abortPurge a b n).agent.dischH = s.agent.dischH ∧ (s.abortPurge a b n).agent.dischK = s.agent.dischK ∧
    (s.abortPurge a b n).agent.selH = s.agent.selH ∧ (s.abortPurge a b n).agent.selK = s.agent.selK ∧
    (s.abortPurge a b n).line.framer = s.line.framer ∧ (s.abortPurge a b n).line.listenIn = s.line.listenIn ∧
    (s.abortPurge a b n).line.listenT = s.line.listenT ∧ (s.abortPurge a b n).line.clash = s.line.clash ∧
    (s.abortPurge a b n).line.clashT = s.line.clashT ∧ (s.abortPurge a b n).line.beaconT = s.line.beaconT ∧
    (s.abortPurge a b n).line.rxErrors = s.line.rxErrors ∧
    (s.abortPurge a b n).line.collisions = s.line.collisions ∧ (s.abortPurge a b n).op.framer = s.op.framer ∧
    (s.abortPurge a b n).op.gap = s.op.gap ∧ (s.abortPurge a b n).op.tx = s.op.tx ∧
    (s.abortPurge a b n).op.owed = s.op.owed := by
  unfold State.abortPurge
  try dsimp only
  (repeat' split) <;> simp

@[simp] theorem abortPurge_views (a b : Bool) (n : NextState) (s : State) :
    (s.abortPurge a b n).cfg = s.cfg ∧
    (s.abortPurge a b n).loaded = s.loaded ∧
    (∀ y, (s.abortPurge a b n).portSet y = s.portSet y) ∧
    (s.abortPurge a b n).seconds = s.seconds ∧
    (s.abortPurge a b n).inhibited = s.inhibited ∧
    (s.abortPurge a b n).inhibitSeconds = s.inhibitSeconds ∧
    (∀ pp, (s.abortPurge a b n).port pp = s.port pp) ∧
    (∀ cc, (s.abortPurge a b n).rcv cc = s.rcv cc ∧ (s.abortPurge a b n).accepting cc = s.accepting cc ∧ (s.abortPurge a b n).level cc = s.level cc ∧
      (s.abortPurge a b n).band cc = s.band cc) ∧
    (s.abortPurge a b n).flowingPeers = s.flowingPeers ∧
    (s.abortPurge a b n).waitingPeers = s.waitingPeers ∧
    (∀ aa, (s.abortPurge a b n).peer aa = s.peer aa) ∧
    (∀ cc, (s.abortPurge a b n).noOther cc = s.noOther cc) ∧
    (∀ ll, (s.abortPurge a b n).recordLink ll = s.recordLink ll) := by
  simp [State.portSet, State.cfg, State.loaded, State.seconds, State.inhibited, State.inhibitSeconds, State.port, State.accepting, State.level, State.band, State.peer, State.flowingPeers, State.waitingPeers, State.peersIn, State.noOther, rcv_eq, link_eq]

@[simp] theorem abortPurge_flag (a b : Bool) (n : NextState) (s : State) (e : EventKind) (he : s.op.flag e = true) :
    (s.abortPurge a b n).op.flag e = true := by
  unfold State.abortPurge
  try dsimp only
  (repeat' split) <;> simp (maxDischargeDepth := 9) [he]

@[simp] theorem abortPurge_held (b : Bool) (n : NextState) (s : State) :
    (s.abortPurge false b n).agent.heldH = s.agent.heldH ∧ (s.abortPurge false b n).agent.heldK = s.agent.heldK := by
  unfold State.abortPurge
  dsimp only
  (repeat' split) <;> simp_all

@[simp] theorem toPurging_frame (s : State) :
    (s.toPurging).clock = s.clock ∧ (s.toPurging).loader = s.loader ∧ (s.toPurging).ports = s.ports ∧
    (s.toPurging).store = s.store ∧ (s.toPurging).ana = s.ana ∧ (s.toPurging).halo = s.halo ∧
    (s.toPurging).hydro = s.hydro ∧ (s.toPurging).peers = s.peers ∧ (s.toPurging).lc = s.lc ∧
    (s.toPurging).field = s.field ∧ (s.toPurging).scaleLink = s.scaleLink ∧ (s.toPurging).anaLink = s.anaLink ∧
    (s.toPurging).pending = s.pending ∧ (s.toPurging).free = s.free ∧ (s.toPurging).agent.heldH = s.agent.heldH ∧
    (s.toPurging).agent.heldK = s.agent.heldK ∧ (s.toPurging).agent.reasonH = s.agent.reasonH ∧
    (s.toPurging).agent.reasonK = s.agent.reasonK ∧ (s.toPurging).agent.overpressure = s.agent.overpressure ∧
    (s.toPurging).agent.headerFault = s.agent.headerFault ∧ (s.toPurging).agent.conflict = s.agent.conflict ∧
    (s.toPurging).agent.overRepeat = s.agent.overRepeat ∧
    (s.toPurging).agent.conflictRepeat = s.agent.conflictRepeat ∧ (s.toPurging).line.framer = s.line.framer ∧
    (s.toPurging).line.listenIn = s.line.listenIn ∧ (s.toPurging).line.listenT = s.line.listenT ∧
    (s.toPurging).line.clash = s.line.clash ∧ (s.toPurging).line.clashT = s.line.clashT ∧
    (s.toPurging).line.beaconT = s.line.beaconT ∧ (s.toPurging).line.rxErrors = s.line.rxErrors ∧
    (s.toPurging).line.collisions = s.line.collisions ∧ (s.toPurging).op.framer = s.op.framer ∧
    (s.toPurging).op.gap = s.op.gap ∧ (s.toPurging).op.tx = s.op.tx ∧ (s.toPurging).op.owed = s.op.owed := by
  unfold State.toPurging
  try dsimp only
  (repeat' split) <;> simp

@[simp] theorem toPurging_views (s : State) :
    (s.toPurging).cfg = s.cfg ∧
    (s.toPurging).loaded = s.loaded ∧
    (∀ y, (s.toPurging).portSet y = s.portSet y) ∧
    (s.toPurging).seconds = s.seconds ∧
    (s.toPurging).inhibited = s.inhibited ∧
    (s.toPurging).inhibitSeconds = s.inhibitSeconds ∧
    (∀ pp, (s.toPurging).port pp = s.port pp) ∧
    (∀ cc, (s.toPurging).rcv cc = s.rcv cc ∧ (s.toPurging).accepting cc = s.accepting cc ∧ (s.toPurging).level cc = s.level cc ∧
      (s.toPurging).band cc = s.band cc) ∧
    (s.toPurging).flowingPeers = s.flowingPeers ∧
    (s.toPurging).waitingPeers = s.waitingPeers ∧
    (∀ aa, (s.toPurging).peer aa = s.peer aa) ∧
    (∀ cc, (s.toPurging).noOther cc = s.noOther cc) ∧
    (∀ ll, (s.toPurging).recordLink ll = s.recordLink ll) := by
  simp [State.portSet, State.cfg, State.loaded, State.seconds, State.inhibited, State.inhibitSeconds, State.port, State.accepting, State.level, State.band, State.peer, State.flowingPeers, State.waitingPeers, State.peersIn, State.noOther, rcv_eq, link_eq]

@[simp] theorem toPurging_flag (s : State) (e : EventKind) (he : s.op.flag e = true) :
    (s.toPurging).op.flag e = true := by
  unfold State.toPurging
  try dsimp only
  (repeat' split) <;> simp (maxDischargeDepth := 9) [he]

@[simp] theorem toWaiting_frame (s : State) :
    (s.toWaiting).clock = s.clock ∧ (s.toWaiting).loader = s.loader ∧ (s.toWaiting).ports = s.ports ∧
    (s.toWaiting).store = s.store ∧ (s.toWaiting).ana = s.ana ∧ (s.toWaiting).halo = s.halo ∧
    (s.toWaiting).hydro = s.hydro ∧ (s.toWaiting).peers = s.peers ∧ (s.toWaiting).lc = s.lc ∧
    (s.toWaiting).field = s.field ∧ (s.toWaiting).scaleLink = s.scaleLink ∧ (s.toWaiting).anaLink = s.anaLink ∧
    (s.toWaiting).pending = s.pending ∧ (s.toWaiting).free = s.free ∧
    (s.toWaiting).agent.viewClass = s.agent.viewClass ∧ (s.toWaiting).agent.viewSerial = s.agent.viewSerial ∧
    (s.toWaiting).agent.owner = s.agent.owner ∧ (s.toWaiting).agent.heldH = s.agent.heldH ∧
    (s.toWaiting).agent.heldK = s.agent.heldK ∧ (s.toWaiting).agent.reasonH = s.agent.reasonH ∧
    (s.toWaiting).agent.reasonK = s.agent.reasonK ∧ (s.toWaiting).agent.overpressure = s.agent.overpressure ∧
    (s.toWaiting).agent.headerFault = s.agent.headerFault ∧ (s.toWaiting).agent.conflict = s.agent.conflict ∧
    (s.toWaiting).agent.overRepeat = s.agent.overRepeat ∧
    (s.toWaiting).agent.conflictRepeat = s.agent.conflictRepeat ∧
    (s.toWaiting).agent.purgeSerial = s.agent.purgeSerial ∧ (s.toWaiting).agent.dischH = s.agent.dischH ∧
    (s.toWaiting).agent.dischK = s.agent.dischK ∧ (s.toWaiting).agent.purgeV = s.agent.purgeV ∧
    (s.toWaiting).agent.selH = s.agent.selH ∧ (s.toWaiting).agent.selK = s.agent.selK ∧
    (s.toWaiting).line.framer = s.line.framer ∧ (s.toWaiting).line.listenIn = s.line.listenIn ∧
    (s.toWaiting).line.listenT = s.line.listenT ∧ (s.toWaiting).line.clash = s.line.clash ∧
    (s.toWaiting).line.clashT = s.line.clashT ∧ (s.toWaiting).line.beaconT = s.line.beaconT ∧
    (s.toWaiting).line.rxErrors = s.line.rxErrors ∧ (s.toWaiting).line.collisions = s.line.collisions ∧
    (s.toWaiting).op.framer = s.op.framer ∧ (s.toWaiting).op.gap = s.op.gap ∧ (s.toWaiting).op.tx = s.op.tx ∧
    (s.toWaiting).op.owed = s.op.owed := by
  simp [State.toWaiting]

@[simp] theorem toWaiting_views (s : State) :
    (s.toWaiting).cfg = s.cfg ∧
    (s.toWaiting).loaded = s.loaded ∧
    (∀ y, (s.toWaiting).portSet y = s.portSet y) ∧
    (s.toWaiting).seconds = s.seconds ∧
    (s.toWaiting).inhibited = s.inhibited ∧
    (s.toWaiting).inhibitSeconds = s.inhibitSeconds ∧
    (∀ pp, (s.toWaiting).port pp = s.port pp) ∧
    (∀ cc, (s.toWaiting).rcv cc = s.rcv cc ∧ (s.toWaiting).accepting cc = s.accepting cc ∧ (s.toWaiting).level cc = s.level cc ∧
      (s.toWaiting).band cc = s.band cc) ∧
    (s.toWaiting).flowingPeers = s.flowingPeers ∧
    (s.toWaiting).waitingPeers = s.waitingPeers ∧
    (∀ aa, (s.toWaiting).peer aa = s.peer aa) ∧
    (∀ cc, (s.toWaiting).noOther cc = s.noOther cc) ∧
    (∀ ll, (s.toWaiting).recordLink ll = s.recordLink ll) := by
  simp [State.portSet, State.cfg, State.loaded, State.seconds, State.inhibited, State.inhibitSeconds, State.port, State.accepting, State.level, State.band, State.peer, State.flowingPeers, State.waitingPeers, State.peersIn, State.noOther, rcv_eq, link_eq]

@[simp] theorem toWaiting_flag (s : State) (e : EventKind) (he : s.op.flag e = true) :
    (s.toWaiting).op.flag e = true := by
  unfold State.toWaiting
  try dsimp only
  (repeat' split) <;> simp (maxDischargeDepth := 9) [he]

@[simp] theorem toDrain_frame (s : State) :
    (s.toDrain).clock = s.clock ∧ (s.toDrain).loader = s.loader ∧ (s.toDrain).ports = s.ports ∧
    (s.toDrain).store = s.store ∧ (s.toDrain).ana = s.ana ∧ (s.toDrain).halo = s.halo ∧
    (s.toDrain).hydro = s.hydro ∧ (s.toDrain).peers = s.peers ∧ (s.toDrain).lc = s.lc ∧
    (s.toDrain).field = s.field ∧ (s.toDrain).scaleLink = s.scaleLink ∧ (s.toDrain).anaLink = s.anaLink ∧
    (s.toDrain).pending = s.pending ∧ (s.toDrain).free = s.free ∧ (s.toDrain).agent.viewClass = s.agent.viewClass ∧
    (s.toDrain).agent.viewSerial = s.agent.viewSerial ∧ (s.toDrain).agent.owner = s.agent.owner ∧
    (s.toDrain).agent.heldH = s.agent.heldH ∧ (s.toDrain).agent.heldK = s.agent.heldK ∧
    (s.toDrain).agent.reasonH = s.agent.reasonH ∧ (s.toDrain).agent.reasonK = s.agent.reasonK ∧
    (s.toDrain).agent.overpressure = s.agent.overpressure ∧ (s.toDrain).agent.headerFault = s.agent.headerFault ∧
    (s.toDrain).agent.conflict = s.agent.conflict ∧ (s.toDrain).agent.overRepeat = s.agent.overRepeat ∧
    (s.toDrain).agent.conflictRepeat = s.agent.conflictRepeat ∧
    (s.toDrain).agent.purgeSerial = s.agent.purgeSerial ∧ (s.toDrain).agent.dischH = s.agent.dischH ∧
    (s.toDrain).agent.dischK = s.agent.dischK ∧ (s.toDrain).agent.purgeV = s.agent.purgeV ∧
    (s.toDrain).agent.selH = s.agent.selH ∧ (s.toDrain).agent.selK = s.agent.selK ∧
    (s.toDrain).line.framer = s.line.framer ∧ (s.toDrain).line.listenIn = s.line.listenIn ∧
    (s.toDrain).line.listenT = s.line.listenT ∧ (s.toDrain).line.clash = s.line.clash ∧
    (s.toDrain).line.clashT = s.line.clashT ∧ (s.toDrain).line.beaconT = s.line.beaconT ∧
    (s.toDrain).line.rxErrors = s.line.rxErrors ∧ (s.toDrain).line.collisions = s.line.collisions ∧
    (s.toDrain).op.framer = s.op.framer ∧ (s.toDrain).op.gap = s.op.gap ∧ (s.toDrain).op.tx = s.op.tx ∧
    (s.toDrain).op.owed = s.op.owed := by
  unfold State.toDrain
  try dsimp only
  (repeat' split) <;> simp

@[simp] theorem toDrain_views (s : State) :
    (s.toDrain).cfg = s.cfg ∧
    (s.toDrain).loaded = s.loaded ∧
    (∀ y, (s.toDrain).portSet y = s.portSet y) ∧
    (s.toDrain).seconds = s.seconds ∧
    (s.toDrain).inhibited = s.inhibited ∧
    (s.toDrain).inhibitSeconds = s.inhibitSeconds ∧
    (∀ pp, (s.toDrain).port pp = s.port pp) ∧
    (∀ cc, (s.toDrain).rcv cc = s.rcv cc ∧ (s.toDrain).accepting cc = s.accepting cc ∧ (s.toDrain).level cc = s.level cc ∧
      (s.toDrain).band cc = s.band cc) ∧
    (s.toDrain).flowingPeers = s.flowingPeers ∧
    (s.toDrain).waitingPeers = s.waitingPeers ∧
    (∀ aa, (s.toDrain).peer aa = s.peer aa) ∧
    (∀ cc, (s.toDrain).noOther cc = s.noOther cc) ∧
    (∀ ll, (s.toDrain).recordLink ll = s.recordLink ll) := by
  simp [State.portSet, State.cfg, State.loaded, State.seconds, State.inhibited, State.inhibitSeconds, State.port, State.accepting, State.level, State.band, State.peer, State.flowingPeers, State.waitingPeers, State.peersIn, State.noOther, rcv_eq, link_eq]

@[simp] theorem toDrain_flag (s : State) (e : EventKind) (he : s.op.flag e = true) :
    (s.toDrain).op.flag e = true := by
  unfold State.toDrain
  try dsimp only
  (repeat' split) <;> simp (maxDischargeDepth := 9) [he]

@[simp] theorem reevaluate_frame (s : State) :
    (s.reevaluate).clock = s.clock ∧ (s.reevaluate).loader = s.loader ∧ (s.reevaluate).ports = s.ports ∧
    (s.reevaluate).store = s.store ∧ (s.reevaluate).ana = s.ana ∧ (s.reevaluate).halo = s.halo ∧
    (s.reevaluate).hydro = s.hydro ∧ (s.reevaluate).peers = s.peers ∧ (s.reevaluate).lc = s.lc ∧
    (s.reevaluate).field = s.field ∧ (s.reevaluate).scaleLink = s.scaleLink ∧ (s.reevaluate).anaLink = s.anaLink ∧
    (s.reevaluate).pending = s.pending ∧ (s.reevaluate).free = s.free ∧
    (s.reevaluate).agent.viewClass = s.agent.viewClass ∧ (s.reevaluate).agent.viewSerial = s.agent.viewSerial ∧
    (s.reevaluate).agent.owner = s.agent.owner ∧ (s.reevaluate).agent.heldH = s.agent.heldH ∧
    (s.reevaluate).agent.heldK = s.agent.heldK ∧ (s.reevaluate).agent.reasonH = s.agent.reasonH ∧
    (s.reevaluate).agent.reasonK = s.agent.reasonK ∧ (s.reevaluate).agent.overpressure = s.agent.overpressure ∧
    (s.reevaluate).agent.headerFault = s.agent.headerFault ∧ (s.reevaluate).agent.conflict = s.agent.conflict ∧
    (s.reevaluate).agent.overRepeat = s.agent.overRepeat ∧
    (s.reevaluate).agent.conflictRepeat = s.agent.conflictRepeat ∧
    (s.reevaluate).agent.purgeSerial = s.agent.purgeSerial ∧ (s.reevaluate).agent.dischH = s.agent.dischH ∧
    (s.reevaluate).agent.dischK = s.agent.dischK ∧ (s.reevaluate).agent.purgeV = s.agent.purgeV ∧
    (s.reevaluate).agent.selH = s.agent.selH ∧ (s.reevaluate).agent.selK = s.agent.selK ∧
    (s.reevaluate).line.framer = s.line.framer ∧ (s.reevaluate).line.listenIn = s.line.listenIn ∧
    (s.reevaluate).line.listenT = s.line.listenT ∧ (s.reevaluate).line.clash = s.line.clash ∧
    (s.reevaluate).line.clashT = s.line.clashT ∧ (s.reevaluate).line.beaconT = s.line.beaconT ∧
    (s.reevaluate).line.rxErrors = s.line.rxErrors ∧ (s.reevaluate).line.collisions = s.line.collisions ∧
    (s.reevaluate).op.framer = s.op.framer ∧ (s.reevaluate).op.gap = s.op.gap ∧ (s.reevaluate).op.tx = s.op.tx ∧
    (s.reevaluate).op.owed = s.op.owed := by
  unfold State.reevaluate
  try dsimp only
  (repeat' split) <;> simp

@[simp] theorem reevaluate_views (s : State) :
    (s.reevaluate).cfg = s.cfg ∧
    (s.reevaluate).loaded = s.loaded ∧
    (∀ y, (s.reevaluate).portSet y = s.portSet y) ∧
    (s.reevaluate).seconds = s.seconds ∧
    (s.reevaluate).inhibited = s.inhibited ∧
    (s.reevaluate).inhibitSeconds = s.inhibitSeconds ∧
    (∀ pp, (s.reevaluate).port pp = s.port pp) ∧
    (∀ cc, (s.reevaluate).rcv cc = s.rcv cc ∧ (s.reevaluate).accepting cc = s.accepting cc ∧ (s.reevaluate).level cc = s.level cc ∧
      (s.reevaluate).band cc = s.band cc) ∧
    (s.reevaluate).flowingPeers = s.flowingPeers ∧
    (s.reevaluate).waitingPeers = s.waitingPeers ∧
    (∀ aa, (s.reevaluate).peer aa = s.peer aa) ∧
    (∀ cc, (s.reevaluate).noOther cc = s.noOther cc) ∧
    (∀ ll, (s.reevaluate).recordLink ll = s.recordLink ll) := by
  simp [State.portSet, State.cfg, State.loaded, State.seconds, State.inhibited, State.inhibitSeconds, State.port, State.accepting, State.level, State.band, State.peer, State.flowingPeers, State.waitingPeers, State.peersIn, State.noOther, rcv_eq, link_eq]

@[simp] theorem reevaluate_flag (s : State) (e : EventKind) (he : s.op.flag e = true) :
    (s.reevaluate).op.flag e = true := by
  unfold State.reevaluate
  try dsimp only
  (repeat' split) <;> simp (maxDischargeDepth := 9) [he]

@[simp] theorem holdEffect_frame (h : HoldClass) (s : State) :
    (s.holdEffect h).clock = s.clock ∧ (s.holdEffect h).loader = s.loader ∧ (s.holdEffect h).store = s.store ∧
    (s.holdEffect h).ana = s.ana ∧ (s.holdEffect h).peers = s.peers ∧ (s.holdEffect h).lc = s.lc ∧
    (s.holdEffect h).field = s.field ∧ (s.holdEffect h).scaleLink = s.scaleLink ∧
    (s.holdEffect h).anaLink = s.anaLink ∧ (s.holdEffect h).pending = s.pending ∧ (s.holdEffect h).free = s.free ∧
    (s.holdEffect h).agent.heldH = s.agent.heldH ∧ (s.holdEffect h).agent.heldK = s.agent.heldK ∧
    (s.holdEffect h).agent.reasonH = s.agent.reasonH ∧ (s.holdEffect h).agent.reasonK = s.agent.reasonK ∧
    (s.holdEffect h).agent.overpressure = s.agent.overpressure ∧
    (s.holdEffect h).agent.headerFault = s.agent.headerFault ∧ (s.holdEffect h).agent.conflict = s.agent.conflict ∧
    (s.holdEffect h).agent.overRepeat = s.agent.overRepeat ∧
    (s.holdEffect h).agent.conflictRepeat = s.agent.conflictRepeat ∧
    (s.holdEffect h).agent.purgeSerial = s.agent.purgeSerial ∧ (s.holdEffect h).line.framer = s.line.framer ∧
    (s.holdEffect h).line.listenIn = s.line.listenIn ∧ (s.holdEffect h).line.listenT = s.line.listenT ∧
    (s.holdEffect h).line.clash = s.line.clash ∧ (s.holdEffect h).line.clashT = s.line.clashT ∧
    (s.holdEffect h).line.beaconT = s.line.beaconT ∧ (s.holdEffect h).line.rxErrors = s.line.rxErrors ∧
    (s.holdEffect h).line.collisions = s.line.collisions ∧ (s.holdEffect h).op.framer = s.op.framer ∧
    (s.holdEffect h).op.gap = s.op.gap ∧ (s.holdEffect h).op.tx = s.op.tx ∧ (s.holdEffect h).op.owed = s.op.owed ∧
    (s.holdEffect h).halo.first = s.halo.first ∧ (s.holdEffect h).halo.latest = s.halo.latest ∧
    (s.holdEffect h).halo.overMark = s.halo.overMark ∧ (s.holdEffect h).halo.baseline = s.halo.baseline ∧
    (s.holdEffect h).halo.last = s.halo.last ∧ (s.holdEffect h).halo.attributed = s.halo.attributed ∧
    (s.holdEffect h).halo.unattributed = s.halo.unattributed ∧ (s.holdEffect h).halo.outflow = s.halo.outflow ∧
    (s.holdEffect h).halo.drift = s.halo.drift ∧ (s.holdEffect h).halo.silence = s.halo.silence ∧
    (s.holdEffect h).hydro.first = s.hydro.first ∧ (s.holdEffect h).hydro.latest = s.hydro.latest ∧
    (s.holdEffect h).hydro.overMark = s.hydro.overMark ∧ (s.holdEffect h).hydro.baseline = s.hydro.baseline ∧
    (s.holdEffect h).hydro.last = s.hydro.last ∧ (s.holdEffect h).hydro.attributed = s.hydro.attributed ∧
    (s.holdEffect h).hydro.unattributed = s.hydro.unattributed ∧ (s.holdEffect h).hydro.outflow = s.hydro.outflow ∧
    (s.holdEffect h).hydro.drift = s.hydro.drift ∧ (s.holdEffect h).hydro.silence = s.hydro.silence := by
  unfold State.holdEffect
  try dsimp only
  (repeat' split) <;> simp

@[simp] theorem holdEffect_views (h : HoldClass) (s : State) :
    (s.holdEffect h).cfg = s.cfg ∧
    (s.holdEffect h).loaded = s.loaded ∧
    (∀ y, (s.holdEffect h).portSet y = s.portSet y) ∧
    (s.holdEffect h).seconds = s.seconds ∧
    (s.holdEffect h).inhibited = s.inhibited ∧
    (s.holdEffect h).inhibitSeconds = s.inhibitSeconds ∧
    (s.holdEffect h).flowingPeers = s.flowingPeers ∧
    (s.holdEffect h).waitingPeers = s.waitingPeers ∧
    (∀ aa, (s.holdEffect h).peer aa = s.peer aa) ∧
    (∀ cc, (s.holdEffect h).noOther cc = s.noOther cc) ∧
    (∀ ll, (s.holdEffect h).recordLink ll = s.recordLink ll) := by
  simp [State.portSet, State.cfg, State.loaded, State.seconds, State.inhibited, State.inhibitSeconds, State.port, State.accepting, State.level, State.band, State.peer, State.flowingPeers, State.waitingPeers, State.peersIn, State.noOther, rcv_eq, link_eq]

@[simp] theorem holdEffect_flag (h : HoldClass) (s : State) (e : EventKind) (he : s.op.flag e = true) :
    (s.holdEffect h).op.flag e = true := by
  unfold State.holdEffect
  try dsimp only
  (repeat' split) <;> simp (maxDischargeDepth := 9) [he]

@[simp] theorem offerHold_frame (h : HoldClass) (r : HoldReason) (s : State) :
    (s.offerHold h r).clock = s.clock ∧ (s.offerHold h r).loader = s.loader ∧ (s.offerHold h r).store = s.store ∧
    (s.offerHold h r).ana = s.ana ∧ (s.offerHold h r).peers = s.peers ∧ (s.offerHold h r).lc = s.lc ∧
    (s.offerHold h r).field = s.field ∧ (s.offerHold h r).scaleLink = s.scaleLink ∧
    (s.offerHold h r).anaLink = s.anaLink ∧ (s.offerHold h r).pending = s.pending ∧
    (s.offerHold h r).free = s.free ∧ (s.offerHold h r).agent.reasonH = s.agent.reasonH ∧
    (s.offerHold h r).agent.reasonK = s.agent.reasonK ∧
    (s.offerHold h r).agent.overpressure = s.agent.overpressure ∧
    (s.offerHold h r).agent.headerFault = s.agent.headerFault ∧
    (s.offerHold h r).agent.conflict = s.agent.conflict ∧ (s.offerHold h r).agent.overRepeat = s.agent.overRepeat ∧
    (s.offerHold h r).agent.conflictRepeat = s.agent.conflictRepeat ∧
    (s.offerHold h r).agent.purgeSerial = s.agent.purgeSerial ∧ (s.offerHold h r).line.framer = s.line.framer ∧
    (s.offerHold h r).line.listenIn = s.line.listenIn ∧ (s.offerHold h r).line.listenT = s.line.listenT ∧
    (s.offerHold h r).line.clash = s.line.clash ∧ (s.offerHold h r).line.clashT = s.line.clashT ∧
    (s.offerHold h r).line.beaconT = s.line.beaconT ∧ (s.offerHold h r).line.rxErrors = s.line.rxErrors ∧
    (s.offerHold h r).line.collisions = s.line.collisions ∧ (s.offerHold h r).op.framer = s.op.framer ∧
    (s.offerHold h r).op.gap = s.op.gap ∧ (s.offerHold h r).op.tx = s.op.tx ∧
    (s.offerHold h r).op.owed = s.op.owed ∧ (s.offerHold h r).halo.first = s.halo.first ∧
    (s.offerHold h r).halo.latest = s.halo.latest ∧ (s.offerHold h r).halo.overMark = s.halo.overMark ∧
    (s.offerHold h r).halo.baseline = s.halo.baseline ∧ (s.offerHold h r).halo.last = s.halo.last ∧
    (s.offerHold h r).halo.attributed = s.halo.attributed ∧
    (s.offerHold h r).halo.unattributed = s.halo.unattributed ∧ (s.offerHold h r).halo.outflow = s.halo.outflow ∧
    (s.offerHold h r).halo.drift = s.halo.drift ∧ (s.offerHold h r).halo.silence = s.halo.silence ∧
    (s.offerHold h r).hydro.first = s.hydro.first ∧ (s.offerHold h r).hydro.latest = s.hydro.latest ∧
    (s.offerHold h r).hydro.overMark = s.hydro.overMark ∧ (s.offerHold h r).hydro.baseline = s.hydro.baseline ∧
    (s.offerHold h r).hydro.last = s.hydro.last ∧ (s.offerHold h r).hydro.attributed = s.hydro.attributed ∧
    (s.offerHold h r).hydro.unattributed = s.hydro.unattributed ∧
    (s.offerHold h r).hydro.outflow = s.hydro.outflow ∧ (s.offerHold h r).hydro.drift = s.hydro.drift ∧
    (s.offerHold h r).hydro.silence = s.hydro.silence := by
  simp [State.offerHold]

@[simp] theorem offerHold_views (h : HoldClass) (r : HoldReason) (s : State) :
    (s.offerHold h r).cfg = s.cfg ∧
    (s.offerHold h r).loaded = s.loaded ∧
    (∀ y, (s.offerHold h r).portSet y = s.portSet y) ∧
    (s.offerHold h r).seconds = s.seconds ∧
    (s.offerHold h r).inhibited = s.inhibited ∧
    (s.offerHold h r).inhibitSeconds = s.inhibitSeconds ∧
    (s.offerHold h r).flowingPeers = s.flowingPeers ∧
    (s.offerHold h r).waitingPeers = s.waitingPeers ∧
    (∀ aa, (s.offerHold h r).peer aa = s.peer aa) ∧
    (∀ cc, (s.offerHold h r).noOther cc = s.noOther cc) ∧
    (∀ ll, (s.offerHold h r).recordLink ll = s.recordLink ll) := by
  simp [State.portSet, State.cfg, State.loaded, State.seconds, State.inhibited, State.inhibitSeconds, State.port, State.accepting, State.level, State.band, State.peer, State.flowingPeers, State.waitingPeers, State.peersIn, State.noOther, rcv_eq, link_eq]

@[simp] theorem offerHold_flag (h : HoldClass) (r : HoldReason) (s : State) (e : EventKind) (he : s.op.flag e = true) :
    (s.offerHold h r).op.flag e = true := by
  unfold State.offerHold
  try dsimp only
  (repeat' split) <;> simp (maxDischargeDepth := 9) [he]

@[simp] theorem holdEnd_frame (h : HoldClass) (s : State) :
    (s.holdEnd h).clock = s.clock ∧ (s.holdEnd h).loader = s.loader ∧ (s.holdEnd h).ports = s.ports ∧
    (s.holdEnd h).store = s.store ∧ (s.holdEnd h).ana = s.ana ∧ (s.holdEnd h).halo = s.halo ∧
    (s.holdEnd h).hydro = s.hydro ∧ (s.holdEnd h).peers = s.peers ∧ (s.holdEnd h).lc = s.lc ∧
    (s.holdEnd h).field = s.field ∧ (s.holdEnd h).scaleLink = s.scaleLink ∧ (s.holdEnd h).anaLink = s.anaLink ∧
    (s.holdEnd h).pending = s.pending ∧ (s.holdEnd h).free = s.free ∧
    (s.holdEnd h).agent.viewClass = s.agent.viewClass ∧ (s.holdEnd h).agent.viewSerial = s.agent.viewSerial ∧
    (s.holdEnd h).agent.owner = s.agent.owner ∧ (s.holdEnd h).agent.heldH = s.agent.heldH ∧
    (s.holdEnd h).agent.heldK = s.agent.heldK ∧ (s.holdEnd h).agent.reasonH = s.agent.reasonH ∧
    (s.holdEnd h).agent.reasonK = s.agent.reasonK ∧ (s.holdEnd h).agent.overpressure = s.agent.overpressure ∧
    (s.holdEnd h).agent.headerFault = s.agent.headerFault ∧ (s.holdEnd h).agent.conflict = s.agent.conflict ∧
    (s.holdEnd h).agent.overRepeat = s.agent.overRepeat ∧
    (s.holdEnd h).agent.conflictRepeat = s.agent.conflictRepeat ∧
    (s.holdEnd h).agent.purgeSerial = s.agent.purgeSerial ∧ (s.holdEnd h).agent.dischH = s.agent.dischH ∧
    (s.holdEnd h).agent.dischK = s.agent.dischK ∧ (s.holdEnd h).agent.purgeV = s.agent.purgeV ∧
    (s.holdEnd h).agent.selH = s.agent.selH ∧ (s.holdEnd h).agent.selK = s.agent.selK ∧
    (s.holdEnd h).line.framer = s.line.framer ∧ (s.holdEnd h).line.listenIn = s.line.listenIn ∧
    (s.holdEnd h).line.listenT = s.line.listenT ∧ (s.holdEnd h).line.clash = s.line.clash ∧
    (s.holdEnd h).line.clashT = s.line.clashT ∧ (s.holdEnd h).line.beaconT = s.line.beaconT ∧
    (s.holdEnd h).line.rxErrors = s.line.rxErrors ∧ (s.holdEnd h).line.collisions = s.line.collisions ∧
    (s.holdEnd h).op.framer = s.op.framer ∧ (s.holdEnd h).op.gap = s.op.gap ∧ (s.holdEnd h).op.tx = s.op.tx ∧
    (s.holdEnd h).op.owed = s.op.owed := by
  unfold State.holdEnd
  try dsimp only
  (repeat' split) <;> simp

@[simp] theorem holdEnd_views (h : HoldClass) (s : State) :
    (s.holdEnd h).cfg = s.cfg ∧
    (s.holdEnd h).loaded = s.loaded ∧
    (∀ y, (s.holdEnd h).portSet y = s.portSet y) ∧
    (s.holdEnd h).seconds = s.seconds ∧
    (s.holdEnd h).inhibited = s.inhibited ∧
    (s.holdEnd h).inhibitSeconds = s.inhibitSeconds ∧
    (∀ pp, (s.holdEnd h).port pp = s.port pp) ∧
    (∀ cc, (s.holdEnd h).rcv cc = s.rcv cc ∧ (s.holdEnd h).accepting cc = s.accepting cc ∧ (s.holdEnd h).level cc = s.level cc ∧
      (s.holdEnd h).band cc = s.band cc) ∧
    (s.holdEnd h).flowingPeers = s.flowingPeers ∧
    (s.holdEnd h).waitingPeers = s.waitingPeers ∧
    (∀ aa, (s.holdEnd h).peer aa = s.peer aa) ∧
    (∀ cc, (s.holdEnd h).noOther cc = s.noOther cc) ∧
    (∀ ll, (s.holdEnd h).recordLink ll = s.recordLink ll) := by
  simp [State.portSet, State.cfg, State.loaded, State.seconds, State.inhibited, State.inhibitSeconds, State.port, State.accepting, State.level, State.band, State.peer, State.flowingPeers, State.waitingPeers, State.peersIn, State.noOther, rcv_eq, link_eq]

@[simp] theorem holdEnd_flag (h : HoldClass) (s : State) (e : EventKind) (he : s.op.flag e = true) :
    (s.holdEnd h).op.flag e = true := by
  unfold State.holdEnd
  try dsimp only
  (repeat' split) <;> simp (maxDischargeDepth := 9) [he]

@[simp] theorem requestNotice_frame (c : GasClass) (w : Bool) (s : State) :
    (s.requestNotice c w).clock = s.clock ∧ (s.requestNotice c w).loader = s.loader ∧
    (s.requestNotice c w).ports = s.ports ∧ (s.requestNotice c w).store = s.store ∧
    (s.requestNotice c w).ana = s.ana ∧ (s.requestNotice c w).halo = s.halo ∧
    (s.requestNotice c w).hydro = s.hydro ∧ (s.requestNotice c w).peers = s.peers ∧
    (s.requestNotice c w).lc = s.lc ∧ (s.requestNotice c w).field = s.field ∧
    (s.requestNotice c w).scaleLink = s.scaleLink ∧ (s.requestNotice c w).anaLink = s.anaLink ∧
    (s.requestNotice c w).pending = s.pending ∧ (s.requestNotice c w).free = s.free ∧
    (s.requestNotice c w).agent.viewClass = s.agent.viewClass ∧
    (s.requestNotice c w).agent.viewSerial = s.agent.viewSerial ∧
    (s.requestNotice c w).agent.owner = s.agent.owner ∧ (s.requestNotice c w).agent.heldH = s.agent.heldH ∧
    (s.requestNotice c w).agent.heldK = s.agent.heldK ∧ (s.requestNotice c w).agent.reasonH = s.agent.reasonH ∧
    (s.requestNotice c w).agent.reasonK = s.agent.reasonK ∧
    (s.requestNotice c w).agent.overpressure = s.agent.overpressure ∧
    (s.requestNotice c w).agent.headerFault = s.agent.headerFault ∧
    (s.requestNotice c w).agent.conflict = s.agent.conflict ∧
    (s.requestNotice c w).agent.overRepeat = s.agent.overRepeat ∧
    (s.requestNotice c w).agent.conflictRepeat = s.agent.conflictRepeat ∧
    (s.requestNotice c w).agent.purgeSerial = s.agent.purgeSerial ∧
    (s.requestNotice c w).agent.dischH = s.agent.dischH ∧ (s.requestNotice c w).agent.dischK = s.agent.dischK ∧
    (s.requestNotice c w).agent.purgeV = s.agent.purgeV ∧ (s.requestNotice c w).agent.selH = s.agent.selH ∧
    (s.requestNotice c w).agent.selK = s.agent.selK ∧ (s.requestNotice c w).line.framer = s.line.framer ∧
    (s.requestNotice c w).line.listenIn = s.line.listenIn ∧ (s.requestNotice c w).line.listenT = s.line.listenT ∧
    (s.requestNotice c w).line.clash = s.line.clash ∧ (s.requestNotice c w).line.clashT = s.line.clashT ∧
    (s.requestNotice c w).line.beaconT = s.line.beaconT ∧ (s.requestNotice c w).line.rxErrors = s.line.rxErrors ∧
    (s.requestNotice c w).line.collisions = s.line.collisions ∧ (s.requestNotice c w).op.framer = s.op.framer ∧
    (s.requestNotice c w).op.gap = s.op.gap ∧ (s.requestNotice c w).op.tx = s.op.tx ∧
    (s.requestNotice c w).op.owed = s.op.owed := by
  unfold State.requestNotice
  try dsimp only
  (repeat' split) <;> simp

@[simp] theorem requestNotice_views (c : GasClass) (w : Bool) (s : State) :
    (s.requestNotice c w).cfg = s.cfg ∧
    (s.requestNotice c w).loaded = s.loaded ∧
    (∀ y, (s.requestNotice c w).portSet y = s.portSet y) ∧
    (s.requestNotice c w).seconds = s.seconds ∧
    (s.requestNotice c w).inhibited = s.inhibited ∧
    (s.requestNotice c w).inhibitSeconds = s.inhibitSeconds ∧
    (∀ pp, (s.requestNotice c w).port pp = s.port pp) ∧
    (∀ cc, (s.requestNotice c w).rcv cc = s.rcv cc ∧ (s.requestNotice c w).accepting cc = s.accepting cc ∧ (s.requestNotice c w).level cc = s.level cc ∧
      (s.requestNotice c w).band cc = s.band cc) ∧
    (s.requestNotice c w).flowingPeers = s.flowingPeers ∧
    (s.requestNotice c w).waitingPeers = s.waitingPeers ∧
    (∀ aa, (s.requestNotice c w).peer aa = s.peer aa) ∧
    (∀ cc, (s.requestNotice c w).noOther cc = s.noOther cc) ∧
    (∀ ll, (s.requestNotice c w).recordLink ll = s.recordLink ll) := by
  simp [State.portSet, State.cfg, State.loaded, State.seconds, State.inhibited, State.inhibitSeconds, State.port, State.accepting, State.level, State.band, State.peer, State.flowingPeers, State.waitingPeers, State.peersIn, State.noOther, rcv_eq, link_eq]

@[simp] theorem requestNotice_flag (c : GasClass) (w : Bool) (s : State) (e : EventKind) (he : s.op.flag e = true) :
    (s.requestNotice c w).op.flag e = true := by
  unfold State.requestNotice
  try dsimp only
  (repeat' split) <;> simp (maxDischargeDepth := 9) [he]

@[simp] theorem flowNotice_frame (c : GasClass) (n : NextState) (s : State) :
    (s.flowNotice c n).clock = s.clock ∧ (s.flowNotice c n).loader = s.loader ∧
    (s.flowNotice c n).store = s.store ∧ (s.flowNotice c n).ana = s.ana ∧ (s.flowNotice c n).peers = s.peers ∧
    (s.flowNotice c n).lc = s.lc ∧ (s.flowNotice c n).field = s.field ∧
    (s.flowNotice c n).scaleLink = s.scaleLink ∧ (s.flowNotice c n).anaLink = s.anaLink ∧
    (s.flowNotice c n).pending = s.pending ∧ (s.flowNotice c n).free = s.free ∧
    (s.flowNotice c n).agent.viewClass = s.agent.viewClass ∧
    (s.flowNotice c n).agent.viewSerial = s.agent.viewSerial ∧ (s.flowNotice c n).agent.owner = s.agent.owner ∧
    (s.flowNotice c n).agent.heldH = s.agent.heldH ∧ (s.flowNotice c n).agent.heldK = s.agent.heldK ∧
    (s.flowNotice c n).agent.reasonH = s.agent.reasonH ∧ (s.flowNotice c n).agent.reasonK = s.agent.reasonK ∧
    (s.flowNotice c n).agent.overpressure = s.agent.overpressure ∧
    (s.flowNotice c n).agent.headerFault = s.agent.headerFault ∧
    (s.flowNotice c n).agent.conflict = s.agent.conflict ∧
    (s.flowNotice c n).agent.overRepeat = s.agent.overRepeat ∧
    (s.flowNotice c n).agent.conflictRepeat = s.agent.conflictRepeat ∧
    (s.flowNotice c n).agent.purgeSerial = s.agent.purgeSerial ∧ (s.flowNotice c n).agent.purgeV = s.agent.purgeV ∧
    (s.flowNotice c n).line.framer = s.line.framer ∧ (s.flowNotice c n).line.listenIn = s.line.listenIn ∧
    (s.flowNotice c n).line.listenT = s.line.listenT ∧ (s.flowNotice c n).line.clash = s.line.clash ∧
    (s.flowNotice c n).line.clashT = s.line.clashT ∧ (s.flowNotice c n).line.beaconT = s.line.beaconT ∧
    (s.flowNotice c n).line.rxErrors = s.line.rxErrors ∧ (s.flowNotice c n).line.collisions = s.line.collisions ∧
    (s.flowNotice c n).op.framer = s.op.framer ∧ (s.flowNotice c n).op.gap = s.op.gap ∧
    (s.flowNotice c n).op.tx = s.op.tx ∧ (s.flowNotice c n).op.owed = s.op.owed ∧
    (s.flowNotice c n).halo.first = s.halo.first ∧ (s.flowNotice c n).halo.latest = s.halo.latest ∧
    (s.flowNotice c n).halo.overMark = s.halo.overMark ∧ (s.flowNotice c n).halo.baseline = s.halo.baseline ∧
    (s.flowNotice c n).halo.last = s.halo.last ∧ (s.flowNotice c n).halo.attributed = s.halo.attributed ∧
    (s.flowNotice c n).halo.unattributed = s.halo.unattributed ∧ (s.flowNotice c n).halo.outflow = s.halo.outflow ∧
    (s.flowNotice c n).halo.drift = s.halo.drift ∧ (s.flowNotice c n).halo.silence = s.halo.silence ∧
    (s.flowNotice c n).hydro.first = s.hydro.first ∧ (s.flowNotice c n).hydro.latest = s.hydro.latest ∧
    (s.flowNotice c n).hydro.overMark = s.hydro.overMark ∧ (s.flowNotice c n).hydro.baseline = s.hydro.baseline ∧
    (s.flowNotice c n).hydro.last = s.hydro.last ∧ (s.flowNotice c n).hydro.attributed = s.hydro.attributed ∧
    (s.flowNotice c n).hydro.unattributed = s.hydro.unattributed ∧
    (s.flowNotice c n).hydro.outflow = s.hydro.outflow ∧ (s.flowNotice c n).hydro.drift = s.hydro.drift ∧
    (s.flowNotice c n).hydro.silence = s.hydro.silence := by
  unfold State.flowNotice
  try dsimp only
  (repeat' split) <;> simp

@[simp] theorem flowNotice_views (c : GasClass) (n : NextState) (s : State) :
    (s.flowNotice c n).cfg = s.cfg ∧
    (s.flowNotice c n).loaded = s.loaded ∧
    (∀ y, (s.flowNotice c n).portSet y = s.portSet y) ∧
    (s.flowNotice c n).seconds = s.seconds ∧
    (s.flowNotice c n).inhibited = s.inhibited ∧
    (s.flowNotice c n).inhibitSeconds = s.inhibitSeconds ∧
    (s.flowNotice c n).flowingPeers = s.flowingPeers ∧
    (s.flowNotice c n).waitingPeers = s.waitingPeers ∧
    (∀ aa, (s.flowNotice c n).peer aa = s.peer aa) ∧
    (∀ cc, (s.flowNotice c n).noOther cc = s.noOther cc) ∧
    (∀ ll, (s.flowNotice c n).recordLink ll = s.recordLink ll) := by
  simp [State.portSet, State.cfg, State.loaded, State.seconds, State.inhibited, State.inhibitSeconds, State.port, State.accepting, State.level, State.band, State.peer, State.flowingPeers, State.waitingPeers, State.peersIn, State.noOther, rcv_eq, link_eq]

@[simp] theorem flowNotice_flag (c : GasClass) (n : NextState) (s : State) (e : EventKind) (he : s.op.flag e = true) :
    (s.flowNotice c n).op.flag e = true := by
  unfold State.flowNotice
  try dsimp only
  (repeat' split) <;> simp (maxDischargeDepth := 9) [he]

@[simp] theorem viewReaction_frame (l : List (Address × GasClass)) (b : Bool) (s : State) :
    (s.viewReaction l b).clock = s.clock ∧ (s.viewReaction l b).loader = s.loader ∧
    (s.viewReaction l b).store = s.store ∧ (s.viewReaction l b).ana = s.ana ∧
    (s.viewReaction l b).peers = s.peers ∧ (s.viewReaction l b).lc = s.lc ∧ (s.viewReaction l b).field = s.field ∧
    (s.viewReaction l b).scaleLink = s.scaleLink ∧ (s.viewReaction l b).anaLink = s.anaLink ∧
    (s.viewReaction l b).pending = s.pending ∧ (s.viewReaction l b).free = s.free ∧
    (s.viewReaction l b).agent.viewClass = s.agent.viewClass ∧
    (s.viewReaction l b).agent.viewSerial = s.agent.viewSerial ∧ (s.viewReaction l b).agent.owner = s.agent.owner ∧
    (s.viewReaction l b).agent.heldH = s.agent.heldH ∧ (s.viewReaction l b).agent.heldK = s.agent.heldK ∧
    (s.viewReaction l b).agent.reasonH = s.agent.reasonH ∧ (s.viewReaction l b).agent.reasonK = s.agent.reasonK ∧
    (s.viewReaction l b).agent.overpressure = s.agent.overpressure ∧
    (s.viewReaction l b).agent.headerFault = s.agent.headerFault ∧
    (s.viewReaction l b).agent.conflict = s.agent.conflict ∧
    (s.viewReaction l b).agent.overRepeat = s.agent.overRepeat ∧
    (s.viewReaction l b).agent.conflictRepeat = s.agent.conflictRepeat ∧
    (s.viewReaction l b).agent.purgeSerial = s.agent.purgeSerial ∧
    (s.viewReaction l b).agent.purgeV = s.agent.purgeV ∧ (s.viewReaction l b).line.framer = s.line.framer ∧
    (s.viewReaction l b).line.listenIn = s.line.listenIn ∧ (s.viewReaction l b).line.listenT = s.line.listenT ∧
    (s.viewReaction l b).line.clash = s.line.clash ∧ (s.viewReaction l b).line.clashT = s.line.clashT ∧
    (s.viewReaction l b).line.beaconT = s.line.beaconT ∧ (s.viewReaction l b).line.rxErrors = s.line.rxErrors ∧
    (s.viewReaction l b).line.collisions = s.line.collisions ∧ (s.viewReaction l b).op.framer = s.op.framer ∧
    (s.viewReaction l b).op.gap = s.op.gap ∧ (s.viewReaction l b).op.tx = s.op.tx ∧
    (s.viewReaction l b).op.owed = s.op.owed ∧ (s.viewReaction l b).halo.first = s.halo.first ∧
    (s.viewReaction l b).halo.latest = s.halo.latest ∧ (s.viewReaction l b).halo.overMark = s.halo.overMark ∧
    (s.viewReaction l b).halo.baseline = s.halo.baseline ∧ (s.viewReaction l b).halo.last = s.halo.last ∧
    (s.viewReaction l b).halo.attributed = s.halo.attributed ∧
    (s.viewReaction l b).halo.unattributed = s.halo.unattributed ∧
    (s.viewReaction l b).halo.outflow = s.halo.outflow ∧ (s.viewReaction l b).halo.drift = s.halo.drift ∧
    (s.viewReaction l b).halo.silence = s.halo.silence ∧ (s.viewReaction l b).hydro.first = s.hydro.first ∧
    (s.viewReaction l b).hydro.latest = s.hydro.latest ∧ (s.viewReaction l b).hydro.overMark = s.hydro.overMark ∧
    (s.viewReaction l b).hydro.baseline = s.hydro.baseline ∧ (s.viewReaction l b).hydro.last = s.hydro.last ∧
    (s.viewReaction l b).hydro.attributed = s.hydro.attributed ∧
    (s.viewReaction l b).hydro.unattributed = s.hydro.unattributed ∧
    (s.viewReaction l b).hydro.outflow = s.hydro.outflow ∧ (s.viewReaction l b).hydro.drift = s.hydro.drift ∧
    (s.viewReaction l b).hydro.silence = s.hydro.silence := by
  unfold State.viewReaction
  try dsimp only
  (repeat' split) <;> simp

@[simp] theorem viewReaction_views (l : List (Address × GasClass)) (b : Bool) (s : State) :
    (s.viewReaction l b).cfg = s.cfg ∧
    (s.viewReaction l b).loaded = s.loaded ∧
    (∀ y, (s.viewReaction l b).portSet y = s.portSet y) ∧
    (s.viewReaction l b).seconds = s.seconds ∧
    (s.viewReaction l b).inhibited = s.inhibited ∧
    (s.viewReaction l b).inhibitSeconds = s.inhibitSeconds ∧
    (s.viewReaction l b).flowingPeers = s.flowingPeers ∧
    (s.viewReaction l b).waitingPeers = s.waitingPeers ∧
    (∀ aa, (s.viewReaction l b).peer aa = s.peer aa) ∧
    (∀ cc, (s.viewReaction l b).noOther cc = s.noOther cc) ∧
    (∀ ll, (s.viewReaction l b).recordLink ll = s.recordLink ll) := by
  simp [State.portSet, State.cfg, State.loaded, State.seconds, State.inhibited, State.inhibitSeconds, State.port, State.accepting, State.level, State.band, State.peer, State.flowingPeers, State.waitingPeers, State.peersIn, State.noOther, rcv_eq, link_eq]

@[simp] theorem viewReaction_flag (l : List (Address × GasClass)) (b : Bool) (s : State) (e : EventKind) (he : s.op.flag e = true) :
    (s.viewReaction l b).op.flag e = true := by
  unfold State.viewReaction
  try dsimp only
  (repeat' split) <;> simp (maxDischargeDepth := 9) [he]

@[simp] theorem agentStop_frame (b : Bool) (s : State) :
    (s.agentStop b).clock = s.clock ∧ (s.agentStop b).loader = s.loader ∧ (s.agentStop b).store = s.store ∧
    (s.agentStop b).ana = s.ana ∧ (s.agentStop b).peers = s.peers ∧ (s.agentStop b).lc = s.lc ∧
    (s.agentStop b).field = s.field ∧ (s.agentStop b).scaleLink = s.scaleLink ∧
    (s.agentStop b).anaLink = s.anaLink ∧ (s.agentStop b).pending = s.pending ∧ (s.agentStop b).free = s.free ∧
    (s.agentStop b).agent.heldH = s.agent.heldH ∧ (s.agentStop b).agent.heldK = s.agent.heldK ∧
    (s.agentStop b).agent.reasonH = s.agent.reasonH ∧ (s.agentStop b).agent.reasonK = s.agent.reasonK ∧
    (s.agentStop b).agent.overpressure = s.agent.overpressure ∧
    (s.agentStop b).agent.headerFault = s.agent.headerFault ∧ (s.agentStop b).agent.conflict = s.agent.conflict ∧
    (s.agentStop b).agent.overRepeat = s.agent.overRepeat ∧
    (s.agentStop b).agent.conflictRepeat = s.agent.conflictRepeat ∧
    (s.agentStop b).agent.purgeSerial = s.agent.purgeSerial ∧ (s.agentStop b).line.framer = s.line.framer ∧
    (s.agentStop b).line.listenIn = s.line.listenIn ∧ (s.agentStop b).line.listenT = s.line.listenT ∧
    (s.agentStop b).line.clash = s.line.clash ∧ (s.agentStop b).line.clashT = s.line.clashT ∧
    (s.agentStop b).line.beaconT = s.line.beaconT ∧ (s.agentStop b).line.rxErrors = s.line.rxErrors ∧
    (s.agentStop b).line.collisions = s.line.collisions ∧ (s.agentStop b).op.framer = s.op.framer ∧
    (s.agentStop b).op.gap = s.op.gap ∧ (s.agentStop b).op.tx = s.op.tx ∧ (s.agentStop b).op.owed = s.op.owed ∧
    (s.agentStop b).halo.first = s.halo.first ∧ (s.agentStop b).halo.latest = s.halo.latest ∧
    (s.agentStop b).halo.overMark = s.halo.overMark ∧ (s.agentStop b).halo.baseline = s.halo.baseline ∧
    (s.agentStop b).halo.last = s.halo.last ∧ (s.agentStop b).halo.attributed = s.halo.attributed ∧
    (s.agentStop b).halo.unattributed = s.halo.unattributed ∧ (s.agentStop b).halo.outflow = s.halo.outflow ∧
    (s.agentStop b).halo.drift = s.halo.drift ∧ (s.agentStop b).halo.silence = s.halo.silence ∧
    (s.agentStop b).hydro.first = s.hydro.first ∧ (s.agentStop b).hydro.latest = s.hydro.latest ∧
    (s.agentStop b).hydro.overMark = s.hydro.overMark ∧ (s.agentStop b).hydro.baseline = s.hydro.baseline ∧
    (s.agentStop b).hydro.last = s.hydro.last ∧ (s.agentStop b).hydro.attributed = s.hydro.attributed ∧
    (s.agentStop b).hydro.unattributed = s.hydro.unattributed ∧ (s.agentStop b).hydro.outflow = s.hydro.outflow ∧
    (s.agentStop b).hydro.drift = s.hydro.drift ∧ (s.agentStop b).hydro.silence = s.hydro.silence := by
  unfold State.agentStop
  try dsimp only
  (repeat' split) <;> simp

@[simp] theorem agentStop_views (b : Bool) (s : State) :
    (s.agentStop b).cfg = s.cfg ∧
    (s.agentStop b).loaded = s.loaded ∧
    (∀ y, (s.agentStop b).portSet y = s.portSet y) ∧
    (s.agentStop b).seconds = s.seconds ∧
    (s.agentStop b).inhibited = s.inhibited ∧
    (s.agentStop b).inhibitSeconds = s.inhibitSeconds ∧
    (s.agentStop b).flowingPeers = s.flowingPeers ∧
    (s.agentStop b).waitingPeers = s.waitingPeers ∧
    (∀ aa, (s.agentStop b).peer aa = s.peer aa) ∧
    (∀ cc, (s.agentStop b).noOther cc = s.noOther cc) ∧
    (∀ ll, (s.agentStop b).recordLink ll = s.recordLink ll) := by
  simp [State.portSet, State.cfg, State.loaded, State.seconds, State.inhibited, State.inhibitSeconds, State.port, State.accepting, State.level, State.band, State.peer, State.flowingPeers, State.waitingPeers, State.peersIn, State.noOther, rcv_eq, link_eq]

@[simp] theorem agentStop_flag (b : Bool) (s : State) (e : EventKind) (he : s.op.flag e = true) :
    (s.agentStop b).op.flag e = true := by
  unfold State.agentStop
  try dsimp only
  (repeat' split) <;> simp (maxDischargeDepth := 9) [he]

@[simp] theorem agentInhibit_frame (s : State) :
    (s.agentInhibit).clock = s.clock ∧ (s.agentInhibit).loader = s.loader ∧ (s.agentInhibit).store = s.store ∧
    (s.agentInhibit).ana = s.ana ∧ (s.agentInhibit).peers = s.peers ∧ (s.agentInhibit).lc = s.lc ∧
    (s.agentInhibit).field = s.field ∧ (s.agentInhibit).scaleLink = s.scaleLink ∧
    (s.agentInhibit).anaLink = s.anaLink ∧ (s.agentInhibit).pending = s.pending ∧ (s.agentInhibit).free = s.free ∧
    (s.agentInhibit).agent.heldH = s.agent.heldH ∧ (s.agentInhibit).agent.heldK = s.agent.heldK ∧
    (s.agentInhibit).agent.reasonH = s.agent.reasonH ∧ (s.agentInhibit).agent.reasonK = s.agent.reasonK ∧
    (s.agentInhibit).agent.overpressure = s.agent.overpressure ∧
    (s.agentInhibit).agent.headerFault = s.agent.headerFault ∧ (s.agentInhibit).agent.conflict = s.agent.conflict ∧
    (s.agentInhibit).agent.overRepeat = s.agent.overRepeat ∧
    (s.agentInhibit).agent.conflictRepeat = s.agent.conflictRepeat ∧
    (s.agentInhibit).agent.purgeSerial = s.agent.purgeSerial ∧ (s.agentInhibit).line.framer = s.line.framer ∧
    (s.agentInhibit).line.listenIn = s.line.listenIn ∧ (s.agentInhibit).line.listenT = s.line.listenT ∧
    (s.agentInhibit).line.clash = s.line.clash ∧ (s.agentInhibit).line.clashT = s.line.clashT ∧
    (s.agentInhibit).line.beaconT = s.line.beaconT ∧ (s.agentInhibit).line.rxErrors = s.line.rxErrors ∧
    (s.agentInhibit).line.collisions = s.line.collisions ∧ (s.agentInhibit).op.framer = s.op.framer ∧
    (s.agentInhibit).op.gap = s.op.gap ∧ (s.agentInhibit).op.tx = s.op.tx ∧ (s.agentInhibit).op.owed = s.op.owed ∧
    (s.agentInhibit).halo.first = s.halo.first ∧ (s.agentInhibit).halo.latest = s.halo.latest ∧
    (s.agentInhibit).halo.overMark = s.halo.overMark ∧ (s.agentInhibit).halo.baseline = s.halo.baseline ∧
    (s.agentInhibit).halo.last = s.halo.last ∧ (s.agentInhibit).halo.attributed = s.halo.attributed ∧
    (s.agentInhibit).halo.unattributed = s.halo.unattributed ∧ (s.agentInhibit).halo.outflow = s.halo.outflow ∧
    (s.agentInhibit).halo.drift = s.halo.drift ∧ (s.agentInhibit).halo.silence = s.halo.silence ∧
    (s.agentInhibit).hydro.first = s.hydro.first ∧ (s.agentInhibit).hydro.latest = s.hydro.latest ∧
    (s.agentInhibit).hydro.overMark = s.hydro.overMark ∧ (s.agentInhibit).hydro.baseline = s.hydro.baseline ∧
    (s.agentInhibit).hydro.last = s.hydro.last ∧ (s.agentInhibit).hydro.attributed = s.hydro.attributed ∧
    (s.agentInhibit).hydro.unattributed = s.hydro.unattributed ∧ (s.agentInhibit).hydro.outflow = s.hydro.outflow ∧
    (s.agentInhibit).hydro.drift = s.hydro.drift ∧ (s.agentInhibit).hydro.silence = s.hydro.silence := by
  unfold State.agentInhibit
  try dsimp only
  (repeat' split) <;> simp

@[simp] theorem agentInhibit_views (s : State) :
    (s.agentInhibit).cfg = s.cfg ∧
    (s.agentInhibit).loaded = s.loaded ∧
    (∀ y, (s.agentInhibit).portSet y = s.portSet y) ∧
    (s.agentInhibit).seconds = s.seconds ∧
    (s.agentInhibit).inhibited = s.inhibited ∧
    (s.agentInhibit).inhibitSeconds = s.inhibitSeconds ∧
    (s.agentInhibit).flowingPeers = s.flowingPeers ∧
    (s.agentInhibit).waitingPeers = s.waitingPeers ∧
    (∀ aa, (s.agentInhibit).peer aa = s.peer aa) ∧
    (∀ cc, (s.agentInhibit).noOther cc = s.noOther cc) ∧
    (∀ ll, (s.agentInhibit).recordLink ll = s.recordLink ll) := by
  simp [State.portSet, State.cfg, State.loaded, State.seconds, State.inhibited, State.inhibitSeconds, State.port, State.accepting, State.level, State.band, State.peer, State.flowingPeers, State.waitingPeers, State.peersIn, State.noOther, rcv_eq, link_eq]

@[simp] theorem agentInhibit_flag (s : State) (e : EventKind) (he : s.op.flag e = true) :
    (s.agentInhibit).op.flag e = true := by
  unfold State.agentInhibit
  try dsimp only
  (repeat' split) <;> simp (maxDischargeDepth := 9) [he]

@[simp] theorem inhibitAnswer_frame (c : GasClass) (s : State) :
    (s.inhibitAnswer c).clock = s.clock ∧ (s.inhibitAnswer c).loader = s.loader ∧
    (s.inhibitAnswer c).store = s.store ∧ (s.inhibitAnswer c).ana = s.ana ∧ (s.inhibitAnswer c).peers = s.peers ∧
    (s.inhibitAnswer c).lc = s.lc ∧ (s.inhibitAnswer c).field = s.field ∧
    (s.inhibitAnswer c).scaleLink = s.scaleLink ∧ (s.inhibitAnswer c).anaLink = s.anaLink ∧
    (s.inhibitAnswer c).pending = s.pending ∧ (s.inhibitAnswer c).free = s.free ∧
    (s.inhibitAnswer c).agent.reasonH = s.agent.reasonH ∧ (s.inhibitAnswer c).agent.reasonK = s.agent.reasonK ∧
    (s.inhibitAnswer c).agent.overpressure = s.agent.overpressure ∧
    (s.inhibitAnswer c).agent.headerFault = s.agent.headerFault ∧
    (s.inhibitAnswer c).agent.conflict = s.agent.conflict ∧
    (s.inhibitAnswer c).agent.overRepeat = s.agent.overRepeat ∧
    (s.inhibitAnswer c).agent.conflictRepeat = s.agent.conflictRepeat ∧
    (s.inhibitAnswer c).agent.purgeSerial = s.agent.purgeSerial ∧ (s.inhibitAnswer c).line.framer = s.line.framer ∧
    (s.inhibitAnswer c).line.listenIn = s.line.listenIn ∧ (s.inhibitAnswer c).line.listenT = s.line.listenT ∧
    (s.inhibitAnswer c).line.clash = s.line.clash ∧ (s.inhibitAnswer c).line.clashT = s.line.clashT ∧
    (s.inhibitAnswer c).line.beaconT = s.line.beaconT ∧ (s.inhibitAnswer c).line.rxErrors = s.line.rxErrors ∧
    (s.inhibitAnswer c).line.collisions = s.line.collisions ∧ (s.inhibitAnswer c).op.framer = s.op.framer ∧
    (s.inhibitAnswer c).op.gap = s.op.gap ∧ (s.inhibitAnswer c).op.tx = s.op.tx ∧
    (s.inhibitAnswer c).op.owed = s.op.owed ∧ (s.inhibitAnswer c).halo.first = s.halo.first ∧
    (s.inhibitAnswer c).halo.latest = s.halo.latest ∧ (s.inhibitAnswer c).halo.overMark = s.halo.overMark ∧
    (s.inhibitAnswer c).halo.baseline = s.halo.baseline ∧ (s.inhibitAnswer c).halo.last = s.halo.last ∧
    (s.inhibitAnswer c).halo.attributed = s.halo.attributed ∧
    (s.inhibitAnswer c).halo.unattributed = s.halo.unattributed ∧
    (s.inhibitAnswer c).halo.outflow = s.halo.outflow ∧ (s.inhibitAnswer c).halo.drift = s.halo.drift ∧
    (s.inhibitAnswer c).halo.silence = s.halo.silence ∧ (s.inhibitAnswer c).hydro.first = s.hydro.first ∧
    (s.inhibitAnswer c).hydro.latest = s.hydro.latest ∧ (s.inhibitAnswer c).hydro.overMark = s.hydro.overMark ∧
    (s.inhibitAnswer c).hydro.baseline = s.hydro.baseline ∧ (s.inhibitAnswer c).hydro.last = s.hydro.last ∧
    (s.inhibitAnswer c).hydro.attributed = s.hydro.attributed ∧
    (s.inhibitAnswer c).hydro.unattributed = s.hydro.unattributed ∧
    (s.inhibitAnswer c).hydro.outflow = s.hydro.outflow ∧ (s.inhibitAnswer c).hydro.drift = s.hydro.drift ∧
    (s.inhibitAnswer c).hydro.silence = s.hydro.silence := by
  unfold State.inhibitAnswer
  try dsimp only
  (repeat' split) <;> simp

@[simp] theorem inhibitAnswer_views (c : GasClass) (s : State) :
    (s.inhibitAnswer c).cfg = s.cfg ∧
    (s.inhibitAnswer c).loaded = s.loaded ∧
    (∀ y, (s.inhibitAnswer c).portSet y = s.portSet y) ∧
    (s.inhibitAnswer c).seconds = s.seconds ∧
    (s.inhibitAnswer c).inhibited = s.inhibited ∧
    (s.inhibitAnswer c).inhibitSeconds = s.inhibitSeconds ∧
    (s.inhibitAnswer c).flowingPeers = s.flowingPeers ∧
    (s.inhibitAnswer c).waitingPeers = s.waitingPeers ∧
    (∀ aa, (s.inhibitAnswer c).peer aa = s.peer aa) ∧
    (∀ cc, (s.inhibitAnswer c).noOther cc = s.noOther cc) ∧
    (∀ ll, (s.inhibitAnswer c).recordLink ll = s.recordLink ll) := by
  simp [State.portSet, State.cfg, State.loaded, State.seconds, State.inhibited, State.inhibitSeconds, State.port, State.accepting, State.level, State.band, State.peer, State.flowingPeers, State.waitingPeers, State.peersIn, State.noOther, rcv_eq, link_eq]

@[simp] theorem inhibitAnswer_flag (c : GasClass) (s : State) (e : EventKind) (he : s.op.flag e = true) :
    (s.inhibitAnswer c).op.flag e = true := by
  unfold State.inhibitAnswer
  try dsimp only
  (repeat' split) <;> simp (maxDischargeDepth := 9) [he]

/-! ### Line conditions, the receivers' faults -/

@[simp] theorem addCause_frame (c : PauseCause) (x : LineConditions) :
    (x.addCause c).inhibit = x.inhibit ∧ (x.addCause c).estop = x.estop ∧ (x.addCause c).lastPause = x.lastPause ∧
    (x.addCause c).paused = x.paused ∧ (x.addCause c).owed = x.owed ∧ (x.addCause c).estopRepeat = x.estopRepeat := by
  cases c <;> simp [LineConditions.addCause]

@[simp] theorem tellPause_frame (s : State) :
    (s.tellPause).clock = s.clock ∧ (s.tellPause).loader = s.loader ∧ (s.tellPause).store = s.store ∧
    (s.tellPause).ana = s.ana ∧ (s.tellPause).peers = s.peers ∧ (s.tellPause).lc = s.lc ∧
    (s.tellPause).scaleLink = s.scaleLink ∧ (s.tellPause).anaLink = s.anaLink ∧ (s.tellPause).pending = s.pending ∧
    (s.tellPause).free = s.free ∧ (s.tellPause).agent.heldH = s.agent.heldH ∧
    (s.tellPause).agent.heldK = s.agent.heldK ∧ (s.tellPause).agent.reasonH = s.agent.reasonH ∧
    (s.tellPause).agent.reasonK = s.agent.reasonK ∧ (s.tellPause).agent.overpressure = s.agent.overpressure ∧
    (s.tellPause).agent.headerFault = s.agent.headerFault ∧ (s.tellPause).agent.conflict = s.agent.conflict ∧
    (s.tellPause).agent.overRepeat = s.agent.overRepeat ∧
    (s.tellPause).agent.conflictRepeat = s.agent.conflictRepeat ∧
    (s.tellPause).agent.purgeSerial = s.agent.purgeSerial ∧ (s.tellPause).line.framer = s.line.framer ∧
    (s.tellPause).line.listenIn = s.line.listenIn ∧ (s.tellPause).line.listenT = s.line.listenT ∧
    (s.tellPause).line.clash = s.line.clash ∧ (s.tellPause).line.clashT = s.line.clashT ∧
    (s.tellPause).line.beaconT = s.line.beaconT ∧ (s.tellPause).line.rxErrors = s.line.rxErrors ∧
    (s.tellPause).line.collisions = s.line.collisions ∧ (s.tellPause).op.framer = s.op.framer ∧
    (s.tellPause).op.gap = s.op.gap ∧ (s.tellPause).op.tx = s.op.tx ∧ (s.tellPause).op.owed = s.op.owed ∧
    (s.tellPause).halo.first = s.halo.first ∧ (s.tellPause).halo.latest = s.halo.latest ∧
    (s.tellPause).halo.overMark = s.halo.overMark ∧ (s.tellPause).halo.baseline = s.halo.baseline ∧
    (s.tellPause).halo.last = s.halo.last ∧ (s.tellPause).halo.attributed = s.halo.attributed ∧
    (s.tellPause).halo.unattributed = s.halo.unattributed ∧ (s.tellPause).halo.outflow = s.halo.outflow ∧
    (s.tellPause).halo.drift = s.halo.drift ∧ (s.tellPause).halo.silence = s.halo.silence ∧
    (s.tellPause).hydro.first = s.hydro.first ∧ (s.tellPause).hydro.latest = s.hydro.latest ∧
    (s.tellPause).hydro.overMark = s.hydro.overMark ∧ (s.tellPause).hydro.baseline = s.hydro.baseline ∧
    (s.tellPause).hydro.last = s.hydro.last ∧ (s.tellPause).hydro.attributed = s.hydro.attributed ∧
    (s.tellPause).hydro.unattributed = s.hydro.unattributed ∧ (s.tellPause).hydro.outflow = s.hydro.outflow ∧
    (s.tellPause).hydro.drift = s.hydro.drift ∧ (s.tellPause).hydro.silence = s.hydro.silence ∧
    (s.tellPause).field.estop = s.field.estop ∧ (s.tellPause).field.selH = s.field.selH ∧
    (s.tellPause).field.selK = s.field.selK ∧ (s.tellPause).field.samples = s.field.samples ∧
    (s.tellPause).field.sampleTs = s.field.sampleTs ∧ (s.tellPause).field.headerSample = s.field.headerSample ∧
    (s.tellPause).field.headerT = s.field.headerT ∧ (s.tellPause).field.lamp = s.field.lamp := by
  simp [State.tellPause, State.eachPort, FieldUnit.mapPortLines]

@[simp] theorem tellPause_views (s : State) :
    (s.tellPause).cfg = s.cfg ∧
    (s.tellPause).loaded = s.loaded ∧
    (∀ y, (s.tellPause).portSet y = s.portSet y) ∧
    (s.tellPause).seconds = s.seconds ∧
    (s.tellPause).inhibited = s.inhibited ∧
    (s.tellPause).inhibitSeconds = s.inhibitSeconds ∧
    (s.tellPause).flowingPeers = s.flowingPeers ∧
    (s.tellPause).waitingPeers = s.waitingPeers ∧
    (∀ aa, (s.tellPause).peer aa = s.peer aa) ∧
    (∀ cc, (s.tellPause).noOther cc = s.noOther cc) ∧
    (∀ ll, (s.tellPause).recordLink ll = s.recordLink ll) := by
  simp [State.portSet, State.cfg, State.loaded, State.seconds, State.inhibited, State.inhibitSeconds, State.port, State.accepting, State.level, State.band, State.peer, State.flowingPeers, State.waitingPeers, State.peersIn, State.noOther, rcv_eq, link_eq]

@[simp] theorem tellPause_flag (s : State) (e : EventKind) (he : s.op.flag e = true) :
    (s.tellPause).op.flag e = true := by
  simp [State.tellPause, State.eachPort, he]

@[simp] theorem tellResume_frame (s : State) :
    (s.tellResume).clock = s.clock ∧ (s.tellResume).loader = s.loader ∧ (s.tellResume).store = s.store ∧
    (s.tellResume).halo = s.halo ∧ (s.tellResume).hydro = s.hydro ∧ (s.tellResume).peers = s.peers ∧
    (s.tellResume).lc = s.lc ∧ (s.tellResume).scaleLink = s.scaleLink ∧ (s.tellResume).anaLink = s.anaLink ∧
    (s.tellResume).pending = s.pending ∧ (s.tellResume).free = s.free ∧
    (s.tellResume).agent.viewClass = s.agent.viewClass ∧ (s.tellResume).agent.viewSerial = s.agent.viewSerial ∧
    (s.tellResume).agent.owner = s.agent.owner ∧ (s.tellResume).agent.heldH = s.agent.heldH ∧
    (s.tellResume).agent.heldK = s.agent.heldK ∧ (s.tellResume).agent.reasonH = s.agent.reasonH ∧
    (s.tellResume).agent.reasonK = s.agent.reasonK ∧ (s.tellResume).agent.overpressure = s.agent.overpressure ∧
    (s.tellResume).agent.headerFault = s.agent.headerFault ∧ (s.tellResume).agent.conflict = s.agent.conflict ∧
    (s.tellResume).agent.overRepeat = s.agent.overRepeat ∧
    (s.tellResume).agent.conflictRepeat = s.agent.conflictRepeat ∧
    (s.tellResume).agent.purgeSerial = s.agent.purgeSerial ∧ (s.tellResume).agent.dischH = s.agent.dischH ∧
    (s.tellResume).agent.dischK = s.agent.dischK ∧ (s.tellResume).agent.purgeV = s.agent.purgeV ∧
    (s.tellResume).agent.selH = s.agent.selH ∧ (s.tellResume).agent.selK = s.agent.selK ∧
    (s.tellResume).line.framer = s.line.framer ∧ (s.tellResume).line.listenIn = s.line.listenIn ∧
    (s.tellResume).line.listenT = s.line.listenT ∧ (s.tellResume).line.clash = s.line.clash ∧
    (s.tellResume).line.clashT = s.line.clashT ∧ (s.tellResume).line.beaconT = s.line.beaconT ∧
    (s.tellResume).line.rxErrors = s.line.rxErrors ∧ (s.tellResume).line.collisions = s.line.collisions ∧
    (s.tellResume).op.framer = s.op.framer ∧ (s.tellResume).op.gap = s.op.gap ∧ (s.tellResume).op.tx = s.op.tx ∧
    (s.tellResume).op.owed = s.op.owed ∧ (s.tellResume).field.estop = s.field.estop ∧
    (s.tellResume).field.selH = s.field.selH ∧ (s.tellResume).field.selK = s.field.selK ∧
    (s.tellResume).field.samples = s.field.samples ∧ (s.tellResume).field.sampleTs = s.field.sampleTs ∧
    (s.tellResume).field.headerSample = s.field.headerSample ∧ (s.tellResume).field.headerT = s.field.headerT ∧
    (s.tellResume).field.lamp = s.field.lamp := by
  simp [State.tellResume, State.eachPort, FieldUnit.mapPortLines]

@[simp] theorem tellResume_views (s : State) :
    (s.tellResume).cfg = s.cfg ∧
    (s.tellResume).loaded = s.loaded ∧
    (∀ y, (s.tellResume).portSet y = s.portSet y) ∧
    (s.tellResume).seconds = s.seconds ∧
    (s.tellResume).inhibited = s.inhibited ∧
    (s.tellResume).inhibitSeconds = s.inhibitSeconds ∧
    (∀ cc, (s.tellResume).rcv cc = s.rcv cc ∧ (s.tellResume).accepting cc = s.accepting cc ∧ (s.tellResume).level cc = s.level cc ∧
      (s.tellResume).band cc = s.band cc) ∧
    (s.tellResume).flowingPeers = s.flowingPeers ∧
    (s.tellResume).waitingPeers = s.waitingPeers ∧
    (∀ aa, (s.tellResume).peer aa = s.peer aa) ∧
    (∀ cc, (s.tellResume).noOther cc = s.noOther cc) ∧
    (∀ ll, (s.tellResume).recordLink ll = s.recordLink ll) := by
  simp [State.portSet, State.cfg, State.loaded, State.seconds, State.inhibited, State.inhibitSeconds, State.port, State.accepting, State.level, State.band, State.peer, State.flowingPeers, State.waitingPeers, State.peersIn, State.noOther, rcv_eq, link_eq]

@[simp] theorem tellResume_flag (s : State) (e : EventKind) (he : s.op.flag e = true) :
    (s.tellResume).op.flag e = true := by
  simp [State.tellResume, State.eachPort, he]

@[simp] theorem enterPause_frame (c : PauseCause) (s : State) :
    (s.enterPause c).clock = s.clock ∧ (s.enterPause c).loader = s.loader ∧ (s.enterPause c).store = s.store ∧
    (s.enterPause c).ana = s.ana ∧ (s.enterPause c).peers = s.peers ∧ (s.enterPause c).scaleLink = s.scaleLink ∧
    (s.enterPause c).anaLink = s.anaLink ∧ (s.enterPause c).pending = s.pending ∧ (s.enterPause c).free = s.free ∧
    (s.enterPause c).agent.heldH = s.agent.heldH ∧ (s.enterPause c).agent.heldK = s.agent.heldK ∧
    (s.enterPause c).agent.reasonH = s.agent.reasonH ∧ (s.enterPause c).agent.reasonK = s.agent.reasonK ∧
    (s.enterPause c).agent.overpressure = s.agent.overpressure ∧
    (s.enterPause c).agent.headerFault = s.agent.headerFault ∧ (s.enterPause c).agent.conflict = s.agent.conflict ∧
    (s.enterPause c).agent.overRepeat = s.agent.overRepeat ∧
    (s.enterPause c).agent.conflictRepeat = s.agent.conflictRepeat ∧
    (s.enterPause c).agent.purgeSerial = s.agent.purgeSerial ∧ (s.enterPause c).line.framer = s.line.framer ∧
    (s.enterPause c).line.listenIn = s.line.listenIn ∧ (s.enterPause c).line.listenT = s.line.listenT ∧
    (s.enterPause c).line.clash = s.line.clash ∧ (s.enterPause c).line.clashT = s.line.clashT ∧
    (s.enterPause c).line.beaconT = s.line.beaconT ∧ (s.enterPause c).line.rxErrors = s.line.rxErrors ∧
    (s.enterPause c).line.collisions = s.line.collisions ∧ (s.enterPause c).op.framer = s.op.framer ∧
    (s.enterPause c).op.gap = s.op.gap ∧ (s.enterPause c).op.tx = s.op.tx ∧ (s.enterPause c).op.owed = s.op.owed ∧
    (s.enterPause c).halo.first = s.halo.first ∧ (s.enterPause c).halo.latest = s.halo.latest ∧
    (s.enterPause c).halo.overMark = s.halo.overMark ∧ (s.enterPause c).halo.baseline = s.halo.baseline ∧
    (s.enterPause c).halo.last = s.halo.last ∧ (s.enterPause c).halo.attributed = s.halo.attributed ∧
    (s.enterPause c).halo.unattributed = s.halo.unattributed ∧ (s.enterPause c).halo.outflow = s.halo.outflow ∧
    (s.enterPause c).halo.drift = s.halo.drift ∧ (s.enterPause c).halo.silence = s.halo.silence ∧
    (s.enterPause c).hydro.first = s.hydro.first ∧ (s.enterPause c).hydro.latest = s.hydro.latest ∧
    (s.enterPause c).hydro.overMark = s.hydro.overMark ∧ (s.enterPause c).hydro.baseline = s.hydro.baseline ∧
    (s.enterPause c).hydro.last = s.hydro.last ∧ (s.enterPause c).hydro.attributed = s.hydro.attributed ∧
    (s.enterPause c).hydro.unattributed = s.hydro.unattributed ∧ (s.enterPause c).hydro.outflow = s.hydro.outflow ∧
    (s.enterPause c).hydro.drift = s.hydro.drift ∧ (s.enterPause c).hydro.silence = s.hydro.silence ∧
    (s.enterPause c).field.estop = s.field.estop ∧ (s.enterPause c).field.selH = s.field.selH ∧
    (s.enterPause c).field.selK = s.field.selK ∧ (s.enterPause c).field.samples = s.field.samples ∧
    (s.enterPause c).field.sampleTs = s.field.sampleTs ∧
    (s.enterPause c).field.headerSample = s.field.headerSample ∧ (s.enterPause c).field.headerT = s.field.headerT ∧
    (s.enterPause c).field.lamp = s.field.lamp ∧ (s.enterPause c).lc.inhibit = s.lc.inhibit ∧
    (s.enterPause c).lc.estop = s.lc.estop ∧ (s.enterPause c).lc.lastPause = s.lc.lastPause ∧
    (s.enterPause c).lc.estopRepeat = s.lc.estopRepeat := by
  unfold State.enterPause
  try dsimp only
  (repeat' split) <;> simp

@[simp] theorem enterPause_views (c : PauseCause) (s : State) :
    (s.enterPause c).cfg = s.cfg ∧
    (s.enterPause c).loaded = s.loaded ∧
    (∀ y, (s.enterPause c).portSet y = s.portSet y) ∧
    (s.enterPause c).seconds = s.seconds ∧
    (s.enterPause c).inhibited = s.inhibited ∧
    (s.enterPause c).inhibitSeconds = s.inhibitSeconds ∧
    (s.enterPause c).flowingPeers = s.flowingPeers ∧
    (s.enterPause c).waitingPeers = s.waitingPeers ∧
    (∀ aa, (s.enterPause c).peer aa = s.peer aa) ∧
    (∀ cc, (s.enterPause c).noOther cc = s.noOther cc) ∧
    (∀ ll, (s.enterPause c).recordLink ll = s.recordLink ll) := by
  simp [State.portSet, State.cfg, State.loaded, State.seconds, State.inhibited, State.inhibitSeconds, State.port, State.accepting, State.level, State.band, State.peer, State.flowingPeers, State.waitingPeers, State.peersIn, State.noOther, rcv_eq, link_eq]

@[simp] theorem enterPause_flag (c : PauseCause) (s : State) (e : EventKind) (he : s.op.flag e = true) :
    (s.enterPause c).op.flag e = true := by
  unfold State.enterPause
  try dsimp only
  (repeat' split) <;> simp (maxDischargeDepth := 9) [he]

@[simp] theorem estopPause_frame (s : State) :
    (s.estopPause).clock = s.clock ∧ (s.estopPause).loader = s.loader ∧ (s.estopPause).ports = s.ports ∧
    (s.estopPause).store = s.store ∧ (s.estopPause).ana = s.ana ∧ (s.estopPause).halo = s.halo ∧
    (s.estopPause).hydro = s.hydro ∧ (s.estopPause).agent = s.agent ∧ (s.estopPause).peers = s.peers ∧
    (s.estopPause).field = s.field ∧ (s.estopPause).scaleLink = s.scaleLink ∧ (s.estopPause).anaLink = s.anaLink ∧
    (s.estopPause).pending = s.pending ∧ (s.estopPause).free = s.free ∧
    (s.estopPause).line.framer = s.line.framer ∧ (s.estopPause).line.listenIn = s.line.listenIn ∧
    (s.estopPause).line.listenT = s.line.listenT ∧ (s.estopPause).line.clash = s.line.clash ∧
    (s.estopPause).line.clashT = s.line.clashT ∧ (s.estopPause).line.beaconT = s.line.beaconT ∧
    (s.estopPause).line.rxErrors = s.line.rxErrors ∧ (s.estopPause).line.collisions = s.line.collisions ∧
    (s.estopPause).op.framer = s.op.framer ∧ (s.estopPause).op.gap = s.op.gap ∧ (s.estopPause).op.tx = s.op.tx ∧
    (s.estopPause).op.owed = s.op.owed ∧ (s.estopPause).lc.inhibit = s.lc.inhibit ∧
    (s.estopPause).lc.estop = s.lc.estop ∧ (s.estopPause).lc.lastPause = s.lc.lastPause ∧
    (s.estopPause).lc.paused = s.lc.paused ∧ (s.estopPause).lc.causeLine = s.lc.causeLine ∧
    (s.estopPause).lc.causeEstop = s.lc.causeEstop ∧ (s.estopPause).lc.causeOperator = s.lc.causeOperator := by
  simp [State.estopPause]

@[simp] theorem estopPause_views (s : State) :
    (s.estopPause).cfg = s.cfg ∧
    (s.estopPause).loaded = s.loaded ∧
    (∀ y, (s.estopPause).portSet y = s.portSet y) ∧
    (s.estopPause).seconds = s.seconds ∧
    (s.estopPause).inhibited = s.inhibited ∧
    (s.estopPause).inhibitSeconds = s.inhibitSeconds ∧
    (∀ pp, (s.estopPause).port pp = s.port pp) ∧
    (∀ cc, (s.estopPause).rcv cc = s.rcv cc ∧ (s.estopPause).accepting cc = s.accepting cc ∧ (s.estopPause).level cc = s.level cc ∧
      (s.estopPause).band cc = s.band cc) ∧
    (s.estopPause).flowingPeers = s.flowingPeers ∧
    (s.estopPause).waitingPeers = s.waitingPeers ∧
    (∀ aa, (s.estopPause).peer aa = s.peer aa) ∧
    (∀ cc, (s.estopPause).noOther cc = s.noOther cc) ∧
    (∀ ll, (s.estopPause).recordLink ll = s.recordLink ll) := by
  simp [State.portSet, State.cfg, State.loaded, State.seconds, State.inhibited, State.inhibitSeconds, State.port, State.accepting, State.level, State.band, State.peer, State.flowingPeers, State.waitingPeers, State.peersIn, State.noOther, rcv_eq, link_eq]

@[simp] theorem estopPause_flag (s : State) (e : EventKind) (he : s.op.flag e = true) :
    (s.estopPause).op.flag e = true := by
  unfold State.estopPause
  try dsimp only
  (repeat' split) <;> simp (maxDischargeDepth := 9) [he]

@[simp] theorem takeInhibit_frame (n : Nat) (s : State) :
    (s.takeInhibit n).clock = s.clock ∧ (s.takeInhibit n).loader = s.loader ∧ (s.takeInhibit n).store = s.store ∧
    (s.takeInhibit n).ana = s.ana ∧ (s.takeInhibit n).peers = s.peers ∧ (s.takeInhibit n).field = s.field ∧
    (s.takeInhibit n).scaleLink = s.scaleLink ∧ (s.takeInhibit n).anaLink = s.anaLink ∧
    (s.takeInhibit n).pending = s.pending ∧ (s.takeInhibit n).free = s.free ∧
    (s.takeInhibit n).agent.heldH = s.agent.heldH ∧ (s.takeInhibit n).agent.heldK = s.agent.heldK ∧
    (s.takeInhibit n).agent.reasonH = s.agent.reasonH ∧ (s.takeInhibit n).agent.reasonK = s.agent.reasonK ∧
    (s.takeInhibit n).agent.overpressure = s.agent.overpressure ∧
    (s.takeInhibit n).agent.headerFault = s.agent.headerFault ∧
    (s.takeInhibit n).agent.conflict = s.agent.conflict ∧ (s.takeInhibit n).agent.overRepeat = s.agent.overRepeat ∧
    (s.takeInhibit n).agent.conflictRepeat = s.agent.conflictRepeat ∧
    (s.takeInhibit n).agent.purgeSerial = s.agent.purgeSerial ∧ (s.takeInhibit n).line.framer = s.line.framer ∧
    (s.takeInhibit n).line.listenIn = s.line.listenIn ∧ (s.takeInhibit n).line.listenT = s.line.listenT ∧
    (s.takeInhibit n).line.clash = s.line.clash ∧ (s.takeInhibit n).line.clashT = s.line.clashT ∧
    (s.takeInhibit n).line.beaconT = s.line.beaconT ∧ (s.takeInhibit n).line.rxErrors = s.line.rxErrors ∧
    (s.takeInhibit n).line.collisions = s.line.collisions ∧ (s.takeInhibit n).op.framer = s.op.framer ∧
    (s.takeInhibit n).op.gap = s.op.gap ∧ (s.takeInhibit n).op.tx = s.op.tx ∧
    (s.takeInhibit n).op.owed = s.op.owed ∧ (s.takeInhibit n).halo.first = s.halo.first ∧
    (s.takeInhibit n).halo.latest = s.halo.latest ∧ (s.takeInhibit n).halo.overMark = s.halo.overMark ∧
    (s.takeInhibit n).halo.baseline = s.halo.baseline ∧ (s.takeInhibit n).halo.last = s.halo.last ∧
    (s.takeInhibit n).halo.attributed = s.halo.attributed ∧
    (s.takeInhibit n).halo.unattributed = s.halo.unattributed ∧ (s.takeInhibit n).halo.outflow = s.halo.outflow ∧
    (s.takeInhibit n).halo.drift = s.halo.drift ∧ (s.takeInhibit n).halo.silence = s.halo.silence ∧
    (s.takeInhibit n).hydro.first = s.hydro.first ∧ (s.takeInhibit n).hydro.latest = s.hydro.latest ∧
    (s.takeInhibit n).hydro.overMark = s.hydro.overMark ∧ (s.takeInhibit n).hydro.baseline = s.hydro.baseline ∧
    (s.takeInhibit n).hydro.last = s.hydro.last ∧ (s.takeInhibit n).hydro.attributed = s.hydro.attributed ∧
    (s.takeInhibit n).hydro.unattributed = s.hydro.unattributed ∧
    (s.takeInhibit n).hydro.outflow = s.hydro.outflow ∧ (s.takeInhibit n).hydro.drift = s.hydro.drift ∧
    (s.takeInhibit n).hydro.silence = s.hydro.silence ∧ (s.takeInhibit n).lc.estop = s.lc.estop ∧
    (s.takeInhibit n).lc.lastPause = s.lc.lastPause ∧ (s.takeInhibit n).lc.paused = s.lc.paused ∧
    (s.takeInhibit n).lc.causeLine = s.lc.causeLine ∧ (s.takeInhibit n).lc.causeEstop = s.lc.causeEstop ∧
    (s.takeInhibit n).lc.causeOperator = s.lc.causeOperator ∧ (s.takeInhibit n).lc.estopRepeat = s.lc.estopRepeat := by
  unfold State.takeInhibit
  dsimp only
  split <;> simp [State.eachPort]

@[simp] theorem takeInhibit_views (n : Nat) (s : State) :
    (s.takeInhibit n).cfg = s.cfg ∧
    (s.takeInhibit n).loaded = s.loaded ∧
    (∀ y, (s.takeInhibit n).portSet y = s.portSet y) ∧
    (s.takeInhibit n).seconds = s.seconds ∧
    (s.takeInhibit n).flowingPeers = s.flowingPeers ∧
    (s.takeInhibit n).waitingPeers = s.waitingPeers ∧
    (∀ aa, (s.takeInhibit n).peer aa = s.peer aa) ∧
    (∀ cc, (s.takeInhibit n).noOther cc = s.noOther cc) ∧
    (∀ ll, (s.takeInhibit n).recordLink ll = s.recordLink ll) := by
  simp [State.portSet, State.cfg, State.loaded, State.seconds, State.inhibited, State.inhibitSeconds, State.port, State.accepting, State.level, State.band, State.peer, State.flowingPeers, State.waitingPeers, State.peersIn, State.noOther, rcv_eq, link_eq]

@[simp] theorem takeInhibit_flag (n : Nat) (s : State) (e : EventKind) (he : s.op.flag e = true) :
    (s.takeInhibit n).op.flag e = true := by
  unfold State.takeInhibit
  dsimp only
  split <;> simp [State.eachPort, he]

@[simp] theorem endInhibit_frame (s : State) :
    (s.endInhibit).clock = s.clock ∧ (s.endInhibit).loader = s.loader ∧ (s.endInhibit).store = s.store ∧
    (s.endInhibit).ana = s.ana ∧ (s.endInhibit).halo = s.halo ∧ (s.endInhibit).hydro = s.hydro ∧
    (s.endInhibit).peers = s.peers ∧ (s.endInhibit).field = s.field ∧ (s.endInhibit).scaleLink = s.scaleLink ∧
    (s.endInhibit).anaLink = s.anaLink ∧ (s.endInhibit).pending = s.pending ∧ (s.endInhibit).free = s.free ∧
    (s.endInhibit).agent.viewClass = s.agent.viewClass ∧ (s.endInhibit).agent.viewSerial = s.agent.viewSerial ∧
    (s.endInhibit).agent.owner = s.agent.owner ∧ (s.endInhibit).agent.heldH = s.agent.heldH ∧
    (s.endInhibit).agent.heldK = s.agent.heldK ∧ (s.endInhibit).agent.reasonH = s.agent.reasonH ∧
    (s.endInhibit).agent.reasonK = s.agent.reasonK ∧ (s.endInhibit).agent.overpressure = s.agent.overpressure ∧
    (s.endInhibit).agent.headerFault = s.agent.headerFault ∧ (s.endInhibit).agent.conflict = s.agent.conflict ∧
    (s.endInhibit).agent.overRepeat = s.agent.overRepeat ∧
    (s.endInhibit).agent.conflictRepeat = s.agent.conflictRepeat ∧
    (s.endInhibit).agent.purgeSerial = s.agent.purgeSerial ∧ (s.endInhibit).agent.dischH = s.agent.dischH ∧
    (s.endInhibit).agent.dischK = s.agent.dischK ∧ (s.endInhibit).agent.purgeV = s.agent.purgeV ∧
    (s.endInhibit).agent.selH = s.agent.selH ∧ (s.endInhibit).agent.selK = s.agent.selK ∧
    (s.endInhibit).line.framer = s.line.framer ∧ (s.endInhibit).line.listenIn = s.line.listenIn ∧
    (s.endInhibit).line.listenT = s.line.listenT ∧ (s.endInhibit).line.clash = s.line.clash ∧
    (s.endInhibit).line.clashT = s.line.clashT ∧ (s.endInhibit).line.beaconT = s.line.beaconT ∧
    (s.endInhibit).line.rxErrors = s.line.rxErrors ∧ (s.endInhibit).line.collisions = s.line.collisions ∧
    (s.endInhibit).op.framer = s.op.framer ∧ (s.endInhibit).op.gap = s.op.gap ∧ (s.endInhibit).op.tx = s.op.tx ∧
    (s.endInhibit).op.owed = s.op.owed ∧ (s.endInhibit).lc.estop = s.lc.estop ∧
    (s.endInhibit).lc.lastPause = s.lc.lastPause ∧ (s.endInhibit).lc.paused = s.lc.paused ∧
    (s.endInhibit).lc.causeLine = s.lc.causeLine ∧ (s.endInhibit).lc.causeEstop = s.lc.causeEstop ∧
    (s.endInhibit).lc.causeOperator = s.lc.causeOperator ∧ (s.endInhibit).lc.estopRepeat = s.lc.estopRepeat := by
  simp [State.endInhibit, State.eachPort]

@[simp] theorem endInhibit_views (s : State) :
    (s.endInhibit).cfg = s.cfg ∧
    (s.endInhibit).loaded = s.loaded ∧
    (∀ y, (s.endInhibit).portSet y = s.portSet y) ∧
    (s.endInhibit).seconds = s.seconds ∧
    (∀ cc, (s.endInhibit).rcv cc = s.rcv cc ∧ (s.endInhibit).accepting cc = s.accepting cc ∧ (s.endInhibit).level cc = s.level cc ∧
      (s.endInhibit).band cc = s.band cc) ∧
    (s.endInhibit).flowingPeers = s.flowingPeers ∧
    (s.endInhibit).waitingPeers = s.waitingPeers ∧
    (∀ aa, (s.endInhibit).peer aa = s.peer aa) ∧
    (∀ cc, (s.endInhibit).noOther cc = s.noOther cc) ∧
    (∀ ll, (s.endInhibit).recordLink ll = s.recordLink ll) := by
  simp [State.portSet, State.cfg, State.loaded, State.seconds, State.inhibited, State.inhibitSeconds, State.port, State.accepting, State.level, State.band, State.peer, State.flowingPeers, State.waitingPeers, State.peersIn, State.noOther, rcv_eq, link_eq]

@[simp] theorem endInhibit_flag (s : State) (e : EventKind) (he : s.op.flag e = true) :
    (s.endInhibit).op.flag e = true := by
  simp [State.endInhibit, State.eachPort, he]

@[simp] theorem hydroLeak_frame (s : State) :
    (s.hydroLeak).clock = s.clock ∧ (s.hydroLeak).loader = s.loader ∧ (s.hydroLeak).store = s.store ∧
    (s.hydroLeak).ana = s.ana ∧ (s.hydroLeak).peers = s.peers ∧ (s.hydroLeak).field = s.field ∧
    (s.hydroLeak).scaleLink = s.scaleLink ∧ (s.hydroLeak).anaLink = s.anaLink ∧ (s.hydroLeak).pending = s.pending ∧
    (s.hydroLeak).free = s.free ∧ (s.hydroLeak).agent.heldH = s.agent.heldH ∧
    (s.hydroLeak).agent.heldK = s.agent.heldK ∧ (s.hydroLeak).agent.reasonH = s.agent.reasonH ∧
    (s.hydroLeak).agent.reasonK = s.agent.reasonK ∧ (s.hydroLeak).agent.overpressure = s.agent.overpressure ∧
    (s.hydroLeak).agent.headerFault = s.agent.headerFault ∧ (s.hydroLeak).agent.conflict = s.agent.conflict ∧
    (s.hydroLeak).agent.overRepeat = s.agent.overRepeat ∧
    (s.hydroLeak).agent.conflictRepeat = s.agent.conflictRepeat ∧
    (s.hydroLeak).agent.purgeSerial = s.agent.purgeSerial ∧ (s.hydroLeak).line.framer = s.line.framer ∧
    (s.hydroLeak).line.listenIn = s.line.listenIn ∧ (s.hydroLeak).line.listenT = s.line.listenT ∧
    (s.hydroLeak).line.clash = s.line.clash ∧ (s.hydroLeak).line.clashT = s.line.clashT ∧
    (s.hydroLeak).line.beaconT = s.line.beaconT ∧ (s.hydroLeak).line.rxErrors = s.line.rxErrors ∧
    (s.hydroLeak).line.collisions = s.line.collisions ∧ (s.hydroLeak).op.framer = s.op.framer ∧
    (s.hydroLeak).op.gap = s.op.gap ∧ (s.hydroLeak).op.tx = s.op.tx ∧ (s.hydroLeak).op.owed = s.op.owed ∧
    (s.hydroLeak).halo.first = s.halo.first ∧ (s.hydroLeak).halo.latest = s.halo.latest ∧
    (s.hydroLeak).halo.overMark = s.halo.overMark ∧ (s.hydroLeak).halo.baseline = s.halo.baseline ∧
    (s.hydroLeak).halo.last = s.halo.last ∧ (s.hydroLeak).halo.attributed = s.halo.attributed ∧
    (s.hydroLeak).halo.unattributed = s.halo.unattributed ∧ (s.hydroLeak).halo.outflow = s.halo.outflow ∧
    (s.hydroLeak).halo.drift = s.halo.drift ∧ (s.hydroLeak).halo.silence = s.halo.silence ∧
    (s.hydroLeak).hydro.first = s.hydro.first ∧ (s.hydroLeak).hydro.latest = s.hydro.latest ∧
    (s.hydroLeak).hydro.overMark = s.hydro.overMark ∧ (s.hydroLeak).hydro.baseline = s.hydro.baseline ∧
    (s.hydroLeak).hydro.last = s.hydro.last ∧ (s.hydroLeak).hydro.attributed = s.hydro.attributed ∧
    (s.hydroLeak).hydro.unattributed = s.hydro.unattributed ∧ (s.hydroLeak).hydro.outflow = s.hydro.outflow ∧
    (s.hydroLeak).hydro.drift = s.hydro.drift ∧ (s.hydroLeak).hydro.silence = s.hydro.silence ∧
    (s.hydroLeak).lc.estop = s.lc.estop ∧ (s.hydroLeak).lc.lastPause = s.lc.lastPause ∧
    (s.hydroLeak).lc.paused = s.lc.paused ∧ (s.hydroLeak).lc.causeLine = s.lc.causeLine ∧
    (s.hydroLeak).lc.causeEstop = s.lc.causeEstop ∧ (s.hydroLeak).lc.causeOperator = s.lc.causeOperator ∧
    (s.hydroLeak).lc.estopRepeat = s.lc.estopRepeat := by
  simp [State.hydroLeak]

@[simp] theorem hydroLeak_views (s : State) :
    (s.hydroLeak).cfg = s.cfg ∧
    (s.hydroLeak).loaded = s.loaded ∧
    (∀ y, (s.hydroLeak).portSet y = s.portSet y) ∧
    (s.hydroLeak).seconds = s.seconds ∧
    (s.hydroLeak).flowingPeers = s.flowingPeers ∧
    (s.hydroLeak).waitingPeers = s.waitingPeers ∧
    (∀ aa, (s.hydroLeak).peer aa = s.peer aa) ∧
    (∀ cc, (s.hydroLeak).noOther cc = s.noOther cc) ∧
    (∀ ll, (s.hydroLeak).recordLink ll = s.recordLink ll) := by
  simp [State.portSet, State.cfg, State.loaded, State.seconds, State.inhibited, State.inhibitSeconds, State.port, State.accepting, State.level, State.band, State.peer, State.flowingPeers, State.waitingPeers, State.peersIn, State.noOther, rcv_eq, link_eq]

@[simp] theorem hydroLeak_flag (s : State) (e : EventKind) (he : s.op.flag e = true) :
    (s.hydroLeak).op.flag e = true := by
  unfold State.hydroLeak
  try dsimp only
  (repeat' split) <;> simp (maxDischargeDepth := 9) [he]

@[simp] theorem receiverFault_frame (c : GasClass) (k : ReceiverCause) (s : State) :
    (s.receiverFault c k).clock = s.clock ∧ (s.receiverFault c k).loader = s.loader ∧
    (s.receiverFault c k).store = s.store ∧ (s.receiverFault c k).ana = s.ana ∧
    (s.receiverFault c k).peers = s.peers ∧ (s.receiverFault c k).lc = s.lc ∧
    (s.receiverFault c k).field = s.field ∧ (s.receiverFault c k).scaleLink = s.scaleLink ∧
    (s.receiverFault c k).anaLink = s.anaLink ∧ (s.receiverFault c k).pending = s.pending ∧
    (s.receiverFault c k).free = s.free ∧ (s.receiverFault c k).agent.viewClass = s.agent.viewClass ∧
    (s.receiverFault c k).agent.viewSerial = s.agent.viewSerial ∧
    (s.receiverFault c k).agent.owner = s.agent.owner ∧ (s.receiverFault c k).agent.heldH = s.agent.heldH ∧
    (s.receiverFault c k).agent.heldK = s.agent.heldK ∧ (s.receiverFault c k).agent.reasonH = s.agent.reasonH ∧
    (s.receiverFault c k).agent.reasonK = s.agent.reasonK ∧
    (s.receiverFault c k).agent.overpressure = s.agent.overpressure ∧
    (s.receiverFault c k).agent.headerFault = s.agent.headerFault ∧
    (s.receiverFault c k).agent.conflict = s.agent.conflict ∧
    (s.receiverFault c k).agent.overRepeat = s.agent.overRepeat ∧
    (s.receiverFault c k).agent.conflictRepeat = s.agent.conflictRepeat ∧
    (s.receiverFault c k).agent.purgeSerial = s.agent.purgeSerial ∧
    (s.receiverFault c k).agent.purgeV = s.agent.purgeV ∧ (s.receiverFault c k).line.framer = s.line.framer ∧
    (s.receiverFault c k).line.listenIn = s.line.listenIn ∧ (s.receiverFault c k).line.listenT = s.line.listenT ∧
    (s.receiverFault c k).line.clash = s.line.clash ∧ (s.receiverFault c k).line.clashT = s.line.clashT ∧
    (s.receiverFault c k).line.beaconT = s.line.beaconT ∧ (s.receiverFault c k).line.rxErrors = s.line.rxErrors ∧
    (s.receiverFault c k).line.collisions = s.line.collisions ∧ (s.receiverFault c k).op.framer = s.op.framer ∧
    (s.receiverFault c k).op.gap = s.op.gap ∧ (s.receiverFault c k).op.tx = s.op.tx ∧
    (s.receiverFault c k).op.owed = s.op.owed ∧ (s.receiverFault c k).halo.first = s.halo.first ∧
    (s.receiverFault c k).halo.latest = s.halo.latest ∧ (s.receiverFault c k).halo.overMark = s.halo.overMark ∧
    (s.receiverFault c k).halo.baseline = s.halo.baseline ∧ (s.receiverFault c k).halo.last = s.halo.last ∧
    (s.receiverFault c k).halo.attributed = s.halo.attributed ∧
    (s.receiverFault c k).halo.unattributed = s.halo.unattributed ∧
    (s.receiverFault c k).halo.outflow = s.halo.outflow ∧ (s.receiverFault c k).halo.drift = s.halo.drift ∧
    (s.receiverFault c k).halo.silence = s.halo.silence ∧ (s.receiverFault c k).hydro.first = s.hydro.first ∧
    (s.receiverFault c k).hydro.latest = s.hydro.latest ∧ (s.receiverFault c k).hydro.overMark = s.hydro.overMark ∧
    (s.receiverFault c k).hydro.baseline = s.hydro.baseline ∧ (s.receiverFault c k).hydro.last = s.hydro.last ∧
    (s.receiverFault c k).hydro.attributed = s.hydro.attributed ∧
    (s.receiverFault c k).hydro.unattributed = s.hydro.unattributed ∧
    (s.receiverFault c k).hydro.outflow = s.hydro.outflow ∧ (s.receiverFault c k).hydro.drift = s.hydro.drift ∧
    (s.receiverFault c k).hydro.silence = s.hydro.silence := by
  unfold State.receiverFault
  dsimp only
  split <;> cases c <;> simp [State.setRcv, State.rcv, Receiver.dropFlow, Receiver.enterFault]

@[simp] theorem receiverFault_views (c : GasClass) (k : ReceiverCause) (s : State) :
    (s.receiverFault c k).cfg = s.cfg ∧
    (s.receiverFault c k).loaded = s.loaded ∧
    (∀ y, (s.receiverFault c k).portSet y = s.portSet y) ∧
    (s.receiverFault c k).seconds = s.seconds ∧
    (s.receiverFault c k).inhibited = s.inhibited ∧
    (s.receiverFault c k).inhibitSeconds = s.inhibitSeconds ∧
    (s.receiverFault c k).flowingPeers = s.flowingPeers ∧
    (s.receiverFault c k).waitingPeers = s.waitingPeers ∧
    (∀ aa, (s.receiverFault c k).peer aa = s.peer aa) ∧
    (∀ cc, (s.receiverFault c k).noOther cc = s.noOther cc) ∧
    (∀ ll, (s.receiverFault c k).recordLink ll = s.recordLink ll) := by
  simp [State.portSet, State.cfg, State.loaded, State.seconds, State.inhibited, State.inhibitSeconds, State.port, State.accepting, State.level, State.band, State.peer, State.flowingPeers, State.waitingPeers, State.peersIn, State.noOther, rcv_eq, link_eq]

@[simp] theorem receiverFault_flag (c : GasClass) (k : ReceiverCause) (s : State) (e : EventKind) (he : s.op.flag e = true) :
    (s.receiverFault c k).op.flag e = true := by
  unfold State.receiverFault
  try dsimp only
  (repeat' split) <;> simp (maxDischargeDepth := 9) [he]

end Sys2Proof.Machine
end

