-- ==== Sys2Proof/Laws/Words.lean ====
section
/-! SUPPORT. The words statements are said in, as equations of the state's fields. -/

namespace Sys2Proof.Machine

/-- `SameBut` field by field. -/
theorem sameBut_iff (l : List Block) (s u : State) :
    s.SameBut l u ↔
      (Block.clock ∉ l → u.clock = s.clock) ∧ (Block.loader ∉ l → u.loader = s.loader) ∧
      (Block.ports ∉ l → u.ports = s.ports) ∧ (Block.store ∉ l → u.store = s.store) ∧
      (Block.ana ∉ l → u.ana = s.ana) ∧ (Block.receiver .halo ∉ l → u.halo = s.halo) ∧
      (Block.receiver .hydro ∉ l → u.hydro = s.hydro) ∧ (Block.agent ∉ l → u.agent = s.agent) ∧
      (Block.line ∉ l → u.line = s.line) ∧ (Block.peers ∉ l → u.peers = s.peers) ∧
      (Block.conditions ∉ l → u.lc = s.lc) ∧ (Block.field ∉ l → u.field = s.field) ∧
      (Block.op ∉ l → u.op = s.op) ∧ (Block.link .scale ∉ l → u.scaleLink = s.scaleLink) ∧
      (Block.link .analyser ∉ l → u.anaLink = s.anaLink) ∧ (Block.free ∉ l → u.free = s.free) := by
  constructor
  · intro h
    exact ⟨h .clock, h .loader, h .ports, h .store, h .ana, h (.receiver .halo), h (.receiver .hydro), h .agent,
      h .line, h .peers, h .conditions, h .field, h .op, h (.link .scale), h (.link .analyser), h .free⟩
  · rintro ⟨h1, h2, h3, h4, h5, h6, h7, h8, h9, h10, h11, h12, h13, h14, h15, h16⟩ b hb
    cases b with
    | receiver c => cases c; exacts [h6 hb, h7 hb]
    | link l => cases l; exacts [h14 hb, h15 hb]
    | clock => exact h1 hb
    | loader => exact h2 hb
    | ports => exact h3 hb
    | store => exact h4 hb
    | ana => exact h5 hb
    | agent => exact h8 hb
    | line => exact h9 hb
    | peers => exact h10 hb
    | conditions => exact h11 hb
    | field => exact h12 hb
    | op => exact h13 hb
    | free => exact h16 hb

end Sys2Proof.Machine
end

