-- ==== Sys2Proof/Laws/LineFramer.lean ====
section
/-! SUPPORT. The receive framer of the station line: what a byte changes of the line interface, and what a collision leaves of
the station's own frame (R99, R100, R103). -/

namespace Sys2Proof.Machine

/-- The line interface but for the framer and the count of errors. -/
def LineIf.SameButFramer (l m : LineIf) : Prop := m = { l with framer := m.framer, rxErrors := m.rxErrors }

@[simp] theorem setFramer_framer (x : LineFramer) (l : LineIf) : (l.setFramer x).framer = x := rfl
@[simp] theorem setFramer_rxErrors (x : LineFramer) (l : LineIf) : (l.setFramer x).rxErrors = l.rxErrors := rfl

theorem takeByte_frame (own : Address) (l : LineIf) (b : Byte) : l.SameButFramer (l.takeByte own b) := by
  unfold LineIf.SameButFramer LineIf.takeByte
  split <;> rfl

theorem takeBytes_frame (own : Address) (bytes : List Byte) (l : LineIf) :
    l.SameButFramer (bytes.foldl (LineIf.takeByte own) l) := by
  induction bytes generalizing l with
  | nil => rfl
  | cons b rest ih =>
    have h := ih (l.takeByte own b)
    have g := takeByte_frame own l b
    unfold LineIf.SameButFramer at *
    rw [List.foldl_cons, h, g]

theorem takeRemainder_frame (own : Address) (bytes : List Byte) (l : LineIf) :
    l.SameButFramer (l.takeRemainder own bytes) := by
  unfold LineIf.takeRemainder
  split
  · rfl
  · exact takeBytes_frame own _ (l.setFramer .hunting)

/-! ### The station's own frame, byte by byte -/

theorem kindLength_payload (f : Frame) : kindLength f.kindCode = some f.payload.length := by cases f <;> rfl

theorem payload_length_le (f : Frame) : f.payload.length ≤ 10 := by
  cases f <;> simp [Frame.payload, Beacon.payload, bytes16]

theorem kindCode_lt (f : Frame) : f.kindCode < 16 := by cases f <;> simp [Frame.kindCode]

theorem sourceKind_kind (own : Address) (f : Frame) :
    (byteOf (own.val * 16 + f.kindCode)).toNat % 16 = f.kindCode := by
  have h := kindCode_lt f
  have g := own.isLt
  simp only [byteOf, BitVec.toNat_ofNat]
  omega

theorem length_byte (f : Frame) : (byteOf f.payload.length).toNat = f.payload.length := by
  have h := payload_length_le f
  simp only [byteOf, BitVec.toNat_ofNat]
  omega

/-- The length byte a frame carries is its kind's (11.2). -/
theorem length_defined (own : Address) (f : Frame) :
    lengthDefect (byteOf (own.val * 16 + f.kindCode)) (byteOf f.payload.length) = none := by
  have h := payload_length_le f
  simp only [lengthDefect, sourceKind_kind, kindLength_payload, length_byte, if_true]
  exact if_neg (by omega)

/-- Another length byte is a defect (R100). -/
theorem length_altered (own : Address) (f : Frame) (b : Byte) (h : b ≠ byteOf f.payload.length) :
    ∃ d, lengthDefect (byteOf (own.val * 16 + f.kindCode)) b = some d := by
  have g : b.toNat ≠ f.payload.length := fun e => h (BitVec.eq_of_toNat_eq (by rw [e, length_byte]))
  simp only [lengthDefect, sourceKind_kind, kindLength_payload, if_neg g]
  split <;> exact ⟨_, rfl⟩

/-- Bytes of payload and check that do not complete the frame are collected (R99). -/
theorem takeBytes_collects (own : Address) (sk len : Byte) (more pre : List Byte) (l : LineIf)
    (h : pre.length + more.length < len.toNat + 2) :
    more.foldl (LineIf.takeByte own) (l.setFramer (.inFrame (sk :: len :: pre))) =
      l.setFramer (.inFrame (sk :: len :: (pre ++ more))) := by
  induction more generalizing pre with
  | nil => simp
  | cons b rest ih =>
    have hlen : (pre ++ [b]).length + rest.length < len.toNat + 2 := by simp at h ⊢; omega
    have step : (l.setFramer (.inFrame (sk :: len :: pre))).takeByte own b =
        l.setFramer (.inFrame (sk :: len :: (pre ++ [b]))) := by
      have hne : (pre ++ [b]).length ≠ len.toNat + 2 := by simp at hlen ⊢; omega
      have key : (LineFramer.inFrame (sk :: len :: pre)).take own b = (.inFrame (sk :: len :: (pre ++ [b])), none) := by
        cases pre with
        | nil => simp only [LineFramer.take, List.cons_append, List.nil_append] at hne ⊢; rw [if_neg hne]
        | cons x y => simp only [LineFramer.take, List.cons_append] at hne ⊢; rw [if_neg hne]
      simp only [LineIf.takeByte, LineIf.setFramer, key]
    rw [List.foldl_cons, step, ih (pre ++ [b]) hlen, List.append_assoc]
    rfl

/-- A last check byte that differs drops the frame (R100). -/
theorem takeByte_badCheck (own : Address) (sk len c1 c0 b : Byte) (payload : List Byte) (l : LineIf)
    (hp : payload.length = len.toNat) (hc : checkBytes (sk :: len :: payload) = [c1, c0]) (hb : b ≠ c0) :
    (l.setFramer (.inFrame (sk :: len :: (payload ++ [c1])))).takeByte own b = l.dropFrame := by
  have key : (LineFramer.inFrame (sk :: len :: (payload ++ [c1]))).take own b =
      (.skipping, some (.frameDropped .badCheck)) := by
    have hl : (payload ++ [c1] ++ [b]).length = len.toNat + 2 := by simp [hp]
    have ht : (payload ++ [c1] ++ [b]).take len.toNat = payload := by simp [← hp]
    have hd : (payload ++ [c1] ++ [b]).drop len.toNat = [c1, b] := by simp [← hp]
    have hf : frameCommand own sk len payload [c1, b] = .frameDropped .badCheck := by
      unfold frameCommand
      rw [hc, if_pos]
      simp [hb]
    obtain ⟨x, y, hxy⟩ : ∃ x y, payload ++ [c1] = x :: y := by cases payload <;> exact ⟨_, _, rfl⟩
    rw [hxy] at hl ht hd ⊢
    simp only [List.cons_append] at hl ht hd
    simp only [LineFramer.take, List.cons_append]
    rw [if_pos hl, ht, hd, hf]
  simp only [LineIf.takeByte, LineIf.setFramer, key]
  rfl

theorem take_start (own : Address) (l : LineIf) :
    (l.setFramer .hunting).takeByte own startByte = l.setFramer (.inFrame []) := rfl

theorem take_sourceKind (own : Address) (sk : Byte) (l : LineIf) :
    (l.setFramer (.inFrame [])).takeByte own sk = l.setFramer (.inFrame [sk]) := rfl

/-- What a run of the own frame's bytes leaves, all but the last: the frame so far (R99). -/
theorem takeBytes_own (own : Address) (f : Frame) (m : Nat) (l : LineIf)
    (h : m < (f.bytes own).length - 3) :
    ((f.bytes own).take (m + 3)).foldl (LineIf.takeByte own) (l.setFramer .hunting) =
      l.setFramer (.inFrame ((f.bytes own).take (m + 3)).tail) := by
  simp only [Frame.bytes, List.cons_append, List.take_succ_cons, List.foldl_cons, take_start, take_sourceKind,
    List.tail_cons]
  have step : (l.setFramer (.inFrame [byteOf (own.val * 16 + f.kindCode)])).takeByte own (byteOf f.payload.length) =
      l.setFramer (.inFrame [byteOf (own.val * 16 + f.kindCode), byteOf f.payload.length]) := by
    have key := length_defined own f
    simp only [LineIf.takeByte, LineIf.setFramer, LineFramer.take, List.cons_append, List.nil_append, key]
  rw [step, takeBytes_collects]
  · rfl
  · have hl := length_byte f
    simp [Frame.bytes, checkBytes, bytes16] at h
    simp [hl]
    omega

/-- What a collision leaves in the receive framer, whatever the free value (R99, R100, R103; log 13). -/
theorem takeRemainder_keeps (own : Address) (f : Frame) (echo : Nat × Option Byte) (l : LineIf) :
    l.KeepsRemainder (f.bytes own) (l.takeRemainder own (collisionRemainder (f.bytes own) echo)) := by
  obtain ⟨sk, hsk⟩ : ∃ sk, sk = byteOf (own.val * 16 + f.kindCode) := ⟨_, rfl⟩
  obtain ⟨len, hlen⟩ : ∃ len, len = byteOf f.payload.length := ⟨_, rfl⟩
  have hp : f.payload.length = len.toNat := by rw [hlen, length_byte]
  obtain ⟨c1, c0, hc⟩ : ∃ c1 c0, checkBytes (sk :: len :: f.payload) = [c1, c0] := ⟨_, _, rfl⟩
  have hd : f.bytes own = startByte :: sk :: len :: (f.payload ++ [c1, c0]) := by
    simp [Frame.bytes, ← hsk, ← hlen, hc]
  have hdl : (f.bytes own).length = f.payload.length + 5 := by simp [hd]
  obtain ⟨n, hn⟩ : ∃ n, n = echo.1 % (f.bytes own).length := ⟨_, rfl⟩
  obtain ⟨odd, hodd⟩ : ∃ odd, odd = echo.2.filter fun b => decide ((f.bytes own)[n]? ≠ some b) := ⟨_, rfl⟩
  have hlt : n < (f.bytes own).length := hn ▸ Nat.mod_lt _ (by omega)
  have hne : ∀ b, odd = some b → (f.bytes own)[n]? ≠ some b := by
    intro b h
    rw [hodd] at h
    simpa using (Option.filter_eq_some_iff.mp h).2
  have hr : collisionRemainder (f.bytes own) echo = (f.bytes own).take n ++ odd.toList := by
    rw [collisionRemainder, hodd, hn]
  refine ⟨n, odd, hlt, hne, ?_⟩
  rw [hr]
  match n, odd with
  | 0, none => simp [LineIf.takeRemainder]
  | 0, some b =>
    have hb : b ≠ startByte := by rintro rfl; exact hne _ rfl (by simp [hd])
    simp [LineIf.takeRemainder, LineIf.takeByte, LineFramer.take, hb]
  | 1, none => simp [hd, LineIf.takeRemainder, take_start]
  | 1, some b => simp [hd, LineIf.takeRemainder, take_start, take_sourceKind]
  | 2, none =>
    simp [hd, LineIf.takeRemainder, take_start, take_sourceKind]
  | 2, some b =>
    obtain ⟨d, hdd⟩ := length_altered own f b (by rintro rfl; exact hne _ rfl (by simp [hd, hlen]))
    rw [← hsk] at hdd
    have step : (l.setFramer (.inFrame [sk])).takeByte own b = l.dropFrame := by
      simp only [LineIf.takeByte, LineIf.setFramer, LineFramer.take, List.cons_append, List.nil_append, hdd]
      rfl
    simp [hd, LineIf.takeRemainder, take_start, take_sourceKind, step, LineIf.dropFrame, satAdd]
  | m + 3, odd =>
    have hm := takeBytes_own own f m l (by omega)
    have hrun : l.takeRemainder own ((f.bytes own).take (m + 3) ++ odd.toList) =
        odd.toList.foldl (LineIf.takeByte own) (l.setFramer (.inFrame ((f.bytes own).take (m + 3)).tail)) := by
      rw [← hm, ← List.foldl_append]
      simp [hd, LineIf.takeRemainder]
    rw [hrun]
    cases odd with
    | none => simp
    | some b =>
      by_cases hlast : m + 3 + 1 = (f.bytes own).length
      · have hmp : m = f.payload.length + 1 := by omega
        have hb : b ≠ c0 := by
          rintro rfl
          exact hne _ rfl (by simp [hd, hmp])
        have step := takeByte_badCheck own sk len c1 c0 b f.payload l hp hc hb
        have htail : ((f.bytes own).take (m + 3)).tail = sk :: len :: (f.payload ++ [c1]) := by
          simp [hd, hmp, List.take_append]
        simp [htail, step, LineIf.dropFrame, satAdd, hlast]
      · have htail : ((f.bytes own).take (m + 3)).tail = sk :: len :: (f.payload ++ [c1, c0]).take m := by simp [hd]
        have step := takeBytes_collects own sk len [b] ((f.payload ++ [c1, c0]).take m) l (by simp; omega)
        simp only [List.foldl_cons, List.foldl_nil] at step
        simp [htail, step, hlast]

/-- All that a collision does to the receive framer, while the station is SENDING `q`. -/
theorem hearRemainder_spec (s : State) (q : QueuedFrame) (rest : List QueuedFrame) (ht : s.line.tx = .sending)
    (hq : s.line.queue = q :: rest) :
    s.SameBut [.line, .free] s.hearRemainder ∧ s.line.SameButFramer s.hearRemainder.line ∧
      s.line.KeepsRemainder (q.frame.bytes s.cfg.address) s.hearRemainder.line := by
  have hd : (s.setFree (s.free + 1)).driven = q.frame.bytes s.cfg.address := by
    simp only [State.driven, State.setFree, ht, hq]
    rfl
  refine ⟨?_, takeRemainder_frame _ _ _, ?_⟩
  · simp [sameBut_iff, State.hearRemainder, State.setLine, State.setFree]
  · have h := takeRemainder_keeps s.cfg.address q.frame (Config.freeEcho s.free) s.line
    unfold State.hearRemainder
    dsimp only
    rw [hd]
    exact h

/-- A collision is the framer's part and then the transmitter's. -/
theorem collide_sending (s : State) (q : QueuedFrame) (rest : List QueuedFrame) (ht : s.line.tx = .sending)
    (hq : s.line.queue = q :: rest) : s.collide = s.hearRemainder.retryOrDrop := by
  simp only [State.collide, ht, hq]

end Sys2Proof.Machine
end

