-- ==== Sys2Proof/Laws/Time.lean ====
section
/-! SUPPORT. What the passing of time leaves as it is, and the expiry of a timer. -/

namespace Sys2Proof.Machine

/-! ### One timer -/

@[simp] theorem elapse_stopped (n : Nat) : Timer.elapse n .stopped = .stopped := rfl
@[simp] theorem elapse_running (n m : Nat) : Timer.elapse n (.running m) = .running (m - n) := rfl
@[simp] theorem elapse_frozen (n m : Nat) : Timer.elapse n (.frozen m) = .frozen m := rfl

@[simp] theorem elapse_isRunning (n : Nat) (t : Timer) : (t.elapse n).isRunning = t.isRunning := by cases t <;> rfl

@[simp] theorem elapse_eq_stopped (n : Nat) (t : Timer) : t.elapse n = .stopped ↔ t = .stopped := by
  cases t <;> simp

/-! ### The records -/

@[simp] theorem Port_elapse (n : Nat) (x : Port) :
    (x.elapse n).state = x.state ∧ (x.elapse n).slot = x.slot ∧ (x.elapse n).k = x.k ∧
    (x.elapse n).pStart = x.pStart ∧ (x.elapse n).clamp = x.clamp ∧ (x.elapse n).confirm = x.confirm ∧
    (x.elapse n).release = x.release ∧ (x.elapse n).valveH = x.valveH ∧ (x.elapse n).valveK = x.valveK ∧
    (x.elapse n).dwell = x.dwell.elapse n ∧ (x.elapse n).connect = x.connect.elapse n ∧
    (x.elapse n).settle = x.settle.elapse n ∧ (x.elapse n).classifyWait = x.classifyWait.elapse n ∧
    (x.elapse n).hold = x.hold.elapse n := by
  simp [Port.elapse]

@[simp] theorem Receiver_elapse (n : Nat) (r : Receiver) :
    (r.elapse n).state = r.state ∧ (r.elapse n).first = r.first ∧ (r.elapse n).latest = r.latest ∧
    (r.elapse n).overMark = r.overMark ∧ (r.elapse n).baseline = r.baseline ∧ (r.elapse n).last = r.last ∧
    (r.elapse n).attributed = r.attributed ∧ (r.elapse n).unattributed = r.unattributed ∧
    (r.elapse n).outflow = r.outflow ∧ (r.elapse n).drift = r.drift ∧ (r.elapse n).request = r.request ∧
    (r.elapse n).lowest = r.lowest ∧ (r.elapse n).doneSent = r.doneSent ∧ (r.elapse n).stallSent = r.stallSent ∧
    (r.elapse n).silence = r.silence.elapse n ∧ (r.elapse n).stall = r.stall.elapse n := by
  simp [Receiver.elapse]

@[simp] theorem Analyser_elapse (n : Nat) (a : Analyser) :
    (a.elapse n).state = a.state ∧ (a.elapse n).queue = a.queue ∧ (a.elapse n).count = a.count ∧
    (a.elapse n).pointer = a.pointer ∧ (a.elapse n).dueAt = a.dueAt ∧ (a.elapse n).pendingSniff = a.pendingSniff ∧
    (a.elapse n).warning = a.warning ∧ (a.elapse n).leakRecent = a.leakRecent ∧
    (a.elapse n).amodeSniff = a.amodeSniff ∧ (a.elapse n).sampleV = a.sampleV ∧ (a.elapse n).sniffV = a.sniffV ∧
    (a.elapse n).sampleT = a.sampleT.elapse n ∧ (a.elapse n).resultT = a.resultT.elapse n ∧
    (a.elapse n).leakT = a.leakT.elapse n := by
  simp [Analyser.elapse]

@[simp] theorem Agent_elapse (n : Nat) (a : Agent) :
    (a.elapse n).dstate = a.dstate ∧ (a.elapse n).sought = a.sought ∧ (a.elapse n).key = a.key ∧
    (a.elapse n).viewClass = a.viewClass ∧ (a.elapse n).viewSerial = a.viewSerial ∧ (a.elapse n).owner = a.owner ∧
    (a.elapse n).reasonH = a.reasonH ∧ (a.elapse n).reasonK = a.reasonK ∧
    (a.elapse n).overpressure = a.overpressure ∧ (a.elapse n).headerFault = a.headerFault ∧
    (a.elapse n).conflict = a.conflict ∧ (a.elapse n).contended = a.contended ∧
    (a.elapse n).reserved = a.reserved ∧ (a.elapse n).purgeSerial = a.purgeSerial ∧
    (a.elapse n).dischH = a.dischH ∧ (a.elapse n).dischK = a.dischK ∧ (a.elapse n).purgeV = a.purgeV ∧
    (a.elapse n).selH = a.selH ∧ (a.elapse n).selK = a.selK ∧ (a.elapse n).entry = a.entry ∧
    (a.elapse n).heldH = a.heldH.elapse n ∧ (a.elapse n).heldK = a.heldK.elapse n ∧
    (a.elapse n).window = a.window.elapse n ∧ (a.elapse n).drain = a.drain.elapse n ∧
    (a.elapse n).purge = a.purge.elapse n ∧ (a.elapse n).backoff = a.backoff.elapse n ∧
    (a.elapse n).overRepeat = a.overRepeat.elapse n ∧ (a.elapse n).conflictRepeat = a.conflictRepeat.elapse n := by
  simp [Agent.elapse]

@[simp] theorem LineIf_elapse (n : Nat) (l : LineIf) :
    (l.elapse n).framer = l.framer ∧ (l.elapse n).tx = l.tx ∧ (l.elapse n).queue = l.queue ∧
    (l.elapse n).headCount = l.headCount ∧ (l.elapse n).rxErrors = l.rxErrors ∧
    (l.elapse n).collisions = l.collisions ∧ (l.elapse n).listenIn = l.listenIn ∧ (l.elapse n).clash = l.clash ∧
    (l.elapse n).listenT = l.listenT.elapse n ∧ (l.elapse n).clashT = l.clashT.elapse n ∧
    (l.elapse n).beaconT = l.beaconT.elapse n := by
  simp [LineIf.elapse]

@[simp] theorem Peer_elapse (n : Nat) (x : Peer) :
    (x.elapse n).present = x.present ∧ (x.elapse n).lastHeard = x.lastHeard ∧ (x.elapse n).stale = x.stale ∧
    (x.elapse n).beacon = x.beacon ∧ (x.elapse n).beaconAt = x.beaconAt ∧ (x.elapse n).beaconVoid = x.beaconVoid ∧
    (x.elapse n).disch = x.disch ∧ (x.elapse n).dischAt = x.dischAt ∧ (x.elapse n).dischVoid = x.dischVoid ∧
    (x.elapse n).beaconLater = x.beaconLater ∧ (x.elapse n).timer = x.timer.elapse n := by
  simp [Peer.elapse]

@[simp] theorem LineConditions_elapse (n : Nat) (x : LineConditions) :
    (x.elapse n).paused = x.paused ∧ (x.elapse n).causeLine = x.causeLine ∧
    (x.elapse n).causeEstop = x.causeEstop ∧ (x.elapse n).causeOperator = x.causeOperator ∧
    (x.elapse n).lastPause = x.lastPause ∧ (x.elapse n).estop = x.estop ∧ (x.elapse n).owed = x.owed ∧
    (x.elapse n).estopRepeat = x.estopRepeat.elapse n ∧ (x.elapse n).inhibit = x.inhibit.elapse n := by
  simp [LineConditions.elapse]

@[simp] theorem LineInput_elapse (n : Nat) (i : LineInput) :
    (i.elapse n).level = i.level ∧ (i.elapse n).assertLatch = i.assertLatch ∧
    (i.elapse n).deassertLatch = i.deassertLatch ∧ (i.elapse n).pauseRec = i.pauseRec ∧ (i.elapse n).pin = i.pin ∧
    (i.elapse n).filter = i.filter.elapse n := by
  simp [LineInput.elapse]

@[simp] theorem FieldUnit_elapse (n : Nat) (x : FieldUnit) :
    (x.elapse n).samples = x.samples ∧ (x.elapse n).headerSample = x.headerSample ∧ (x.elapse n).lamp = x.lamp ∧
    (x.elapse n).headerT = x.headerT.elapse n := by
  simp [FieldUnit.elapse]

@[simp] theorem sampleTs_elapse (n : Nat) (x : FieldUnit) (p : PortId) :
    (x.elapse n).sampleTs.get p = (x.sampleTs.get p).elapse n := by cases p <;> rfl

@[simp] theorem elapse_input (n : Nat) (x : FieldUnit) (l : InputLine) :
    (x.elapse n).input l = (x.input l).elapse n := by
  cases l with
  | clamp p => cases p <;> rfl
  | confirm p => cases p <;> rfl
  | release p => cases p <;> rfl
  | _ => rfl

@[simp] theorem elapse_gas (n : Nat) (x : Port) : (x.elapse n).gas = x.gas := rfl

@[simp] theorem elapse_valve (n : Nat) (x : Port) (c : GasClass) : (x.elapse n).valve c = x.valve c := by
  cases c <;> rfl

@[simp] theorem elapse_valveOpen (n : Nat) (x : Port) : (x.elapse n).valveOpen = x.valveOpen := rfl

@[simp] theorem elapse_openCase (n : Nat) (x : Port) : (x.elapse n).openCase = x.openCase := rfl

@[simp] theorem elapse_disch (n : Nat) (a : Agent) (c : GasClass) : (a.elapse n).disch c = a.disch c := by
  cases c <;> rfl

@[simp] theorem elapse_heldT (n : Nat) (a : Agent) (c : GasClass) : (a.elapse n).heldT c = (a.heldT c).elapse n := by
  cases c <;> rfl

@[simp] theorem elapse_position (n : Nat) (x : Peer) : (x.elapse n).position = x.position := rfl

@[simp] theorem elapse_fresh (n : Nat) (x : Peer) : (x.elapse n).fresh = x.fresh := rfl

/-! ### The station -/

namespace State

@[simp] theorem elapse_frame (n : Nat) (s : State) :
    (s.elapse n).clock = s.clock + n ∧ (s.elapse n).loader = s.loader ∧ (s.elapse n).store = s.store ∧
    (s.elapse n).ana = s.ana.elapse n ∧ (s.elapse n).halo = s.halo.elapse n ∧
    (s.elapse n).hydro = s.hydro.elapse n ∧ (s.elapse n).agent = s.agent.elapse n ∧
    (s.elapse n).line = s.line.elapse n ∧ (s.elapse n).lc = s.lc.elapse n ∧
    (s.elapse n).field = s.field.elapse n ∧ (s.elapse n).pending = s.pending ∧ (s.elapse n).free = s.free ∧
    (s.elapse n).op.framer = s.op.framer ∧ (s.elapse n).op.tx = s.op.tx ∧ (s.elapse n).op.owed = s.op.owed ∧
    (s.elapse n).op.flags = s.op.flags ∧ (s.elapse n).op.gap = s.op.gap.elapse n := by
  simp [State.elapse]

@[simp] theorem port_elapse (n : Nat) (s : State) (p : PortId) : (s.elapse n).port p = (s.port p).elapse n := by
  cases p <;> rfl

@[simp] theorem rcv_elapse (n : Nat) (s : State) (c : GasClass) : (s.elapse n).rcv c = (s.rcv c).elapse n := by
  cases c <;> rfl

@[simp] theorem peer_elapse (n : Nat) (s : State) (a : Address) : (s.elapse n).peer a = (s.peer a).elapse n := by
  simp [State.peer, State.elapse]

@[simp] theorem flag_elapse (n : Nat) (s : State) (e : EventKind) : (s.elapse n).op.flag e = s.op.flag e := rfl

@[simp] theorem elapse_views (n : Nat) (s : State) :
    (s.elapse n).cfg = s.cfg ∧ (s.elapse n).loaded = s.loaded ∧ (s.elapse n).inhibited = s.inhibited ∧
    (∀ c, (s.elapse n).accepting c = s.accepting c ∧ (s.elapse n).level c = s.level c ∧
      (s.elapse n).band c = s.band c) ∧
    (∀ x, (s.elapse n).portSet x = s.portSet x) ∧ (s.elapse n).mayServe = s.mayServe := by
  refine ⟨rfl, rfl, ?_, ?_, fun _ => rfl, rfl⟩
  · simp [State.inhibited]
  · intro c; cases c <;> exact ⟨rfl, rfl, rfl⟩

@[simp] theorem elapse_peers (n : Nat) (s : State) :
    (∀ d, (s.elapse n).peersIn d = s.peersIn d) ∧ (s.elapse n).flowingPeers = s.flowingPeers ∧
    (s.elapse n).waitingPeers = s.waitingPeers ∧ (∀ c, (s.elapse n).noOther c = s.noOther c) := by
  have h : ∀ d, (s.elapse n).peersIn d = s.peersIn d := fun d => by
    unfold State.peersIn
    congr 1
    funext a
    rw [peer_elapse]
    rfl
  exact ⟨h, h _, h _, fun c => by simp [State.noOther, State.flowingPeers, State.waitingPeers, h]⟩

@[simp] theorem elapse_sniffTarget (n : Nat) (s : State) : (s.elapse n).sniffTarget = s.sniffTarget := by
  simp [State.sniffTarget]

/-- Seconds never fall as time passes, so no case closes before it opened (R87). -/
theorem seconds_le_elapse (n : Nat) (s : State) : s.seconds ≤ (s.elapse n).seconds := by
  have h : s.clock / 1000 ≤ (s.elapse n).clock / 1000 := Nat.div_le_div_right (Nat.le_add_right _ _)
  unfold State.seconds
  omega

/-- An expiry of a timer that runs: the time up to it passes, and the act is taken. -/
theorem onExpiry_running (n : Nat) (act : State → State) (s : State) :
    s.onExpiry (.running n) act = act (s.elapse n) := rfl

end State

end Sys2Proof.Machine
end

