-- ==== Sys2Proof/Laws/Queue.lean ====
section
/-! SUPPORT. The transmit queue: what becomes of an offered frame (R104, R105), and that the queue stays within its bound. -/

namespace Sys2Proof.Machine

theorem replaceIn_length {q : QueuedFrame} {l w : List QueuedFrame} (h : replaceIn q l = some w) :
    w.length = l.length := by
  induction l generalizing w with
  | nil => simp [replaceIn] at h
  | cons x rest ih =>
    simp only [replaceIn] at h
    split at h
    · simp_all [← Option.some.inj h]
    · cases h' : replaceIn q rest with
      | none => simp [h'] at h
      | some v => simp [h'] at h; simp [← h, ih h']

theorem replaceIn_mem {q : QueuedFrame} {l w : List QueuedFrame} (h : replaceIn q l = some w) : q ∈ w := by
  induction l generalizing w with
  | nil => simp [replaceIn] at h
  | cons x rest ih =>
    simp only [replaceIn] at h
    split at h
    · simp [← Option.some.inj h]
    · cases h' : replaceIn q rest with
      | none => simp [h'] at h
      | some v => simp [h'] at h; simp [← h, ih h']

theorem dropBeacon_length {l w : List QueuedFrame} (h : dropBeacon l = some w) : w.length + 1 = l.length := by
  induction l generalizing w with
  | nil => simp [dropBeacon] at h
  | cons x rest ih =>
    simp only [dropBeacon] at h
    split at h
    · simp [← Option.some.inj h]
    · cases h' : dropBeacon rest with
      | none => simp [h'] at h
      | some v => simp [h'] at h; simp [← h, ih h']

/-- The two parts of the queue. -/
theorem parts_length (l : LineIf) : l.sendingPart.length + l.waitingPart.length = l.queue.length := by
  unfold LineIf.sendingPart LineIf.waitingPart
  split
  · cases l.queue <;> simp [Nat.add_comm]
  · simp

@[simp] theorem wake_queue (l : LineIf) : l.wake.queue = l.queue := by
  unfold LineIf.wake; split <;> rfl

@[simp] theorem headDropped_queue (l : LineIf) : l.headDropped.queue = l.queue := rfl

/-- An offered frame never takes the queue above eight (R104). -/
theorem offer_length (q : QueuedFrame) (l : LineIf) (h : l.queue.length ≤ Config.frameRoom) :
    (l.offer q).1.queue.length ≤ Config.frameRoom := by
  unfold LineIf.offer
  have hp := parts_length l
  split
  · exact h
  · split
    · next w hw => have := replaceIn_length hw; simp; omega
    · split
      · simp; omega
      · split
        · next w hw =>
          have := dropBeacon_length hw
          simp; omega
        · exact h

/-- A frame that is taken is in the queue. -/
theorem offer_taken (q : QueuedFrame) (l : LineIf) (h : (l.offer q).2 = .taken) : q ∈ (l.offer q).1.queue := by
  revert h
  unfold LineIf.offer
  split
  · simp
  · split
    · next w hw => intro _; simp [replaceIn_mem hw]
    · split
      · simp
      · split
        · intro _; simp
        · simp

/-- Only address clash, and CONFIG_FAULT, lose a frame without a full queue. -/
theorem offer_not_clash (q : QueuedFrame) (l : LineIf) (h : l.clash = false) : (l.offer q).2 ≠ .lostClash := by
  unfold LineIf.offer
  rw [if_neg (by simp [h])]
  (repeat' split) <;> simp

/-- With room in the queue a frame is taken. -/
theorem offer_room (q : QueuedFrame) (l : LineIf) (hc : l.clash = false) (h : l.queue.length < Config.frameRoom) :
    (l.offer q).2 = .taken := by
  unfold LineIf.offer
  rw [if_neg (by simp [hc])]
  split
  · rfl
  · rw [if_pos h]

/-- A frame of line conditions is in the queue, or is owed a further offer (R154). -/
theorem lcOffer_willSend (f : Frame) (s : State) (h : s.loaded = true) (hc : s.line.clash = false) :
    (s.lcOffer f).willSend f := by
  have h1 := offer_taken ⟨f, 0⟩ s.line
  have h2 := offer_not_clash ⟨f, 0⟩ s.line hc
  unfold State.lcOffer State.offerEntry
  simp only [h, if_true]
  cases h3 : (s.line.offer ⟨f, 0⟩).2 with
  | taken => exact Or.inl ⟨_, h1 h3, rfl⟩
  | lostFull => exact Or.inr (by simp)
  | lostClash => exact absurd h3 h2

end Sys2Proof.Machine
end

