-- ==== Sys2Proof/Laws/Status.lean ====
section
/-! SUPPORT. The run of messages a STATUS response is sent as: one for each part, in order, with its fields after the two leading
bytes, its index, and the last marked (11.4). -/

namespace Sys2Proof.Machine

theorem statusMessages_cons (index : Nat) (x : StatusPart) (l : List StatusPart) :
    statusMessages index (x :: l) =
      ⟨0x86, byteOf x.code :: byteOf (if l = [] then 128 + index else index) :: x.fields⟩ ::
        statusMessages (index + 1) l := by
  cases l <;> rfl

theorem statusMessages_length (index : Nat) (l : List StatusPart) : (statusMessages index l).length = l.length := by
  induction l generalizing index with
  | nil => rfl
  | cons x l ih => rw [statusMessages_cons, List.length_cons, List.length_cons, ih]

theorem statusMessages_codes (index : Nat) (l : List StatusPart) :
    (statusMessages index l).map (fun m => m.payload.head?) = l.map fun x => some (byteOf x.code) := by
  induction l generalizing index with
  | nil => rfl
  | cons x l ih => rw [statusMessages_cons, List.map_cons, List.map_cons, ih]; rfl

theorem statusMessages_fields (index : Nat) (l : List StatusPart) :
    (statusMessages index l).map (fun m => m.payload.drop 2) = l.map StatusPart.fields := by
  induction l generalizing index with
  | nil => rfl
  | cons x l ih => rw [statusMessages_cons, List.map_cons, List.map_cons, ih]; rfl

theorem statusMessages_get (index i : Nat) (l : List StatusPart) (m : Message)
    (h : (statusMessages index l)[i]? = some m) :
    m.type = 0x86 ∧
      m.payload[1]? = some (byteOf (if i + 1 = l.length then 128 + (index + i) else index + i)) := by
  induction l generalizing index i with
  | nil => cases h
  | cons x l ih =>
    rw [statusMessages_cons] at h
    cases i with
    | zero =>
      obtain rfl : _ = m := by simpa using h
      cases l <;> simp
    | succ i =>
      have g := ih (index + 1) i (by simpa using h)
      simp only [List.length_cons, Nat.add_right_cancel_iff, show index + 1 + i = index + (i + 1) by omega] at g ⊢
      exact g

/-- The parts of a STATUS response, by their codes. -/
theorem statusParts_codes (s : State) :
    s.statusParts.map StatusPart.code =
      [1, 2, 2, 3, 4, 5, 6, 7] ++ List.replicate (addresses.filter fun a => (s.peer a).present).length 8 := by
  simp [State.statusParts, State.stationPart, State.receiverPart, State.analyserPart, State.casesPart, State.headerPart,
    State.linePart, State.fieldPart, Function.comp_def, State.peerPart, List.map_const']

end Sys2Proof.Machine
end

