-- ==== Sys2Proof/Tests/Slice0.lean ====
section
/-! SUPPORT. Tests of the model: ill-formed commands, the worked examples of the manual, and for every statement with
hypotheses a concrete state and operands that meet them (test_meets_<statement>). -/

namespace Sys2Proof.Tests

open Sys2Proof Machine

/-! ### Ill-formed commands -/

theorem test_image_of_127_bytes_is_refused :
    (Instr.loadingFinishes (.bytes (List.replicate 127 0)) 0).wellFormed = false ∧
      (Instr.loadingFinishes (.bytes (List.replicate 128 0)) 0).wellFormed = true := by
  decide +kernel

theorem test_openCase_of_41_bytes_is_refused :
    (Instr.openCase 0 0 (some 1) none (List.replicate 35 0x41)).wellFormed = false ∧
      (Instr.openCase 0 0 (some 1) none (List.replicate 34 0x41)).wellFormed = true := by decide

theorem test_unknownRequest_of_a_request_type_is_refused :
    (Instr.unknownRequest 8).wellFormed = false ∧ (Instr.unknownRequest 1).wellFormed = false ∧
      (Instr.unknownRequest 9).wellFormed = true ∧ (Instr.unknownRequest 0).wellFormed = true := by decide

theorem test_frames_with_undefined_fields_are_refused :
    (Instr.beacon 1 ⟨8, 1, 0, 0, 0, 0, 0, 0, 0⟩).wellFormed = false ∧ (Instr.intent 1 3 1 0).wellFormed = false ∧
      (Instr.intent 1 1 1 16).wellFormed = false ∧ (Instr.flowOn 1 0 5).wellFormed = false ∧
      (Instr.flowOff 1 3).wellFormed = false ∧ (Instr.purgeStart 1 0 5).wellFormed = false ∧
      (Instr.purgeDone 1 3 5).wellFormed = false ∧ (Instr.hold 1 0 1).wellFormed = false ∧
      (Instr.hold 1 1 4).wellFormed = false ∧ (Instr.pause 1 0).wellFormed = false ∧
      (Instr.alarm 1 2 601).wellFormed = false ∧ (Instr.alarm 1 1 30).wellFormed = false := by decide

/-! ### Worked examples of the manual -/

/-- The check value of this CRC (R98) over the bytes "123456789". -/
theorem test_crc_of_the_nine_digits :
    crc16 [0x31, 0x32, 0x33, 0x34, 0x35, 0x36, 0x37, 0x38, 0x39] = 0x29B1 := by decide +kernel

/-- The BEACON of the example in 11.2. -/
theorem test_beacon_bytes :
    (Frame.bytes 4 (.beacon ⟨.flowing, some .halo, 13, some .halo, 7, false, 0, 13, 2, false, false, false, false⟩)).take
      13 = [0xC3, 0x41, 10, 6, 1, 13, 1, 7, 0, 0, 0, 0xD2, 0] := by decide +kernel

/-- The fill bands of the example at R34. -/
theorem test_fill_bands :
    let g : ReceiverSet := ⟨8000, 12000, 9000, 500, 5⟩
    let r (n : Nat) : Receiver := { Receiver.reset with state := .accepting, first := true, latest := BitVec.ofNat 16 n }
    (r 17850).band g = 13 ∧ (r 19400).band g = 15 ∧ (r 19200).band g = 14 := by decide

/-- The three divisions of 2.5. -/
theorem test_apportionment :
    let a : List Share := [⟨.p0, 412⟩, ⟨.p2, 95⟩, ⟨.p3, 203⟩]
    let b : List Share := [⟨.p1, 500⟩, ⟨.p3, 500⟩]
    let c : List Share := [⟨.p0, 0⟩, ⟨.p1, 10⟩]
    a.map (finalShare 7 a) = [4, 1, 2] ∧ b.map (finalShare 3 b) = [2, 1] ∧ c.map (finalShare 2 c) = [0, 2] := by decide

/-- The five outcomes of the example at R67. -/
theorem test_classification :
    let g : AnalyserSet := ⟨3, 200, 20, 1, 1, 1, 0, 0, 10⟩
    classifyDecision g 612 9 = .halo ∧ classifyDecision g 31 540 = .mixed ∧ classifyDecision g 8 233 = .hydro ∧
      classifyDecision g 150 12 = .none ∧ classifyDecision g 20 20 = .mixed := by decide

/-- A record as OPEN_CASE leaves it. -/
def record (n : Nat) (p : PortId) (kind : Kind) : CaseRecord :=
  { caseNo := n, port := p, kind := kind, tag := [0x41], declaredClass := none, declaredCharge := none, foamMass := none,
    measured := none, initialHpa := none, stepsDone := 0, stallStep := none, recycles := 0, lastRise := none, massG := 0,
    mismatch := false, massSat := false, lowYield := false, yieldFig := none, traceHits := 0, qReason := none,
    result := none, openedS := 0, closedS := none }

/-- The yields of the example at R56. -/
theorem test_yields :
    yieldOf { record 1 .p0 .circuit with declaredCharge := some 140, massG := 118 } .complete = some 84 ∧
      yieldOf { record 1 .p0 .foam with foamMass := some 38, massG := 1243 } .complete = some 32 ∧
      yieldOf { record 1 .p0 .circuit with declaredCharge := some 150, massG := 410 } .complete = some 255 ∧
      yieldOf (record 1 .p0 .circuit) .complete = none ∧ lowYieldOf 85 (some 84) = true := by decide

/-- The presence mask of case 91 (11.4). -/
theorem test_presence_mask :
    presenceMask
      { record 91 .p0 .circuit with
        declaredCharge := some 140, measured := some ⟨.mixed, 31, 540⟩, initialHpa := some 900, qReason := some .mixed,
        yieldFig := some 0 } = 0xCD := by decide

/-- The body of the image of the example in 10.4, with the other fields at values in range. -/
def imageBody : List Byte :=
  [3, 1, 2, 0, 1, 0, 0, 20] ++
    [4, 0x02, 0xBC, 60, 0x01, 0x40, 60, 0x01, 0x40, 60, 0, 60, 60, 0, 0, 1, 0, 0, 1] ++
    [3, 0, 250, 60, 0, 110, 60, 0, 40, 60, 0, 0, 1, 0, 0, 1, 0, 0, 1] ++
    [20, 30, 10, 0, 30, 2, 0, 150, 80] ++ [20, 30, 10, 0, 30, 2, 0, 200, 80] ++
    [3, 0, 200, 0, 20, 0, 5, 0, 50, 0, 50, 1, 5, 60] ++
    [0x1F, 0x40, 0x2E, 0xE0, 0x30, 0xD4, 0x30, 0x70, 5] ++ [0, 0, 0, 0, 0x13, 0x88, 0x0F, 0xA0, 5] ++
    [10, 20, 0x13, 0x88, 30, 0, 60] ++ List.replicate 23 0

def imageOf (body : List Byte) : List Byte := body ++ checkBytes body

/-- The adjustments and warnings of the example in 10.4. -/
theorem test_image_with_warnings :
    imageBody.length = 126 ∧
      ((readConfig imageBody).circuit.steps.map Step.target, (readConfig imageBody).foam.steps.map Step.target) =
        ([700, 320], [250, 110, 40]) ∧
      (readConfig imageBody).kinds = ⟨none, none, none, none⟩ ∧
      ((readConfig imageBody).halo.dOn, (readConfig imageBody).halo.dOff) = (11999, 11998) ∧
      ((readConfig imageBody).hydro.full, (readConfig imageBody).hydro.dOn, (readConfig imageBody).hydro.dOff) =
        (2, 1, 0) ∧
      (readConfig imageBody).analyser.ti = 20 ∧
      readWarnings imageBody = ⟨1, true, false, true, true, true, true, false⟩ := by decide +kernel

/-- The bytes of a RESUME of station 6 (5.2) and of a message are read back by the framers. -/
theorem test_framers_read_what_is_sent :
    LineFramer.hunting.run 3 (Frame.bytes 6 .resume) = [.resume 6] ∧
      LineFramer.hunting.run 3 (Frame.bytes 3 .resume) = [.clashFrame] ∧
      LineFramer.hunting.run 3 (Frame.bytes 2 (.alarm 60)) = [.alarm 2 2 60] ∧
      LineFramer.hunting.run 3 [0xC3, 0x69, 1, 0] = [.frameDropped .wrongLength] ∧
      messageCommand 0x04 1 [2] (checkBytes [0x04, 1, 2]) = .portStatus 2 ∧
      messageCommand 0x01 6 [0, 1, 0, 2, 0x41, 0x42] (checkBytes [0x01, 6, 0, 1, 0, 2, 0x41, 0x42]) =
        .openCase 0 1 none none [0x41, 0x42] ∧
      recordCommand .scale 0x51 3 [0x41, 1, 2] (checkBytes [0x51, 3, 0x41, 1, 2]) = .reading .hydro true 0x0102 := by
  decide +kernel

/-! ### A station to test on -/

def testKind : KindSet := ⟨[⟨600, 60⟩, ⟨250, 90⟩, ⟨80, 120⟩], 20, 30, 10, 30, 2, 900, 80⟩

def testConfig : StationConfig where
  address := 3
  kinds := ⟨some .circuit, some .foam, none, some .circuit⟩
  polarities := 0
  debounceMs := 20
  circuit := testKind
  foam := testKind
  analyser := ⟨3, 200, 20, 5, 50, 60, 1, 5, 60⟩
  halo := ⟨8000, 12000, 9000, 500, 5⟩
  hydro := ⟨8000, 12000, 9000, 500, 5⟩
  header := ⟨10, 20, 5000, 30, 60⟩

/-- A station in LOADED and in RUN: three ports in VACANT, the links in HUNTING, the receivers ACCEPTING 1000 g. -/
def base : State :=
  let input : LineInput := { LineInput.reset with level := some false }
  let readback : LineInput := { input with pin := true }
  let vacant : Port := { Port.reset with state := .vacant }
  let receiver : Receiver :=
    { Receiver.reset with
      state := .accepting, first := true, latest := 9000, last := 9000, baseline := 9000, silence := .running 500 }
  { State.reset with
    loader := ⟨.loaded, none, some testConfig, .none⟩
    ports := ⟨vacant, vacant, .reset, vacant⟩
    halo := receiver
    hydro := receiver
    ana := { Analyser.reset with state := .idle }
    line := { LineIf.reset with framer := .hunting, tx := .idle, beaconT := .running 250 }
    field :=
      { FieldUnit.reset with
        clamp := ⟨input, input, input, input⟩, confirm := ⟨input, input, input, input⟩,
        release := ⟨input, input, input, input⟩, estop := input, selH := readback, selK := readback,
        samples := ⟨.good 412, .good 95, .absent, .good 203⟩,
        sampleTs := ⟨.running 50, .running 50, .running 50, .running 50⟩, headerSample := .good 1000,
        headerT := .running 50 }
    op := { OperatorPort.reset with framer := .hunting }
    scaleLink := ⟨.hunting, .stopped⟩
    anaLink := ⟨.hunting, .stopped⟩ }

def paused : State := { base with lc := { base.lc with paused := true, causeOperator := true } }

/-! ### A few steps -/

/-- The state a command answers. -/
def after (i : Instr) (s : State) : State :=
  match exec i s with
  | .next t => t
  | _ => s

/-- Port 0 extracts HALO at step 1 with its valve open. -/
def extracting : State :=
  { base with
    ports := base.ports.set .p0
      { Port.reset with
        state := .extract, slot := some { record 5 .p0 .circuit with measured := some ⟨.halo, 612, 9⟩ }, k := some 1,
        dwell := .running 60000, clamp := true, confirm := true, valveH := true } }

/-- The sample of the example at R13 completes steps 1 and 2, and one of 80 hPa the third. -/
theorem test_sample_completes_steps :
    let s := after (.portSample .p0 (.hpa 231)) extracting
    let t := after (.portSample .p0 (.hpa 80)) s
    (s.port .p0).k = some 3 ∧ (s.port .p0).dwell = .running 120000 ∧ (t.port .p0).state = .riseTest ∧
      (t.port .p0).valveH = false ∧ ((t.port .p0).slot.map CaseRecord.stepsDone) = some 3 := by decide

/-- Two readings of the example at R40: a gain of 7 g to the open port, and a fall of 2 g within the noise. -/
theorem test_readings_are_booked :
    let s := after (.reading .halo false 9007) extracting
    let t := after (.reading .halo false 9005) s
    s.halo.attributed = 7 ∧ ((s.port .p0).slot.map CaseRecord.massG) = some 7 ∧ t.halo.drift = -2 ∧ t.halo.attributed = 7 ∧
      t.halo.last = 9005 := by decide

/-- The first removal of the example in 4.7 releases port 3, whose record closed first. -/
theorem test_takeReport_releases_the_earliest :
    let closing (n t : Nat) (p : PortId) (clamp : Bool) : Port :=
      { Port.reset with state := .closing, slot := some { record n p .circuit with closedS := some t }, clamp := clamp }
    let s : State :=
      { base with
        ports := ⟨closing 213 4410 .p0 true, closing 215 4410 .p1 false, .reset, closing 214 4408 .p3 false⟩
        store := ⟨(List.range 12).map fun i => record (201 + i) .p2 .circuit, 217⟩ }
    let t := after .takeReport s
    (t.store.queue.map CaseRecord.caseNo) = [202, 203, 204, 205, 206, 207, 208, 209, 210, 211, 212, 214] ∧
      (t.port .p3).state = .vacant ∧ (t.port .p0).state = .closing := by decide

/-- A station without its image pauses nothing and refuses a request with CONFIG_FAULT. -/
theorem test_configFault_refuses :
    let s := after (.loadingFinishes .noAck 0) State.reset
    let t := after .pauseLine (after .operatorLinkQuiet s)
    s.loader.state = .configFault .noAck ∧ t.op.tx = .responding [⟨0x82, [11, 7]⟩] ∧ t.lc.paused = false := by decide

/-! ### Every statement's hypotheses are met somewhere -/

theorem forallPorts {P : PortId → Prop} (h : P .p0 ∧ P .p1 ∧ P .p2 ∧ P .p3) : ∀ p, P p := by
  intro p; cases p; exacts [h.1, h.2.1, h.2.2.1, h.2.2.2]

/-- A port with an open case. -/
def casePort (state : PortState) : Port := { Port.reset with state := state, slot := some (record 5 .p0 .circuit) }

/-- A port whose case is of a measured class. -/
def gasPort (state : PortState) (c : MeasuredClass) : Port :=
  { Port.reset with state := state, slot := some { record 5 .p0 .circuit with measured := some ⟨c, 600, 600⟩ }, k := some 1 }

/-- The station with a given port 0. -/
def withPort (x : Port) : State := { base with ports := base.ports.set .p0 x }

/-- The station with a given agent. -/
def withAgent (a : Agent) : State := { base with agent := a }

/-- An agent in a state of the negotiation for HALO. -/
def seeking (d : DState) : Agent := { Agent.reset with dstate := d, sought := some .halo, key := 5 }

def faulted : State := { base with loader := ⟨.configFault .check, none, none, .none⟩ }

theorem test_meets_EmptyQueueTakesTime :
    (base.pending = [] ∧ base.dueNow = []) ∧
      ({ base with line := { base.line with beaconT := .running 0 } } : State).dueNow ≠ [] ∧
      (base.elapse 50).field.sampleTs.get .p0 = .running 0 ∧ (base.elapse 50).field.headerT = .running 0 := by decide

theorem test_meets_FailedImageLeavesConfigFault :
    State.reset.loader.state = .loading ∧ imageFault .noAck = some .noAck ∧
      imageFault (.bytes (List.replicate 128 1)) = some .check ∧
      imageFault (.bytes (imageOf (15 :: imageBody.tail))) = some .address ∧
      imageFault (.bytes (imageOf (14 :: imageBody.tail))) = none := by decide +kernel

/-- The image loads with warnings; bit 12 of the pins is ESTOP, pressed when high here. -/
theorem test_meets_GoodImageStartsTheStation :
    State.reset.loader.state = .loading ∧ imageFault (.bytes (imageOf imageBody)) = none ∧
      (readWarnings (imageOf imageBody)).any = true ∧
      lineLevel (readConfig (imageOf imageBody)).polarities 0x1000 .estop = true ∧
      lineLevel (readConfig (imageOf imageBody)).polarities 0 .estop = false := by decide +kernel

/-- Bytes 1 to 4 of this image name both kinds and neither; its circuit profile is cut after two of its four steps (R190, R191),
and its kinds are disabled (R192). With an empty threshold of 800 the circuit kind stays in use. -/
theorem test_meets_LoadedImageIsInRange :
    let b := imageBody.set 52 3 |>.set 53 0x20
    byteAt imageBody 0 ≤ 14 ∧ byteAt imageBody (1 + PortId.num .p0) = kindCode (some .circuit) ∧
      byteAt imageBody (1 + PortId.num .p1) = kindCode (some .foam) ∧ byteAt imageBody (1 + PortId.num .p2) ≠ 1 ∧
      byteAt imageBody (1 + PortId.num .p2) ≠ 2 ∧
      ((readConfig imageBody).kindSet .circuit).target 1 = some 700 ∧
      ((readConfig imageBody).kindSet .circuit).emptyThreshold ≤ 700 ∧
      2 < clampTo 1 6 (byteAt imageBody 8) ∧ wordAt imageBody 12 ≤ wordAt imageBody 15 ∧
      700 < ((readConfig b).kindSet .circuit).emptyThreshold ∧ (readConfig b).kinds.get .p0 = some .circuit := by
  decide +kernel

def sending : State := { base with op := { base.op with tx := .responding [] } }

def skipping : State := { base with op := { base.op with framer := .skipping, gap := .running 7 } }

theorem test_meets_UnreadableMessageIsRefused :
    base.portFree ∧ owedFor .malformed = some .malformed ∧ owedFor .takeReport = some (.busy 3) ∧
      sending.op.framer.active = true ∧ sending.op.tx ≠ .idle ∧ owedFor .operatorGapExpiry = some .malformed ∧
      skipping.op.framer.active = false ∧ skipping.op.gap = .running 7 := by
  unfold State.portFree; decide

def listening : State := { base with line := { base.line with tx := .silent, listenIn := true, listenT := .running 1000 } }

theorem test_meets_StationWideChecksComeFirst :
    (requestType .takeReport = some 3 ∧ faulted.portFree ∧ faulted.configFault = true) ∧
      (listening.portFree ∧ listening.configFault = false ∧ listening.line.listenIn = true) := by
  unfold State.portFree; decide

theorem test_meets_OpenCaseChecksInOrder :
    (paused.serves ∧ paused.lc.paused = true) ∧
      (base.serves ∧ base.lc.paused = false ∧ 3 < (4 : Byte).toNat ∧ (base.port .p2).state = .unused ∧
        (base.port .p3).state = .vacant ∧ base.cfg.kinds.get .p3 = some .circuit) ∧
      (withPort (casePort .opened)).serves ∧ ((withPort (casePort .opened)).port .p0).state ≠ .vacant ∧
      ¬(1 ≤ ([] : List Byte).length) := by
  unfold State.serves State.portFree; decide

/-- A circuit with a charge of 1 g and a tag of 16, and a foam batch of 999 kg. -/
theorem test_meets_OpenCaseOpensACase :
    (base.serves ∧ base.lc.paused = false ∧ (base.port .p0).state = .vacant ∧ base.cfg.kinds.get .p0 = some .circuit ∧
      openFieldsOk .circuit 2 (some 1) none (List.replicate 16 0x7E) = true) ∧
      ((base.port .p1).state = .vacant ∧ base.cfg.kinds.get .p1 = some .foam ∧
        openFieldsOk .foam 0 none (some 999) [0x20] = true) := by
  unfold State.serves State.portFree; decide

theorem test_meets_AbandonCaseClosesTheCase :
    (withPort (casePort .opened)).serves ∧ ((withPort (casePort .opened)).port .p0).state.active = true ∧
      ((withPort (casePort (.quarantine .leak))).port .p0).slot.isSome = true ∧ (base.port .p2).state = .unused ∧
      (base.port .p1).state = .vacant := by
  unfold State.serves State.portFree; decide

/-- A case abandoned after the seconds have stopped closes no earlier than it opened (R87). -/
theorem test_seconds_stop_at_their_top :
    let x : Port := { casePort .opened with slot := some { record 5 .p0 .circuit with openedS := 4294967290 } }
    let t := after (.abandonCase 0) { withPort x with clock := 4294967296000 }
    t.store.queue.map CaseRecord.closedS = [some 4294967295] := by decide

/-- Two ports in CLOSING with equal closing times: the lower one goes first. -/
def twoClosing : State :=
  let x (p : PortId) : Port :=
    { Port.reset with state := .closing, slot := some { record 5 p .circuit with closedS := some 9 } }
  { base with ports := ⟨x .p0, x .p1, .reset, .reset⟩, store := ⟨[record 1 .p0 .circuit], 7⟩ }

theorem test_meets_TakeReportAnswersAndReleases :
    (base.serves ∧ base.store.queue = []) ∧
      (({ base with store := ⟨[record 1 .p0 .circuit], 2⟩ } : State).serves ∧ ∀ p, (base.port p).state ≠ .closing) ∧
      twoClosing.serves ∧ (twoClosing.port .p0).state = .closing ∧ (twoClosing.port .p1).state = .closing ∧
      (twoClosing.port .p0).slot.isSome = true ∧ PortId.num .p0 < PortId.num .p1 ∧
      ((twoClosing.port .p0).slot.bind CaseRecord.closedS) = ((twoClosing.port .p1).slot.bind CaseRecord.closedS) := by
  refine ⟨?_, ⟨?_, forallPorts ?_⟩, ?_⟩ <;> (try unfold State.serves State.portFree) <;> decide

theorem test_meets_PortStatusAnswersPortState :
    base.serves ∧ 3 < (4 : Byte).toNat ∧ (3 : Byte).toNat = PortId.num .p3 := by
  unfold State.serves State.portFree; decide

theorem test_meets_StationStatusAnswersEveryPart :
    (faulted.portFree ∧ faulted.loader.state ≠ .loading) ∧ listening.portFree ∧ listening.loader.state ≠ .loading ∧
      (({ base with peers := base.peers.set 7 { Peer.reset with present := true } } : State).peer 7).present = true := by
  unfold State.portFree; decide

/-- The LINE part of 11.4 with address 7 FLOWING HYDRO: bits 15 and 14 of its set. -/
theorem test_line_part_bytes :
    let s : State :=
      { base with
        line := { base.line with rxErrors := 258, clashT := .running 9999 }
        peers := base.peers.set 7 { Peer.reset with present := true, disch := some (.flowOn .hydro 1) } }
    s.linePart = ⟨6, [1, 2, 0, 0, 1, 0, 0, 9, 0, 0, 0x80, 0, 0, 0, 0, 0]⟩ := by decide

def haloFault : State := { base with halo := { base.halo with state := .fault .scaleDrop } }

theorem test_meets_ClearReceiverClearsTheFault :
    (haloFault.serves ∧ (haloFault.rcv .halo).state.isFault = true ∧ (1 : Byte).toNat = classCode (some .halo)) ∧
      ((haloFault.rcv .hydro).state.isFault = false ∧ (2 : Byte).toNat = classCode (some .hydro)) ∧
      (3 : Byte).toNat ≠ 1 ∧ (3 : Byte).toNat ≠ 2 := by
  unfold State.serves State.portFree; decide

theorem test_meets_PauseLinePausesTheStation :
    (base.serves ∧ base.lc.paused = false ∧ base.loaded = true ∧ base.line.clash = false) ∧
      (withAgent (seeking .flowing)).agent.sought ≠ none ∧ paused.serves ∧ paused.lc.paused = true ∧
      (extracting.serves ∧ (extracting.port .p0).gas = some .halo ∧ (extracting.rcv .halo).state ≠ .discharging) := by
  unfold State.serves State.portFree; decide

def pressed : State :=
  { paused with field := { base.field with estop := { LineInput.reset with level := some true, assertLatch := true } } }

theorem test_meets_ResumeLineEndsThePause :
    (pressed.serves ∧ pressed.field.estop.level = some true) ∧
      (paused.serves ∧ paused.field.estop.level ≠ some true ∧ paused.lc.paused = true) ∧
      (base.serves ∧ base.field.estop.level ≠ some true ∧ base.lc.paused = false ∧ base.loaded = true ∧
        base.line.clash = false) := by
  unfold State.serves State.portFree; decide

theorem test_meets_OperatorLinkTimesOut :
    (({ base with op := { base.op with framer := .skipping, gap := .running 11 } } : State).op.framer.active = false) ∧
      sending.op.tx ≠ .idle := by decide

/-! Frames of station 7. -/

theorem test_meets_FrameRefreshesItsPeer :
    (base.hears (.beacon 7 ⟨0, 0, 0, 1, 9, 1, 600, 0xFF, 15⟩) 7
        (.beacon ⟨.idle, none, 0, some .halo, 9, true, 600, 15, 15, true, true, true, true⟩)) ∧
      base.hears (.intent 7 1 2 15) 7 (.intent .flow .hydro 15) ∧ base.hears (.flowOn 7 1 5) 7 (.flowOn .halo 5) ∧
      base.hears (.flowOff 7 1) 7 (.flowOff .halo) ∧ base.hears (.purgeStart 7 2 5) 7 (.purgeStart .hydro 5) ∧
      base.hears (.purgeDone 7 0 5) 7 (.purgeDone none 5) ∧ base.hears (.hold 7 3 1) 7 (.hold .all .inhibit) ∧
      base.hears (.pause 7 3) 7 (.pause .operator) ∧ base.hears (.resume 15) 15 .resume ∧
      base.hears (.alarm 15 2 600) 15 (.alarm 600) := by
  unfold State.hears; decide

theorem test_meets_BadFramesAreDropped :
    base.loaded = true ∧ readBeacon ⟨0, 1, 0, 0, 0, 0, 0, 0, 0⟩ = none ∧ readIntent 0 1 1 = none ∧
      readFlowOn 3 1 = none ∧ readFlowOff 0 = none ∧ readPurgeStart 0 1 = none ∧ readPurgeDone 3 1 = none ∧
      readHold 4 1 = none ∧ readPause 4 = none ∧ readAlarm 2 0 = none := by decide

theorem test_meets_FramesMoveTheHeaderView :
    base.hears (.flowOn 7 1 127) 7 (.flowOn .halo 127) ∧ base.hears (.purgeDone 7 2 128) 7 (.purgeDone (some .hydro) 128) ∧
      base.agent.dstate = .idle ∧ newer 127 base.agent.viewSerial = true ∧ newer 128 base.agent.viewSerial = false := by
  unfold State.hears; decide

/-- Outside IDLE: a view that moves and one that does not, in a flow, a wait, a drain and a purge. -/
theorem test_meets_FramesMoveTheHeaderView_outside_idle :
    let s (d : DState) : State := withAgent { seeking d with viewClass := some .halo, viewSerial := 3 }
    let t : State := withAgent { seeking .purging with viewSerial := 3, purgeSerial := 4, purgeV := true }
    ((s .flowing).hears (.flowOn 7 2 4) 7 (.flowOn .hydro 4) ∧ (s .flowing).agent.sought = some .halo ∧
        (s .flowing).inhibited = false ∧ (s .flowing).line.clash = false ∧ (s .flowing).line.queue.length < 5 ∧
        newer 4 3 = true ∧ newer 3 3 = false) ∧
      ((s .waiting).hears (.purgeDone 7 0 4) 7 (.purgeDone none 4) ∧ (s .waiting).agent.dstate = .waiting) ∧
      ((s .drain).hears (.flowOn 7 1 3) 7 (.flowOn .halo 3) ∧ (s .listenPurge).agent.dstate = .listenPurge) ∧
      t.hears (.purgeDone 7 2 4) 7 (.purgeDone (some .hydro) 4) ∧ newer 4 3 = true ∧ newer 4 4 = false ∧
        t.hears (.purgeDone 7 2 3) 7 (.purgeDone (some .hydro) 3) ∧ t.agent.viewClass = none := by
  unfold State.hears; decide

theorem test_meets_IntentContendsByItsKey :
    let s := withAgent (seeking .listenFlow)
    let t := withAgent (seeking .listenPurge)
    (s.hears (.intent 2 1 2 5) 2 (.intent .flow .hydro 5) ∧ s.inhibited = false ∧ s.agent.dstate = .listenFlow) ∧
      t.hears (.intent 2 2 2 5) 2 (.intent .purge .hydro 5) ∧ t.inhibited = false ∧ t.agent.dstate = .listenPurge := by
  unfold State.hears; decide

/-- The agent flows HALO, its receiver DISCHARGING. -/
def flowing : State :=
  { withAgent { seeking .flowing with viewClass := some .halo, dischH := true, selH := true } with
    halo :=
      { base.halo with state := .discharging, lowest := some 1000, stall := .running 30000, request := true } }

theorem test_meets_PurgeStartEndsAFlow :
    flowing.hears (.purgeStart 7 2 1) 7 (.purgeStart .hydro 1) ∧ flowing.agent.dstate = .flowing ∧
      flowing.agent.sought = some .halo ∧ (flowing.rcv .halo).state = .discharging ∧ flowing.line.clash = false ∧
      flowing.line.queue.length < 5 := by
  unfold State.hears; decide

/-- HOLD(ALL, CONFLICT) is offered before FLOW_OFF (R130, R131). -/
theorem test_purgeStart_in_a_flow_offers_its_frames :
    ((after (.purgeStart 7 2 1) flowing).line.queue.map QueuedFrame.frame).filter (fun f => !f.isBeacon) =
      [.hold .all .conflict, .flowOff .halo] := by decide

theorem test_meets_HoldBarsItsClass :
    flowing.hears (.hold 7 1 1) 7 (.hold .halo .inhibit) ∧ flowing.hears (.hold 7 2 3) 7 (.hold .hydro .overpressure) ∧
      flowing.hears (.hold 7 3 2) 7 (.hold .all .conflict) ∧ HoldClass.bars .halo .halo = true ∧
      (withAgent (seeking .purging)).agent.sought = some .halo ∧
      (withAgent (seeking .listenPurge)).agent.dstate = .listenPurge := by
  unfold State.hears; decide

/-- An own HOLD sets the held-until times and leaves the reason of the last HOLD heard (R111, R115). -/
theorem test_own_hold_keeps_the_reason_heard :
    let s := after (.hold 7 1 1) base
    let t := after (.headerSample (.hpa 5001)) s
    s.agent.reasonH = some .inhibit ∧ s.agent.reasonK = none ∧ t.agent.heldK = .running 2000 ∧
      t.agent.reasonH = some .inhibit ∧ t.agent.reasonK = none := by decide

theorem test_meets_PauseFramePausesTheStation :
    (base.hears (.pause 15 1) 15 (.pause .line) ∧ base.lc.paused = false ∧ base.agent.dstate ≠ .flowing) ∧
      paused.hears (.pause 7 2) 7 (.pause .estop) ∧ paused.lc.paused = true ∧ paused.agent.dstate = .idle := by
  unfold State.hears; decide

theorem test_meets_ResumeFrameEndsThePause :
    (pressed.hears (.resume 7) 7 .resume ∧ pressed.agent.dstate = .idle ∧ pressed.lc.paused = true ∧
        pressed.field.estop.level = some true) ∧
      (paused.hears (.resume 7) 7 .resume ∧ paused.field.estop.level ≠ some true) ∧
      base.hears (.resume 7) 7 .resume ∧ base.lc.paused = false ∧ base.line.clash = false := by
  unfold State.hears; decide

def inhibiting : State := { base with lc := { base.lc with inhibit := .running 30000 } }

theorem test_meets_AlarmInhibitsHydrocarbon :
    (base.hears (.alarm 7 2 1) 7 (.alarm 1) ∧ base.inhibited = false ∧ base.agent.sought = none) ∧
      ((withPort (gasPort .extract .hydro)).port .p0).gas = some .hydro ∧
      (withAgent (seeking .waiting)).agent.dstate ≠ .idle ∧
      (inhibiting.hears (.intent 7 1 2 5) 7 (.intent .flow .hydro 5) ∧
        inhibiting.hears (.flowOn 7 2 5) 7 (.flowOn .hydro 5) ∧
        inhibiting.hears (.purgeStart 7 2 5) 7 (.purgeStart .hydro 5) ∧ inhibiting.inhibited = true ∧
        inhibiting.line.clash = false ∧ inhibiting.line.queue.length < 5) := by
  unfold State.hears; decide

def clashing : State := { base with line := { base.line with clash := true, clashT := .running 9000, tx := .silent } }

theorem test_meets_OwnAddressIsAClash :
    (base.loaded = true ∧ base.line.clash = false ∧ frameOf (.resume 3) = some (base.cfg.address, .resume)) ∧
      clashing.loaded = true ∧ clashing.line.clash = true ∧ flowing.agent.sought ≠ none ∧
      (withAgent (seeking .purging)).agent.dstate = .purging := by decide

/-- The station with a frame at the head of its queue. -/
def queued (tx : TxState) (count : Nat) (f : Frame) : State :=
  { withAgent { seeking .listenFlow with entry := 1 } with
    line := { base.line with tx := tx, queue := [⟨f, 1⟩], headCount := count } }

theorem test_meets_HeadFrameIsSent :
    ((queued .defer 0 .resume).line.queue ≠ [] ∧ (queued .retry 3 .resume).line.tx = .retry) ∧
      (queued .sending 0 (.intent .flow .halo 5)).line.tx = .sending ∧ (queued .sending 0 .resume).lc.owed = [] := by
  decide

/-- A RESUME is SENDING in RUN, and a RESUME, a PAUSE and an ALARM are owed: the first alone holds its condition. -/
theorem test_meets_HeadFrameIsSent_with_frames_owed :
    let s : State :=
      { queued .sending 0 .resume with lc := { base.lc with owed := [.resume, .pause .line, .alarm 5] } }
    let t := after .frameSent s
    (s.line.tx = .sending ∧ s.line.queue = ⟨.resume, 1⟩ :: [] ∧ s.loaded = true ∧ s.line.clash = false ∧
        s.lc.owed.length ≤ 8 ∧ s.lc.owed ≠ [] ∧ s.OfferedAgain .resume .resume ∧ paused.OfferedAgain (.pause .line) (.pause .line) ∧
        inhibiting.OfferedAgain (.alarm 5) (.alarm 30)) ∧
      t.lc.owed = [] ∧ t.line.queue = [⟨.resume, 0⟩] ∧ t.line.tx = .defer := by
  refine ⟨⟨by decide, by decide, by decide, by decide, by decide, by decide, .inr (.inl (by decide)),
    .inl ⟨.line, by decide⟩, .inr (.inr ⟨5, 29999, by decide⟩)⟩, by decide⟩

theorem test_meets_CollisionRetriesThenDrops :
    (queued .sending 6 .resume).line.headCount + 1 < 8 ∧
      8 ≤ (queued .sending 7 (.intent .flow .halo 5)).line.headCount + 1 ∧
      (queued .sending 7 (.intent .flow .halo 5)).agent.dstate = .listenFlow ∧
      Frame.isBeacon (.beacon base.composeBeacon) = true ∧ (queued .sending 7 .resume).lc.owed = [] := by decide

/-- What the receive framer keeps of an own RESUME of station 3, by the byte the collision falls at: nothing back, another start
byte, another source, another length, and another last check byte (R99, R100, R103). -/
theorem test_framer_at_a_collision :
    let d := Frame.bytes 3 .resume
    let l : LineIf := { base.line with framer := .skipping }
    let t (n : Nat) (odd : Option Byte) : LineIf := l.takeRemainder 3 (collisionRemainder d (n, odd))
    d.length = 5 ∧ (t 0 none).framer = .skipping ∧ (t 0 (some 0xC1)).framer = .hunting ∧ (t 1 none).framer = .inFrame [] ∧
      (t 1 (some 0x31)).framer = .inFrame [0x31] ∧ (t 2 none).framer = .inFrame [0x39] ∧ (t 2 (some 1)).framer = .skipping ∧
      (t 2 (some 1)).rxErrors = 1 ∧ (t 3 none).framer = .inFrame [0x39, 0] ∧ (t 4 (some 0)).framer = .skipping ∧
      (t 4 (some 0)).rxErrors = 1 ∧ (t 4 none).rxErrors = 0 := by decide +kernel

/-- The eighth collision of each kind of frame that is told to the block that offered it. -/
theorem test_meets_CollisionRetriesThenDrops_at_the_eighth :
    let s := queued .sending 7 (.intent .flow .halo 5)
    let t : State := { queued .sending 7 (.purgeStart .halo 0) with agent := seeking .purging }
    (s.loaded = true ∧ s.line.clash = false ∧ (1 : Nat) = s.agent.entry ∧ s.agent.dstate = .listenFlow ∧
        s.agent.dstate ≠ .listenPurge) ∧
      (t.agent.dstate = .purging ∧ t.agent.purgeSerial = 0 ∧ s.agent.dstate ≠ .purging) ∧
      (base.lc.paused = false ∧ paused.lc.paused = true) ∧ inhibiting.lc.inhibit = .running (29999 + 1) ∧
      ∀ m, base.lc.inhibit ≠ .running (m + 1) := by
  refine ⟨by decide, by decide, by decide, by decide, fun m h => ?_⟩; cases h

/-- A peer whose BEACON shows a pause. -/
def pausedPeer : Peer :=
  { Peer.reset with
    present := true, timer := .running 1000
    beacon := some { base.composeBeacon with paused := true } }

theorem test_meets_SilenceEnds :
    let s : State := { listening with peers := listening.peers.set 7 pausedPeer }
    (listening.loaded = true ∧ listening.line.listenT = .running 1000 ∧ listening.line.clash = false) ∧
      ((s.peer 7).fresh = true ∧ ∃ b, (s.peer 7).liveBeacon = some b ∧ b.paused = true) ∧
      (∀ a b, (listening.peer a).fresh = true → (listening.peer a).liveBeacon = some b → b.paused = false) ∧
      clashing.line.clashT = .running 9000 ∧ clashing.line.listenIn = false ∧ listening.line.queue.length < 7 ∧
      clashing.line.queue.length < 7 := by
  have h : ∀ a, (listening.peer a).fresh = false := by decide
  refine ⟨by decide, ⟨by decide, _, rfl, by decide⟩, fun a b g => ?_, by decide⟩
  rw [h a] at g; cases g

theorem test_meets_BeaconTellsTheStation :
    let b : QueuedFrame := ⟨.beacon base.composeBeacon, 0⟩
    let r : QueuedFrame := ⟨.resume, 0⟩
    let s (tx : TxState) (l : List QueuedFrame) : State := { base with line := { base.line with tx := tx, queue := l } }
    (base.loaded = true ∧ base.line.clash = false ∧ base.line.beaconT = .running 250 ∧ base.line.queue.length < 8 ∧
        ∀ q ∈ base.line.queue, q.frame.isBeacon = false) ∧
      (s .defer [r, b, r]).line.queue = [r] ++ b :: [r] ∧ b.frame.isBeacon = true ∧ r.frame.isBeacon = false ∧
      ((s .sending [b, b]).line.queue = [b] ++ b :: [] ∧ (s .sending [b]).line.queue.tail = []) ∧
      8 ≤ (s .defer (List.replicate 8 r)).line.queue.length := by decide

/-- The BEACON being SENT stays, and the one that waits is replaced (R104). -/
theorem test_beacon_replaces_the_waiting_one :
    let b (n : Nat) : QueuedFrame := ⟨.beacon { base.composeBeacon with key := n }, 0⟩
    let s : State := { base with line := { base.line with tx := .sending, queue := [b 7, ⟨.resume, 0⟩, b 8, ⟨.resume, 0⟩] } }
    (after .beaconTimerExpiry s).line.queue = [b 7, ⟨.resume, 0⟩, b 0, ⟨.resume, 0⟩] := by decide

theorem test_meets_SilentPeerGoesStale :
    let s (d : DState) : State :=
      { withAgent { seeking d with owner := some 7, viewClass := some .halo } with peers := base.peers.set 7 pausedPeer }
    let t : State := { withAgent { Agent.reset with owner := some 7 } with peers := base.peers.set 7 pausedPeer }
    (t.peer 7).timer = .running 1000 ∧ t.agent.dstate = .idle ∧ t.agent.owner = some 7 ∧
      (((s .waiting).peer 7).timer = .running 1000 ∧ (s .waiting).agent.sought = some .halo ∧
        (s .waiting).loaded = true ∧ (s .waiting).line.clash = false ∧ (s .waiting).line.queue.length < 5) := by decide

/-- The station with a pending edge at a line. -/
def withEdge (l : InputLine) (b : Bool) (s : State) : State :=
  s.setInput l { s.field.input l with level := some b, assertLatch := b, deassertLatch := !b }

theorem test_meets_LevelsFollowTheirLines :
    ((base.field.input .estop).level = some false ∧ (base.field.input .estop).isPending = false ∧
        base.filterMs .estop = 20) ∧
      (let g : StationConfig := { testConfig with debounceMs := 0 }
      let s : State := { base with loader := { base.loader with cfg := some g } }
      s.filterMs .estop = 0 ∧
        (s.setInput .estop { s.field.input .estop with pin := true }).lineNow .estop = !false) ∧
      (after (.debounceChange ⟨.estop, .pin true⟩) base).field.estop.filter = .running 20 ∧
      ((withEdge .selH true base).field.input .selH).latch true = true ∧
      (((withEdge (.release .p0) false base).field.release.get .p0).deassertLatch = true ∧
        (base.port .p0).state ≠ .unused) ∧
      ((withEdge .selK false base).field.input (readbackLine .hydro)).deassertLatch = true ∧
      (withEdge .estop false base).field.estop.deassertLatch = true := by decide

/-- A pin that turns back restarts its filter; one that stays turns the level after 20 ms, with an edge to deliver (R161, R162). -/
theorem test_filter_of_a_pin :
    let s := (after (.debounceChange ⟨.estop, .pin true⟩) base).elapse 19
    let t := after (.debounceChange ⟨.estop, .pin false⟩) s
    let u := after (.debounceChange ⟨.estop, .pin true⟩) t
    let v := after (.debounceChange ⟨.estop, .settles⟩) u
    s.field.estop.filter = .running 1 ∧ t.field.estop.filter = .stopped ∧ u.field.estop.filter = .running 20 ∧
      v.field.estop.level = some true ∧ v.field.estop.assertLatch = true ∧ v.clock = 39 ∧ v.dueNow = [.estopAssert] := by
  decide +kernel

/-- The station's own selector shows in its readback after 2 ms (R161, R166). -/
theorem test_own_selector_is_read_back :
    let s := after .transmitStart flowing
    let t := after (.debounceChange ⟨.selH, .settles⟩) s
    s.field.selH.filter = .running 2 ∧ t.field.selH.level = some true ∧ t.field.selH.assertLatch = true ∧
      (after (.debounceChange ⟨.selH, .pin false⟩) t).lineNow .selH = true := by decide

theorem test_meets_EmergencyStopPausesTheLine :
    let s (p e : Bool) : State := { base with lc := { base.lc with paused := p, estop := e, estopRepeat := .running 1000 } }
    ((withEdge .estop true base).loaded = true ∧ (withEdge .estop true base).field.estop.assertLatch = true ∧
        base.lc.paused = false ∧ base.agent.dstate ≠ .flowing ∧ base.line.clash = false) ∧
      ((withEdge .estop true paused).field.estop.assertLatch = true ∧ paused.lc.paused = true) ∧
      ((s true true).lc.estopRepeat = .running 1000 ∧ (s true true).lc.estop = true ∧ (s true true).lc.paused = true) ∧
      (s false true).lc.paused = false ∧ (s true false).lc.estop = false := by decide

theorem test_meets_InhibitEndReleasesItsPorts :
    let s : State := { withPort (gasPort (.wait .inhibit) .hydro) with lc := { base.lc with inhibit := .running 600000 } }
    (s.lc.inhibit = .running 600000 ∧ (s.port .p0).gas = some .hydro ∧ s.lc.paused = false ∧ s.accepting .hydro = true) ∧
      ({ s with hydro := { s.hydro with state := .full } } : State).accepting .hydro = false ∧
      ∀ r, (base.port .p1).state ≠ .wait r := by
  refine ⟨by decide, by decide, fun r => ?_⟩; cases r <;> decide

theorem test_meets_PortEdgesActByState :
    (edgeOf (.clampAssert .p2) = some (.clamp .p2, true) ∧
        ((withEdge (.clamp .p2) true base).field.input (.clamp .p2)).latch true = true ∧ (base.port .p2).state = .unused) ∧
      (((withEdge (.clamp .p0) true base).field.clamp.get .p0).assertLatch = true ∧
        ((withEdge (.confirm .p0) false base).field.confirm.get .p0).latch false = true ∧
        ((withPort (casePort .opened)).port .p0).state ≠ .unused) ∧
      (((withEdge (.clamp .p0) false base).field.clamp.get .p0).deassertLatch = true ∧
        (casePort .settle).state.abortable = true ∧ (casePort .riseTest).state.abortable = true ∧
        (casePort .settle).slot.isSome = true ∧ (casePort .unclamp).state = .unclamp) ∧
      ((withEdge (.release .p0) true base).field.release.get .p0).assertLatch = true ∧
      (casePort .opened).state.quarantined = false := by decide

theorem test_meets_PortTimersRunOut :
    ({ casePort .opened with connect := .running 5000 } : Port).connect = .running 5000 ∧
      ({ casePort .classify with classifyWait := .running 10000 } : Port).state = .classify ∧
      (gasPort .extract .halo).k = some 1 ∧ (casePort .settle).slot.isSome = true ∧
      (base.field.samples.get .p0).pressure = some 412 ∧
      412 < ((withPort (casePort .settle)).portSet (casePort .settle)).emptyThreshold ∧
      (({ base with field := { base.field with samples := base.field.samples.set .p0 (.good 900) } } : State).field.samples.get
        .p0).pressure = some ((withPort (casePort .settle)).portSet (casePort .settle)).emptyThreshold ∧
      base.mayServe = true ∧ base.ana.queue = [] ∧ paused.mayServe = false := by decide

/-- A rise of exactly the limit passes; one above it recycles twice and is then a residual. -/
theorem test_meets_RiseTestIsJudged :
    let x : Port := { gasPort .riseTest .halo with hold := .running 10000, pStart := some 382 }
    let s : State := withPort x
    (s.port .p0).slot.isSome = true ∧ (s.port .p0).gas = some .halo ∧ (s.port .p0).hold = .running 10000 ∧
      (s.port .p0).pStart = some 382 ∧ (s.field.samples.get .p0).pressure = some 412 ∧
      412 - 382 ≤ (s.portSet (s.port .p0)).riseLimit ∧ (s.portSet (s.port .p0)).riseLimit < 412 - 381 ∧
      (record 5 .p0 .circuit).recycles < (s.portSet (s.port .p0)).maxRecycles := by decide

theorem test_meets_PortSampleActsByState :
    (faulted.loaded = false ∧ faulted.field.sampleTs.get .p0 = .running 50) ∧
      ((casePort .classify).state.abortable = true ∧ (casePort .opened).state.abortable = false) ∧
      (base.port .p0).state ≠ .riseTest ∧ (extracting.port .p0).state = .extract ∧
      (extracting.port .p0).valveOpen = true ∧ (extracting.port .p0).k = some 1 ∧
      (extracting.portSet (extracting.port .p0)).target 2 = some 250 ∧
      (extracting.portSet (extracting.port .p0)).target 3 = some 80 ∧
      (extracting.portSet (extracting.port .p0)).target 4 = none := by decide

theorem test_meets_HeaderFlagsHoldTheStation :
    (base.loaded = true ∧ base.field.headerT = .running 50 ∧ base.agent.headerFault = false ∧
        flowing.agent.sought = some .halo) ∧
      (base.cfg.header.overLimit < min 5001 9999 ∧ min 4949 9999 + 50 < base.cfg.header.overLimit) ∧
      ((withAgent { Agent.reset with overRepeat := .running 1000 }).agent.overpressure = false) ∧
      ((withAgent { Agent.reset with conflict := true, conflictRepeat := .running 2000 }).agent.conflict = true) ∧
      ((withEdge .selH true base).field.input (readbackLine .halo)).assertLatch = true ∧
      ((withEdge .selK true base).field.input (readbackLine .hydro)).level = some true ∧
      ((withEdge .selH true base).field.input (readbackLine .hydro)).level ≠ some true := by decide

/-- First readings in STARTING and in FAULT, a gain of 7 g, a fall of 5 g and of 6 g, F and D_off reached. -/
theorem test_meets_ReadingIsBooked :
    (base.loaded = true ∧ base.scaleLink.framer.active = true ∧ (base.rcv .halo).first = true ∧
        (base.rcv .halo).state = .accepting) ∧
      (Receiver.reset.first = false ∧ Receiver.reset.state = .starting ∧ (haloFault.rcv .halo).state = .fault .scaleDrop) ∧
      (extracting.weights .halo = [⟨.p0, 412⟩]) ∧
      (¬((8995 : Int) - 9000 < -((base.cfg.rcvSet .halo).noise : Int)) ∧
        (8994 : Int) - 9000 < -((base.cfg.rcvSet .halo).noise : Int)) ∧
      ((base.cfg.rcvSet .halo).full ≤ 20000 - 8000 ∧ ¬ (base.cfg.rcvSet .halo).full ≤ 19999 - 8000) ∧
      (flowing.halo.lowest = some 1000 ∧ (base.cfg.rcvSet .halo).dOff < 8501 - 8000 ∧
        8500 - 8000 ≤ (base.cfg.rcvSet .halo).dOff ∧ flowing.halo.doneSent = false) := by decide

theorem test_meets_ReceiverFaultsAndStalls :
    (base.loaded = true ∧ base.scaleLink.framer.active = true ∧ (base.rcv .halo).state.isFault = false ∧
        (haloFault.rcv .halo).state.isFault = true ∧ (base.rcv .halo).silence = .running 500) ∧
      (flowing.rcv .halo).stall = .running 30000 ∧ (flowing.rcv .halo).stallSent = false ∧
      flowing.agent.dstate = .flowing ∧ flowing.agent.sought = some .halo := by decide

theorem test_meets_ApportionmentIsExact :
    let l : List Share := [⟨.p0, 412⟩, ⟨.p2, 0⟩, ⟨.p3, 203⟩]
    (l.map Share.port).Nodup ∧ 0 < (l.map Share.weight).sum := by decide

/-- The station with a given scheduler. -/
def withAna (a : Analyser) : State := { base with ana := a }

theorem test_meets_ReadyWakesTheScheduler :
    (base.loaded = true ∧ base.anaLink.framer.active = true ∧ base.ana.state = .idle) ∧
      (withAna Analyser.reset).ana.state = .notReady ∧
      (withAna { Analyser.reset with state := .fault, queue := [⟨.p0, false⟩] }).ana.warning = false := by decide

theorem test_meets_ResultsAreJudged :
    testConfig.analyser.ti ≤ 20 ∧ 19 < testConfig.analyser.ti ∧ testConfig.analyser.tp ≤ 200 ∧
      199 < testConfig.analyser.tp ∧ testConfig.analyser.haloLeak ≤ 50 ∧ 59 < testConfig.analyser.hydroLeak ∧
      testConfig.analyser.traceLimit ≤ 5 ∧ 4 < testConfig.analyser.traceLimit := by decide

def classifying (phase : Phase) (w : Bool) : State :=
  { withPort { casePort .classify with classifyWait := .running 60000 } with
    ana := { base.ana with state := .classifying .p0 phase w, sampleT := .running 3000, resultT := .running 1000 } }

theorem test_meets_ClassifyResultReachesItsPort :
    (base.loaded = true ∧ base.anaLink.framer.active = true ∧
        (classifying .result true).ana.state = .classifying .p0 .result true) ∧
      ((classifying .result false).port .p0).state = .classify ∧
      ((classifying .result false).port .p0).slot.isSome = true ∧
      classifyDecision testConfig.analyser 612 9 = .halo ∧ classifyDecision testConfig.analyser 31 540 = .mixed ∧
      classifyDecision testConfig.analyser 150 12 = .none := by decide

def sniffing (phase : Phase) : State :=
  { withPort (casePort .opened) with
    ana :=
      { base.ana with
        state := .sniffing .p0 phase (some 5), sampleT := .running 1000, resultT := .running 1000, dueAt := some 5000 } }

theorem test_meets_SamplesEndAndTimeOut :
    ((classifying .sample false).ana.sampleT = .running 3000 ∧ (sniffing .sample).ana.sampleT = .running 1000) ∧
      ((classifying .result false).ana.state.awaitsResult = true ∧ (classifying .result false).ana.resultT = .running 1000 ∧
        (classifying .result false).ana.count = 0 ∧ (classifying .result false).ana.pendingSniff = false) ∧
      (1 ≤ ({ base.ana with count := 1 } : Analyser).count) ∧ (sniffing .result).sniffTarget = some .p0 := by decide

theorem test_meets_SweepSniffsTheBusyPorts :
    ((sniffing .sample).ana.dueAt = some 5000 ∧ (sniffing .sample).ana.warning = false ∧
        (sniffing .sample).ana.pendingSniff = false) ∧
      (({ withPort (casePort .opened) with ana := { base.ana with dueAt := some 5000 } } : State).sniffTarget = some .p0 ∧
        base.sniffTarget = none ∧ base.ana.state = .idle ∧ base.ana.queue = []) ∧
      ((withAna { Analyser.reset with dueAt := some 5000 }).ana.state = .notReady) ∧
      ((sniffing .result).loaded = true ∧ (sniffing .result).anaLink.framer.active = true ∧
        ((sniffing .result).port .p0).openCase = some 5 ∧ ((sniffing .result).port .p0).state.quarantined = false ∧
        sniffJudgement testConfig.analyser 0 60 = .leak ∧ sniffJudgement testConfig.analyser 49 59 = .trace ∧
        sniffJudgement testConfig.analyser 4 4 = .clean) ∧
      (withAna { base.ana with leakT := .running 5000 }).ana.leakT = .running 5000 := by decide

/-- A listen window for HALO with the view at HALO, and the receiver above D_off. -/
def window (d : DState) : State := withAgent { seeking d with window := .running 40, viewClass := some .halo }

theorem test_meets_FlowWindowDecides :
    ((window .listenFlow).agent.sought = some .halo ∧ (window .listenFlow).agent.window = .running 40 ∧
        (window .listenFlow).agent.held .halo = false ∧ (window .listenFlow).noOther .halo = true ∧
        (window .listenFlow).accepting .halo = true ∧
        (testConfig.rcvSet .halo).dOff < (window .listenFlow).level .halo) ∧
      (withAgent (seeking .listenFlow)).agent.viewClass ≠ some .halo ∧ base.flowingPeers = [] ∧
      ({ base with peers := base.peers.set 7 { Peer.reset with present := true, disch := some (.flowOn .hydro 1) } } :
        State).flowingPeers = [(7, .hydro)] := by decide

/-- The same window with a receiver in another state and of another content. -/
def windowAt (st : ReceiverState) (latest : Word16) : State :=
  { window .listenFlow with halo := { base.halo with state := st, latest := latest } }

/-- The receiver's answers to a flow start: STARTING, FAULT, DISCHARGING, and ACCEPTING and FULL at D_off of 500 g. -/
theorem test_meets_FlowWindowDecides_at_each_receiver :
    (∀ st ∈ [ReceiverState.starting, .fault .scaleDrop, .discharging, .accepting, .full],
      let s := windowAt st 8500
      s.agent.sought = some .halo ∧ s.agent.window = .running 40 ∧ s.noOther .halo = true ∧ s.agent.viewClass = some .halo ∧
        (s.elapse 40).agent.held .halo = false ∧ s.agent.contended = false ∧ s.loaded = true ∧ s.line.clash = false ∧
        s.line.queue.length < 5 ∧ (s.rcv .halo).state = st ∧ s.level .halo = (testConfig.rcvSet .halo).dOff) ∧
      (ReceiverState.fault .scaleDrop).isFault = true ∧ (testConfig.rcvSet .halo).dOff < (windowAt .full 8501).level .halo := by
  decide

/-- FLOW_ON goes out, and FLOW_OFF after it where the flow is done at its start (R129, R130; log 11). -/
theorem test_flow_start_offers_its_frames :
    let frames (s : State) : List Frame :=
      ((after .flowWindowExpiry s).line.queue.map QueuedFrame.frame).filter fun f => !f.isBeacon
    frames (windowAt .accepting 8501) = [.flowOn .halo 0] ∧
      frames (windowAt .accepting 8500) = [.flowOn .halo 0, .flowOff .halo] ∧ frames (windowAt .starting 8501) = [] := by
  decide +kernel

/-- A purge ends in the same ways, with the request up or not. -/
theorem test_meets_DrainAndPurgeDecide_at_the_end_of_a_purge :
    let s (st : ReceiverState) (req : Bool) : State :=
      { withAgent { seeking .purging with purge := .running 20000, purgeSerial := 4, purgeV := true } with
        halo := { base.halo with state := st, latest := 8500, request := req } }
    (∀ st ∈ [ReceiverState.starting, .fault .scaleDrop, .discharging, .accepting, .full],
      ((s st true).rcv .halo).request = true ∧ ((s st true).rcv .halo).state = st ∧ (s st true).loaded = true ∧
        (s st true).line.clash = false ∧ (s st true).line.queue.length < 5 ∧ (s st true).agent.purge = .running 20000) ∧
      ((s .accepting false).rcv .halo).request = false := by decide

theorem test_meets_DrainAndPurgeDecide :
    (base.loaded = true ∧ base.line.clash = false ∧ base.line.queue.length < 7) ∧
      (withAgent { seeking .drain with drain := .running 10000 }).agent.drain = .running 10000 ∧
      (withAgent { seeking .listenPurge with window := .running 40, reserved := true }).agent.reserved = true ∧
      (withAgent { seeking .purging with purge := .running 20000 }).agent.purge = .running 20000 := by decide

theorem test_meets_BackoffAndHoldsRunOut :
    let wants (r : Receiver) : Receiver := { r with request := true }
    let s : State :=
      { withAgent { seeking .backoff with backoff := .running 130, heldH := .running 2000 } with
        halo := wants base.halo, hydro := wants base.hydro }
    (s.loaded = true ∧ s.line.clash = false ∧ s.line.queue.length < 7 ∧ s.agent.backoff = .running 130 ∧
        s.lc.paused = false ∧ s.line.listenIn = false) ∧
      s.chosen = some .hydro ∧ base.chosen = none ∧ s.agent.heldT .halo = .running 2000 ∧
      ({ base with halo := wants base.halo, hydro := wants base.hydro } : State).chosen = some .halo ∧
      ({ base with halo := wants base.halo, hydro := wants base.hydro } : State).eligible .hydro = true ∧
      (withAgent { seeking .waiting with heldH := .running 2000 }).agent.dstate = .waiting ∧
      (withAgent { seeking .waiting with heldH := .running 2000 }).agent.sought = some .halo := by decide

theorem test_meets_RecordLinksSkipWhatIsNotGood :
    let s : State := { base with scaleLink := ⟨.skipping, .running 11⟩, anaLink := ⟨.inMessage [0x61], .running 11⟩ }
    s.loaded = true ∧ (s.recordLink .scale).framer.active = false ∧ (s.recordLink .scale).gap = .running 11 ∧
      (s.recordLink .analyser).framer.active = true := by decide

theorem test_meets_the_invariants :
    base.AccountsHold ∧ base.OutputsSafe ∧ base.ValvesSafe ∧ base.ana.PathsSafe ∧ base.QueuesBounded ∧
      step { base with pending := [.transmitStart] } = .next (after .transmitStart base) := by
  refine ⟨⟨⟨by decide, by decide⟩, by decide, by decide⟩, ⟨by decide, fun c => by cases c <;> decide,
    fun c => by cases c <;> decide, by decide⟩, fun p c h => ?_, ⟨fun p h => ?_, fun p h => ?_, fun h => by cases h⟩,
    ⟨by decide, by decide⟩, rfl⟩
  · cases p <;> cases c <;> cases h
  all_goals cases p <;> cases h

end Sys2Proof.Tests
end

section
/-! PROOFS. How the analyser scheduler's shared operations behave, one lemma for each case of each: a record taken on its link,
the serving check, READY, the two decisions on a result, and the range of a field of the image. -/

namespace Sys2Proof.Machine

/-! ### What two steps in a row leave -/

theorem block_same_trans {b : Block} {s t u : State} (hst : b.same s t) (htu : b.same t u) : b.same s u := by
  cases b <;> exact Eq.trans htu hst

theorem sameBut_trans {l m n : List Block} {s t u : State} (hst : s.SameBut l t) (htu : t.SameBut m u) (hl : l ⊆ n)
    (hm : m ⊆ n) : s.SameBut n u :=
  fun b hb => block_same_trans (hst b (mt (@hl b) hb)) (htu b (mt (@hm b) hb))

/-! ### A record on a link (R200) -/

/-- The link once a record on it has completed: its framer hunts, and no gap is timed. -/
abbrev State.linkHunts (l : RecordLink) (s : State) : State := s.setRecordLink l ⟨.hunting, .stopped⟩

/-- A station in LOADED takes a record that completes in HUNTING or IN_MESSAGE, and the link hunts on. -/
theorem onRecord_of_active {l : RecordLink} {s : State} (act : State → State) (hloaded : s.loaded = true)
    (hactive : (s.recordLink l).framer.active = true) : s.onRecord l act = act (s.linkHunts l) := by
  simp [State.onRecord, hloaded, hactive]

theorem linkHunts_sameBut (l : RecordLink) (s : State) : s.SameBut [.link l] (s.linkHunts l) := by
  rw [sameBut_iff]
  cases l <;> simp [State.setRecordLink]

/-! ### The serving check (R64) -/

theorem mayServe_eq_of_idle {s : State} (hidle : s.ana.state = .idle) :
    s.mayServe = (!s.ana.warning && !s.lc.paused) := by
  simp [State.mayServe, hidle]

theorem serve_eq_self_of_not_mayServe {s : State} (hmay : s.mayServe = false) : s.serve = s := by
  simp [State.serve, hmay]

theorem serve_eq_self_of_queue_nil {s : State} (hqueue : s.ana.queue = []) : s.serve = s := by
  simp [State.serve, hqueue]

theorem serve_eq_of_queue_cons {s : State} {x : ClassifyEntry} {rest : List ClassifyEntry} (hmay : s.mayServe = true)
    (hqueue : s.ana.queue = x :: rest) :
    s.serve = s.setAna
      (({ s.ana with state := .classifying x.port .sample false, queue := rest } : Analyser).openPath x.port false
        (s.cfg.analyser.sampleS * 1000)) := by
  simp [State.serve, hmay, hqueue]

/-- The serving check starts nothing where no entry waits, the sniff-warning flag is up, or the station is PAUSED. -/
theorem serve_eq_self_of_idle {s : State} (hidle : s.ana.state = .idle)
    (hwait : s.ana.queue = [] ∨ s.ana.warning = true ∨ s.lc.paused = true) : s.serve = s := by
  obtain hqueue | hwarning | hpaused := hwait
  · exact serve_eq_self_of_queue_nil hqueue
  · exact serve_eq_self_of_not_mayServe (by simp [mayServe_eq_of_idle hidle, hwarning])
  · exact serve_eq_self_of_not_mayServe (by simp [mayServe_eq_of_idle hidle, hpaused])

theorem quad_get_set_self {α : Type} (q : Quad α) (p : PortId) (x : α) : (q.set p x).get p = x := by
  cases p <;> rfl

/-- The serving check starts the head entry's sample. -/
theorem serve_runs_head {s : State} {x : ClassifyEntry} {rest : List ClassifyEntry} (hidle : s.ana.state = .idle)
    (hqueue : s.ana.queue = x :: rest) (hwarning : s.ana.warning = false) (hpaused : s.lc.paused = false) :
    s.serve.ana.queue = rest ∧ s.serve.SampleRuns x.port := by
  have hmay : s.mayServe = true := by simp [mayServe_eq_of_idle hidle, hwarning, hpaused]
  rw [serve_eq_of_queue_cons hmay hqueue]
  simp [State.SampleRuns, Analyser.openPath, quad_get_set_self]

/-- The serving check leaves the count of timeouts and the sweep's due time. -/
@[simp] theorem serve_count_dueAt (s : State) :
    s.serve.ana.count = s.ana.count ∧ s.serve.ana.dueAt = s.ana.dueAt := by
  by_cases hmay : s.mayServe = true
  · cases hqueue : s.ana.queue with
    | nil => simp [serve_eq_self_of_queue_nil hqueue]
    | cons x rest => simp [serve_eq_of_queue_cons hmay hqueue, Analyser.openPath]
  · simp [serve_eq_self_of_not_mayServe (Bool.eq_false_of_not_eq_true hmay)]

/-! ### READY (R60) -/

theorem analyserIdle_eq_serve {s : State} (hpending : s.ana.pendingSniff = false) :
    s.analyserIdle = (s.setAna { s.ana with state := .idle }).serve := by
  simp [State.analyserIdle, hpending]

/-- The due time of the sweep once the scheduler has entered IDLE: the first entry starts it, where the sweep is on (R70). -/
def State.dueOnReady (s : State) : Option Nat :=
  if s.ana.dueAt = none ∧ 0 < sweepPeriod s.cfg.analyser then some (s.clock + sweepPeriod s.cfg.analyser)
  else s.ana.dueAt

/-- The scheduler in IDLE on READY, before its serving check. -/
def State.idleOnReady (s : State) : State :=
  s.setAna { s.ana with state := .idle, count := 0, dueAt := s.dueOnReady }

theorem becomeReady_eq_serve {s : State} (hpending : s.ana.pendingSniff = false) :
    s.becomeReady = s.idleOnReady.serve :=
  analyserIdle_eq_serve (s := s.setAna { s.ana with count := 0, dueAt := s.dueOnReady }) hpending

theorem becomeReady_count_dueAt {s : State} (hpending : s.ana.pendingSniff = false) :
    s.becomeReady.ana.count = 0 ∧ s.becomeReady.ana.dueAt = s.dueOnReady := by
  simp [becomeReady_eq_serve hpending, State.idleOnReady]

/-- Where nothing can be served, READY leaves the scheduler in IDLE with its queue. -/
theorem becomeReady_waits {s : State} (hpending : s.ana.pendingSniff = false)
    (hwait : s.ana.queue = [] ∨ s.ana.warning = true ∨ s.lc.paused = true) :
    s.becomeReady.ana.state = .idle ∧ s.becomeReady.ana.queue = s.ana.queue := by
  have hstays : s.idleOnReady.serve = s.idleOnReady := serve_eq_self_of_idle rfl hwait
  rw [becomeReady_eq_serve hpending, hstays]
  exact ⟨rfl, rfl⟩

/-- Where the head of the queue can be served, READY starts its sample. -/
theorem becomeReady_runs_head {s : State} {x : ClassifyEntry} {rest : List ClassifyEntry}
    (hpending : s.ana.pendingSniff = false) (hqueue : s.ana.queue = x :: rest) (hwarning : s.ana.warning = false)
    (hpaused : s.lc.paused = false) :
    s.becomeReady.ana.queue = rest ∧ s.becomeReady.SampleRuns x.port := by
  rw [becomeReady_eq_serve hpending]
  exact serve_runs_head (s := s.idleOnReady) rfl hqueue hwarning hpaused

/-- READY moves no block but the scheduler. -/
theorem becomeReady_sameBut (s : State) : s.SameBut [.ana] s.becomeReady := by
  rw [sameBut_iff]
  simp [State.becomeReady]

theorem takeReady_eq_becomeReady {s : State} (hasleep : s.ana.state = .notReady ∨ s.ana.state = .fault) :
    s.takeReady = s.becomeReady := by
  obtain h | h := hasleep <;> simp [State.takeReady, h]

theorem takeReady_eq_self {s : State} (hnotReady : s.ana.state ≠ .notReady) (hfault : s.ana.state ≠ .fault) :
    s.takeReady = s := by
  cases h : s.ana.state with
  | notReady => exact absurd h hnotReady
  | fault => exact absurd h hfault
  | idle => simp [State.takeReady, h]
  | classifying p phase w => simp [State.takeReady, h]
  | sniffing p phase noted => simp [State.takeReady, h]

/-- READY on a link that takes records: the scheduler acts on it with the link hunting again. -/
theorem exec_ready {s : State} (hloaded : s.loaded = true) (hactive : s.anaLink.framer.active = true) :
    exec .ready s = .next (s.linkHunts .analyser).takeReady.finish := by
  have htaken : s.onRecord .analyser State.takeReady = (s.linkHunts .analyser).takeReady :=
    onRecord_of_active State.takeReady hloaded hactive
  rw [← htaken]
  rfl

/-! ### The two decisions (R67, R75) -/

theorem classifyDecision_mixed {g : AnalyserSet} {halo hydro : Nat} (hhalo : g.ti ≤ halo) (hhydro : g.ti ≤ hydro) :
    classifyDecision g halo hydro = .mixed :=
  if_pos ⟨hhalo, hhydro⟩

/-- With one reading below Ti, the presence threshold decides, the halogen band first. -/
theorem classifyDecision_pure {g : AnalyserSet} {halo hydro : Nat} (hpure : halo < g.ti ∨ hydro < g.ti) :
    classifyDecision g halo hydro = if g.tp ≤ halo then .halo else if g.tp ≤ hydro then .hydro else .none :=
  if_neg (by omega)

theorem sniffJudgement_leak {g : AnalyserSet} {halo hydro : Nat} (hleak : g.haloLeak ≤ halo ∨ g.hydroLeak ≤ hydro) :
    sniffJudgement g halo hydro = .leak :=
  if_pos hleak

/-- With both readings below their leak limits, the trace limit decides. -/
theorem sniffJudgement_noLeak {g : AnalyserSet} {halo hydro : Nat} (hhalo : halo < g.haloLeak)
    (hhydro : hydro < g.hydroLeak) :
    sniffJudgement g halo hydro = if g.traceLimit ≤ halo ∨ g.traceLimit ≤ hydro then .trace else .clean :=
  if_neg (by omega)

/-! ### Ti below Tp (R190, R193) -/

theorem lo_le_value (f : ImageField) (b : List Byte) : f.lo ≤ f.value b := Nat.le_max_left ..

theorem orderAnalyser_ti_lt_tp {g : AnalyserSet} (hpos : 0 < g.tp) : (orderAnalyser g).ti < (orderAnalyser g).tp := by
  unfold orderAnalyser
  split
  · exact Nat.sub_one_lt_of_lt hpos
  next hbelow => exact Nat.lt_of_not_le hbelow

end Sys2Proof.Machine
end

section
/-! PROOFS. READY and the judging of results (03), settled from the lemmas of the scheduler's operations. -/

namespace Sys2Proof.Machine

/-- Settles O47: a sleeping scheduler goes through `becomeReady`, an awake one leaves READY alone. The link's return to HUNTING
moves nothing that READY acts on. -/
theorem readyWakesTheScheduler : Obligations.ReadyWakesTheScheduler := by
  intro s hloaded hactive
  have hlink : s.SameBut [.link .analyser] (s.linkHunts .analyser) := linkHunts_sameBut .analyser s
  constructor
  · intro hasleep hpending
    have htaken : (s.linkHunts .analyser).takeReady = (s.linkHunts .analyser).becomeReady :=
      takeReady_eq_becomeReady hasleep
    have hframe : s.SameBut [.ana, .link .analyser] (s.linkHunts .analyser).becomeReady :=
      sameBut_trans hlink (becomeReady_sameBut _) (by simp) (by simp)
    have hpending' : (s.linkHunts .analyser).ana.pendingSniff = false := hpending
    obtain ⟨hcount, hdue⟩ := becomeReady_count_dueAt hpending'
    exact ⟨_, htaken ▸ exec_ready hloaded hactive, hframe, hcount, hdue, becomeReady_waits hpending',
      fun _ _ => becomeReady_runs_head hpending'⟩
  · intro hnotReady hfault
    have htaken : (s.linkHunts .analyser).takeReady = s.linkHunts .analyser := takeReady_eq_self hnotReady hfault
    exact ⟨_, htaken ▸ exec_ready hloaded hactive, hlink⟩

/-- Settles O48: the tests of R67 and R75 in their order, and R193's adjustment, which needs Tp above 0 as its range gives. -/
theorem resultsAreJudged : Obligations.ResultsAreJudged := by
  constructor
  · intro g halo hydro
    refine ⟨classifyDecision_mixed, fun hpure hp => ?_, fun hpure hp hq => ?_, fun hpure hp hq => ?_, sniffJudgement_leak,
      fun hhalo hhydro htrace => ?_, fun hhalo hhydro hp hq => ?_⟩
    · rw [classifyDecision_pure hpure, if_pos hp]
    · rw [classifyDecision_pure hpure, if_neg (Nat.not_le_of_lt hp), if_pos hq]
    · rw [classifyDecision_pure hpure, if_neg (Nat.not_le_of_lt hp), if_neg (Nat.not_le_of_lt hq)]
    · rw [sniffJudgement_noLeak hhalo hhydro, if_pos htrace]
    · rw [sniffJudgement_noLeak hhalo hhydro, if_neg (by omega)]
  · intro b
    have htp : 2 ≤ (clampedAnalyser b).tp := lo_le_value tpField b
    exact orderAnalyser_ti_lt_tp (Nat.zero_lt_of_lt htp)

end Sys2Proof.Machine
end

section
/-! PROOFS. How a served request and the release of a waiting port behave, one lemma for each case of each: the station-wide
checks passed, a record's entry into the report queue, and the choice among the ports in CLOSING (04, 09). -/

namespace Sys2Proof.Machine

/-! ### A request that is served (R177, R178) -/

/-- The state in which a served request acts: its message is complete, and the framer hunts. -/
abbrev State.hunts (s : State) : State := s.setOp s.op.hunt

/-- A request that passes the station-wide checks acts, and its answer starts at once. -/
theorem request_of_serves {s : State} (hserves : s.serves) (type : Byte) (act : State → State × List Message) :
    s.request type act = (act s.hunts).1.respond (act s.hunts).2 := by
  obtain ⟨⟨hactive, hidle⟩, hfault, hlisten⟩ := hserves
  have htx : s.hunts.op.tx = .idle := hidle
  have hfault' : s.hunts.configFault = false := hfault
  have hlisten' : s.hunts.line.listenIn = false := hlisten
  have hchecks : State.stationChecks type act s.hunts = act s.hunts := by
    simp only [State.stationChecks, hfault', hlisten', Bool.false_eq_true, if_false]
  simp only [State.request, State.takeMessage, hactive, if_true, htx, hchecks]

theorem respond_sameBut (l : List Message) (s : State) : s.SameBut [.op] (s.respond l) := by
  rw [sameBut_iff]
  simp [State.respond]

theorem hunts_sameBut (s : State) : s.SameBut [.op] s.hunts := by
  rw [sameBut_iff]
  simp

theorem sameBut_refl (l : List Block) (s : State) : s.SameBut l s := fun b _ => by cases b <;> rfl

/-- A served request changes what its action changes, and the operator port. -/
theorem respond_sameBut_of_act {l m : List Block} {s t : State} (messages : List Message) (hact : s.hunts.SameBut l t)
    (hl : l ⊆ m) (hop : .op ∈ m) : s.SameBut m (t.respond messages) :=
  have hsub : [Block.op] ⊆ m := List.cons_subset.mpr ⟨hop, List.nil_subset m⟩
  have hacted : s.SameBut m t := sameBut_trans (hunts_sameBut s) hact hsub hl
  sameBut_trans hacted (respond_sameBut messages t) (List.Subset.refl m) hsub

/-! ### A record enters the report queue (R88, R91) -/

theorem raise_flag_self (e : EventKind) (s : State) : (s.raise e).op.flag e = true := by
  cases e <;> simp [State.raise, OperatorPort.flag, EventKind.mask, EventKind.bit]

theorem enqueueRecord_store (p : PortId) (r : CaseRecord) (s : State) :
    (s.enqueueRecord p r).store = { s.store with queue := s.store.queue ++ [r] } := by
  simp [State.enqueueRecord]

theorem enqueueRecord_port_self (p : PortId) (r : CaseRecord) (s : State) :
    (s.enqueueRecord p r).port p = { s.port p with slot := none, state := (s.port p).afterClose } := by
  simp [State.enqueueRecord, State.modPort]

theorem enqueueRecord_samePortsBut (p : PortId) (r : CaseRecord) (s : State) :
    s.SamePortsBut p (s.enqueueRecord p r) := by
  intro q hq
  simp [State.enqueueRecord, State.modPort, State.port_setPort_ne hq]

theorem enqueueRecord_caseReport (p : PortId) (r : CaseRecord) (s : State) :
    (s.enqueueRecord p r).op.flag .caseReport = true :=
  raise_flag_self .caseReport _

theorem enqueueRecord_sameBut (p : PortId) (r : CaseRecord) (s : State) :
    s.SameBut [.ports, .store, .op] (s.enqueueRecord p r) := by
  rw [sameBut_iff]
  simp

/-! ### The choice among the waiting ports (R91) -/

/-- A waiting port goes before another: it closed earlier, or at the same time with a lower number. -/
def releasedBefore (m n : PortId × Nat) : Prop := m.2 < n.2 ∨ (m.2 = n.2 ∧ m.1.num < n.1.num)

theorem earliest_mem {l : List (PortId × Nat)} {m : PortId × Nat} (hm : earliest l = some m) : m ∈ l := by
  induction l generalizing m with
  | nil => cases hm
  | cons a rest ih =>
    cases hrest : earliest rest with
    | none =>
      simp only [earliest, hrest, Option.some.injEq] at hm
      exact hm ▸ List.mem_cons_self
    | some n =>
      simp only [earliest, hrest] at hm
      split at hm <;> cases hm
      · exact List.mem_cons_of_mem a (ih hrest)
      · exact List.mem_cons_self

/-- The head is kept where no member of the rest closed before it. -/
theorem earliest_cons_eq_head {a : PortId × Nat} {rest : List (PortId × Nat)} (hlate : ∀ n ∈ rest, a.2 ≤ n.2) :
    earliest (a :: rest) = some a := by
  cases hrest : earliest rest with
  | none => simp only [earliest, hrest]
  | some n => simp only [earliest, hrest, if_neg (Nat.not_lt.mpr (hlate n (earliest_mem hrest)))]

/-- In a list by port, the member that goes before every other is chosen. -/
theorem earliest_eq_some {l : List (PortId × Nat)} {m : PortId × Nat}
    (hsorted : l.Pairwise fun a b => a.1.num < b.1.num) (hm : m ∈ l)
    (hfirst : ∀ n ∈ l, n ≠ m → releasedBefore m n) : earliest l = some m := by
  induction l with
  | nil => cases hm
  | cons a rest ih =>
    obtain ⟨hlower, hsorted'⟩ := List.pairwise_cons.mp hsorted
    obtain rfl | hrest := List.mem_cons.mp hm
    · refine earliest_cons_eq_head fun n hn => ?_
      have hne : n ≠ m := by
        rintro rfl
        exact Nat.lt_irrefl _ (hlower n hn)
      obtain hlt | ⟨heq, -⟩ := hfirst n (List.mem_cons_of_mem m hn) hne
      · exact Nat.le_of_lt hlt
      · exact Nat.le_of_eq heq
    · have hnum : a.1.num < m.1.num := hlower m hrest
      have hne : a ≠ m := by
        rintro rfl
        exact Nat.lt_irrefl _ hnum
      have hlt : m.2 < a.2 := (hfirst a List.mem_cons_self hne).resolve_right fun h => Nat.lt_asymm hnum h.2
      have hchosen : earliest rest = some m := ih hsorted' hrest fun n hn => hfirst n (List.mem_cons_of_mem a hn)
      simp only [earliest, hchosen, if_pos hlt]

/-! ### The waiting set (R80) -/

theorem mem_portIds (p : PortId) : p ∈ PortId.all := by cases p <;> decide

/-- A port's part of the waiting set: nothing unless it is in CLOSING with a record in its slot. -/
def State.waitingEntry (s : State) (p : PortId) : Option (PortId × Nat) :=
  if (s.port p).state = .closing then (s.port p).slot.map fun r => (p, r.closedS.getD 0) else none

theorem waitingSet_eq_filterMap (s : State) : s.waitingSet = PortId.all.filterMap s.waitingEntry := by
  refine List.filterMap_congr fun p _ => ?_
  split
  next r hclosing hslot => simp [State.waitingEntry, hclosing, hslot]
  next hother =>
    by_cases hclosing : (s.port p).state = .closing
    · have hempty : (s.port p).slot = none := Option.eq_none_iff_forall_ne_some.mpr fun r => hother r hclosing
      simp [State.waitingEntry, hempty]
    · simp [State.waitingEntry, hclosing]

theorem waitingEntry_eq_some {s : State} {p : PortId} {m : PortId × Nat} :
    s.waitingEntry p = some m ↔
      (s.port p).state = .closing ∧ ∃ r, (s.port p).slot = some r ∧ (p, r.closedS.getD 0) = m := by
  simp [State.waitingEntry, Option.map_eq_some_iff]

theorem mem_waitingSet {s : State} {m : PortId × Nat} :
    m ∈ s.waitingSet ↔
      ∃ p r, (s.port p).state = .closing ∧ (s.port p).slot = some r ∧ (p, r.closedS.getD 0) = m := by
  simp [waitingSet_eq_filterMap, waitingEntry_eq_some, mem_portIds]

/-- The waiting set lists the ports by their numbers. -/
theorem waitingSet_sorted (s : State) : s.waitingSet.Pairwise fun m n => m.1.num < n.1.num := by
  have hports : PortId.all.Pairwise fun p q => p.num < q.num := by decide
  rw [waitingSet_eq_filterMap, List.pairwise_filterMap]
  refine hports.imp fun hlt m hm n hn => ?_
  obtain ⟨-, _, -, rfl⟩ := waitingEntry_eq_some.mp hm
  obtain ⟨-, _, -, rfl⟩ := waitingEntry_eq_some.mp hn
  exact hlt

theorem waitingSet_eq_nil {s : State} (hnone : ∀ p, (s.port p).state ≠ .closing) : s.waitingSet = [] := by
  rw [List.eq_nil_iff_forall_not_mem]
  intro m hm
  obtain ⟨p, _, hclosing, -⟩ := mem_waitingSet.mp hm
  exact hnone p hclosing

/-! ### The release (R91) -/

/-- A port, with `w` the record in its slot, goes before every other port that waits (R91). -/
def State.FirstToRelease (p : PortId) (w : CaseRecord) (s : State) : Prop :=
  ∀ q x, q ≠ p → (s.port q).state = .closing → (s.port q).slot = some x →
    releasedBefore (p, w.closedS.getD 0) (q, x.closedS.getD 0)

theorem earliest_waitingSet {s : State} {p : PortId} {w : CaseRecord} (hclosing : (s.port p).state = .closing)
    (hslot : (s.port p).slot = some w) (hfirst : s.FirstToRelease p w) :
    earliest s.waitingSet = some (p, w.closedS.getD 0) := by
  refine earliest_eq_some (waitingSet_sorted s) (mem_waitingSet.mpr ⟨p, w, hclosing, hslot, rfl⟩) fun n hn hne => ?_
  obtain ⟨q, x, hclosing', hslot', rfl⟩ := mem_waitingSet.mp hn
  have hother : q ≠ p := by
    rintro rfl
    exact hne (by rw [Option.some.inj (hslot.symm.trans hslot')])
  exact hfirst q x hother hclosing' hslot'

theorem releaseWaiting_eq_self {s : State} (hnone : ∀ p, (s.port p).state ≠ .closing) : s.releaseWaiting = s := by
  simp only [State.releaseWaiting, waitingSet_eq_nil hnone, earliest]

theorem releaseWaiting_eq_enqueueRecord {s : State} {p : PortId} {w : CaseRecord}
    (hclosing : (s.port p).state = .closing) (hslot : (s.port p).slot = some w) (hfirst : s.FirstToRelease p w) :
    s.releaseWaiting = s.enqueueRecord p w := by
  simp only [State.releaseWaiting, earliest_waitingSet hclosing hslot hfirst, hslot]

/-! ### TAKE_REPORT (R90) -/

theorem takeReport_of_queue_nil {s : State} (hqueue : s.store.queue = []) : s.takeReport = (s, [noReport]) := by
  simp only [State.takeReport, hqueue]

/-- The state once the oldest record has left the queue. -/
abbrev State.dropOldest (rest : List CaseRecord) (s : State) : State := s.setStore { s.store with queue := rest }

theorem dropOldest_sameBut (rest : List CaseRecord) (s : State) : s.SameBut [.store] (s.dropOldest rest) := by
  rw [sameBut_iff]
  simp

theorem takeReport_of_queue_cons {s : State} {r : CaseRecord} {rest : List CaseRecord}
    (hqueue : s.store.queue = r :: rest) :
    s.takeReport = ((s.dropOldest rest).releaseWaiting, report rest.length r) := by
  simp only [State.takeReport, hqueue]

/-- TAKE_REPORT served, by what it does in the state where its message is complete. -/
theorem exec_takeReport {s t : State} {messages : List Message} (hserves : s.serves)
    (htaken : s.hunts.takeReport = (t, messages)) : exec .takeReport s = .next (t.respond messages).finish := by
  have hrequest : s.request 0x03 State.takeReport = t.respond messages := by
    rw [request_of_serves hserves, htaken]
  rw [← hrequest]
  rfl

end Sys2Proof.Machine
end

section
/-! PROOFS. TAKE_REPORT (04), settled from the lemmas of the request, the choice among the waiting ports and the release. -/

namespace Sys2Proof.Machine

/-- Settles O14: an empty queue answers NO_REPORT, and otherwise the oldest record leaves and `releaseWaiting` either finds no
port in CLOSING or is the release of the port that R91 chooses. -/
theorem takeReportAnswersAndReleases : Obligations.TakeReportAnswersAndReleases := by
  intro s hserves
  constructor
  · intro hqueue
    have htaken : s.hunts.takeReport = (s.hunts, [noReport]) := takeReport_of_queue_nil hqueue
    exact ⟨_, exec_takeReport hserves htaken, respond_sameBut_of_act _ (sameBut_refl [] _) (by simp) (by simp), rfl⟩
  · intro r rest hqueue
    have htaken : s.hunts.takeReport = ((s.hunts.dropOldest rest).releaseWaiting, report rest.length r) :=
      takeReport_of_queue_cons hqueue
    have hframe : s.hunts.SameBut [.store] (s.hunts.dropOldest rest) := dropOldest_sameBut rest s.hunts
    constructor
    · intro hnone
      have hstays : (s.hunts.dropOldest rest).releaseWaiting = s.hunts.dropOldest rest := releaseWaiting_eq_self hnone
      rw [hstays] at htaken
      exact ⟨_, exec_takeReport hserves htaken, respond_sameBut_of_act _ hframe (by simp) (by simp), rfl, rfl⟩
    · intro p w hclosing hslot hfirst
      have hreleased : (s.hunts.dropOldest rest).releaseWaiting = (s.hunts.dropOldest rest).enqueueRecord p w :=
        releaseWaiting_eq_enqueueRecord hclosing hslot hfirst
      rw [hreleased] at htaken
      have hmoved : s.hunts.SameBut [.ports, .store, .op] ((s.hunts.dropOldest rest).enqueueRecord p w) :=
        sameBut_trans hframe (enqueueRecord_sameBut p w _) (by simp) (List.Subset.refl _)
      have hstore : ((s.hunts.dropOldest rest).enqueueRecord p w).store = { s.store with queue := rest ++ [w] } :=
        enqueueRecord_store p w _
      refine ⟨_, exec_takeReport hserves htaken, respond_sameBut_of_act _ hmoved (List.Subset.refl _) (by simp),
        enqueueRecord_samePortsBut p w _, hstore, ?_, enqueueRecord_port_self p w _, enqueueRecord_caseReport p w _, rfl⟩
      calc ((s.hunts.dropOldest rest).enqueueRecord p w).store.queue.length
          = (rest ++ [w]).length := by rw [hstore]
        _ = s.store.queue.length := by simp [hqueue]

end Sys2Proof.Machine
end

section
/-! PROOFS. The frames of line conditions in the transmit queue (05): the header agent's operations leave every one of them where
it is and add none. -/

namespace Sys2Proof.Machine

/-! ### The frames of line conditions in the queue (R104, R154) -/

/-- A frame that line conditions alone offers: PAUSE, RESUME or ALARM. -/
def Frame.isCondition : Frame → Bool
  | .pause _ => true
  | .resume => true
  | .alarm _ => true
  | .beacon _ => false
  | .intent _ _ _ => false
  | .flowOn _ _ => false
  | .flowOff _ => false
  | .purgeStart _ _ => false
  | .purgeDone _ _ => false
  | .hold _ _ => false

/-- The queued frames of line conditions, in order. -/
def conditionFrames (l : List QueuedFrame) : List QueuedFrame := l.filter fun q => q.frame.isCondition

/-- With the same frames of line conditions, a frame of theirs in one queue is in the other. -/
theorem mem_of_conditionFrames_eq {q : QueuedFrame} {l m : List QueuedFrame} (hsame : conditionFrames l = conditionFrames m)
    (hq : q ∈ l) (hcondition : q.frame.isCondition = true) : q ∈ m := by
  have hmem : q ∈ conditionFrames l := List.mem_filter.mpr ⟨hq, hcondition⟩
  rw [hsame] at hmem
  exact List.mem_of_mem_filter hmem

@[simp] theorem conditionFrames_append (l m : List QueuedFrame) :
    conditionFrames (l ++ m) = conditionFrames l ++ conditionFrames m :=
  List.filter_append ..

theorem conditionFrames_cons (q : QueuedFrame) (l : List QueuedFrame) :
    conditionFrames (q :: l) = if q.frame.isCondition then q :: conditionFrames l else conditionFrames l :=
  List.filter_cons

theorem not_isCondition_of_replaces {new old : Frame} (hreplaces : replaces new old = true) :
    old.isCondition = false := by
  cases old with
  | beacon b => rfl
  | hold c r => rfl
  | _ => cases new <;> cases hreplaces

theorem not_isCondition_of_isBeacon {f : Frame} (hbeacon : f.isBeacon = true) : f.isCondition = false := by
  cases f with
  | beacon b => rfl
  | _ => cases hbeacon

/-- No frame of line conditions gives up its place to a newer frame. -/
theorem conditionFrames_replaceIn {q : QueuedFrame} {l w : List QueuedFrame} (hq : q.frame.isCondition = false)
    (hw : replaceIn q l = some w) : conditionFrames w = conditionFrames l := by
  induction l generalizing w with
  | nil => cases hw
  | cons x rest ih =>
    simp only [replaceIn] at hw
    split at hw
    next hreplaces =>
      cases hw
      simp [conditionFrames_cons, hq, not_isCondition_of_replaces hreplaces]
    next =>
      obtain ⟨v, hv, rfl⟩ := Option.map_eq_some_iff.mp hw
      simp only [conditionFrames_cons, ih hv]

/-- No frame of line conditions is discarded for room. -/
theorem conditionFrames_dropBeacon {l w : List QueuedFrame} (hw : dropBeacon l = some w) :
    conditionFrames w = conditionFrames l := by
  induction l generalizing w with
  | nil => cases hw
  | cons x rest ih =>
    simp only [dropBeacon] at hw
    split at hw
    next hbeacon =>
      cases hw
      simp [conditionFrames_cons, not_isCondition_of_isBeacon hbeacon]
    next =>
      obtain ⟨v, hv, rfl⟩ := Option.map_eq_some_iff.mp hw
      simp only [conditionFrames_cons, ih hv]

theorem sendingPart_append_waitingPart (l : LineIf) : l.sendingPart ++ l.waitingPart = l.queue := by
  unfold LineIf.sendingPart LineIf.waitingPart
  split
  · rw [← List.drop_one, List.take_append_drop]
  · rfl

/-- Offering a frame of another block moves no frame of line conditions. -/
theorem conditionFrames_offer {q : QueuedFrame} (hq : q.frame.isCondition = false) (l : LineIf) :
    conditionFrames (l.offer q).1.queue = conditionFrames l.queue := by
  have hlast : conditionFrames [q] = [] := by simp [conditionFrames, hq]
  rw [← sendingPart_append_waitingPart l]
  unfold LineIf.offer
  split
  next => rw [sendingPart_append_waitingPart]
  next =>
    split
    next w hw => simp [conditionFrames_replaceIn hq hw]
    next =>
      split
      next => simp [hlast, ← sendingPart_append_waitingPart l]
      next =>
        split
        next w hw => simp [hlast, conditionFrames_dropBeacon hw]
        next => rw [sendingPart_append_waitingPart]

@[simp] theorem conditionFrames_offerEntry {f : Frame} (hf : ¬f.isCondition) (n : Nat) (s : State) :
    conditionFrames (s.offerEntry f n).1.line.queue = conditionFrames s.line.queue := by
  have hoffer : conditionFrames (s.line.offer ⟨f, n⟩).1.queue = conditionFrames s.line.queue :=
    conditionFrames_offer (Bool.eq_false_of_not_eq_true hf) s.line
  unfold State.offerEntry
  dsimp only
  (repeat' split) <;> simp [hoffer]

@[simp] theorem conditionFrames_offer_state {f : Frame} (hf : ¬f.isCondition) (s : State) :
    conditionFrames (s.offer f).line.queue = conditionFrames s.line.queue :=
  conditionFrames_offerEntry hf 0 s

@[simp] theorem conditionFrames_noticeChange (d : DState) (s : State) :
    conditionFrames (s.noticeChange d).line.queue = conditionFrames s.line.queue := by
  unfold State.noticeChange
  split
  · rfl
  · simp [State.offerBeacon, Frame.isCondition]

@[simp] theorem conditionFrames_toBackoff (long : Bool) (s : State) :
    conditionFrames (s.toBackoff long).line.queue = conditionFrames s.line.queue := by
  simp [State.toBackoff]

@[simp] theorem conditionFrames_toListen (u : Purpose) (c : GasClass) (s : State) :
    conditionFrames (s.toListen u c).line.queue = conditionFrames s.line.queue := by
  unfold State.toListen
  dsimp only
  split <;> simp [Frame.isCondition]

@[simp] theorem conditionFrames_idleCheck (s : State) :
    conditionFrames s.idleCheck.line.queue = conditionFrames s.line.queue := by
  unfold State.idleCheck
  (repeat' split) <;> simp

@[simp] theorem conditionFrames_goNext (n : NextState) (s : State) :
    conditionFrames (s.goNext n).line.queue = conditionFrames s.line.queue := by
  cases n <;> simp [State.goNext, State.toIdle]

@[simp] theorem conditionFrames_offerHoldOnly (h : HoldClass) (reason : HoldReason) (s : State) :
    conditionFrames (s.offerHoldOnly h reason).line.queue = conditionFrames s.line.queue := by
  simp [State.offerHoldOnly, Frame.isCondition]

@[simp] theorem conditionFrames_endFlow (conflictHold sendOff : Bool) (n : NextState) (s : State) :
    conditionFrames (s.endFlow conflictHold sendOff n).line.queue = conditionFrames s.line.queue := by
  unfold State.endFlow
  split
  next => rfl
  next c _ => cases conflictHold <;> cases sendOff <;> simp [Frame.isCondition]

@[simp] theorem conditionFrames_abortPurge (conflictHold sendDone : Bool) (n : NextState) (s : State) :
    conditionFrames (s.abortPurge conflictHold sendDone n).line.queue = conditionFrames s.line.queue := by
  cases conflictHold <;> cases sendDone <;> simp [State.abortPurge, Frame.isCondition]

@[simp] theorem conditionFrames_agentStop (frames : Bool) (s : State) :
    conditionFrames (s.agentStop frames).line.queue = conditionFrames s.line.queue := by
  unfold State.agentStop
  split <;> simp [State.toIdle]

@[simp] theorem conditionFrames_toDrain (s : State) :
    conditionFrames s.toDrain.line.queue = conditionFrames s.line.queue := by
  unfold State.toDrain
  split <;> simp [State.toWaiting]

@[simp] theorem conditionFrames_reevaluate (s : State) :
    conditionFrames s.reevaluate.line.queue = conditionFrames s.line.queue := by
  unfold State.reevaluate
  (repeat' split) <;> simp

/-- The agent answers a change of the view or of the sets with frames of its own alone. -/
@[simp] theorem conditionFrames_viewReaction (flowing : List (Address × GasClass)) (told : Bool) (s : State) :
    conditionFrames (s.viewReaction flowing told).line.queue = conditionFrames s.line.queue := by
  unfold State.viewReaction
  (repeat' split) <;> simp [State.toWaiting]

end Sys2Proof.Machine
end

section
/-! PROOFS. A pause start block by block (01, 06, 07, 08), the end of a flow at the ports, and the news of the derived sets at the
agent. -/

namespace Sys2Proof.Machine

/-! ### What `SameBut` says of one port and of one receiver -/

theorem port_eq_of_sameBut {l : List Block} {s u : State} (hsame : s.SameBut l u) (hl : .ports ∉ l) (p : PortId) :
    u.port p = s.port p :=
  congrArg (Quad.get · p) (hsame .ports hl)

theorem rcv_eq_of_sameBut {l : List Block} {s u : State} (hsame : s.SameBut l u) {c : GasClass}
    (hl : .receiver c ∉ l) : u.rcv c = s.rcv c :=
  hsame (.receiver c) hl

/-! ### Each port in turn -/

/-- Where an operation at one port leaves the other ports, each port is operated on once, as it stood, in a state that keeps
what every operation keeps. -/
theorem eachPort_port {f : PortId → State → State} {keeps : State → Prop} (hkeeps : ∀ p t, keeps t → keeps (f p t))
    (hothers : ∀ p t, State.SamePortsBut p t (f p t)) {s : State} (hs : keeps s) (p : PortId) :
    ∃ t : State, keeps t ∧ t.port p = s.port p ∧ (s.eachPort f).port p = (f p t).port p := by
  have h1 : keeps (f .p0 s) := hkeeps .p0 s hs
  have h2 : keeps (f .p1 (f .p0 s)) := hkeeps .p1 _ h1
  have h3 : keeps (f .p2 (f .p1 (f .p0 s))) := hkeeps .p2 _ h2
  have hpass : ∀ {q t}, p ≠ q → (f q t).port p = t.port p := fun hne => hothers _ _ p hne
  cases p with
  | p0 => exact ⟨s, hs, rfl, (hpass (by decide)).trans ((hpass (by decide)).trans (hpass (by decide)))⟩
  | p1 => exact ⟨_, h1, hpass (by decide), (hpass (by decide)).trans (hpass (by decide))⟩
  | p2 => exact ⟨_, h2, (hpass (by decide)).trans (hpass (by decide)), hpass (by decide)⟩
  | p3 => exact ⟨_, h3, (hpass (by decide)).trans ((hpass (by decide)).trans (hpass (by decide))), rfl⟩

theorem modPort_samePortsBut (p : PortId) (f : Port → Port) (s : State) : s.SamePortsBut p (s.modPort p f) :=
  fun _ hq => State.port_setPort_ne hq _ s

@[simp] theorem modPort_port_self (p : PortId) (f : Port → Port) (s : State) : (s.modPort p f).port p = f (s.port p) :=
  State.port_setPort_self p _ s

theorem eachPort_modPort_port (f : Port → Port) (s : State) (p : PortId) :
    (s.eachPort fun p => State.modPort p f).port p = f (s.port p) := by
  obtain ⟨t, -, hbefore, hafter⟩ := eachPort_port (keeps := fun _ => True) (f := fun p => State.modPort p f)
    (fun _ _ _ => trivial) (fun p t => modPort_samePortsBut p f t) (s := s) trivial p
  rw [hafter, modPort_port_self, hbefore]

/-! ### A receiver's notice at its ports (R15, R16, R47) -/

theorem samePortsBut_refl (p : PortId) (s : State) : s.SamePortsBut p s := fun _ _ => rfl

theorem route_samePortsBut (p : PortId) (s : State) : s.SamePortsBut p (s.route p) := by
  unfold State.route
  split
  next => exact samePortsBut_refl p s
  next => (repeat' split) <;> exact modPort_samePortsBut p _ s

theorem recheck_samePortsBut (p : PortId) (s : State) : s.SamePortsBut p (s.recheck p) := by
  unfold State.recheck
  split
  · exact samePortsBut_refl p s
  · exact route_samePortsBut p s

theorem portNotice_samePortsBut (c : GasClass) (accepting : Bool) (p : PortId) (s : State) :
    s.SamePortsBut p (s.portNotice c accepting p) := by
  unfold State.portNotice
  split
  next =>
    split
    next => cases accepting; exacts [modPort_samePortsBut p _ s, samePortsBut_refl p s]
    next => cases accepting; exacts [samePortsBut_refl p s, recheck_samePortsBut p s]
    next => exact samePortsBut_refl p s
  next => exact samePortsBut_refl p s

/-- A port in EXTRACT stays as it is on a notice, or goes to WAIT with its valves closed. -/
theorem portNotice_port_of_extract {p : PortId} {s : State} (hextract : (s.port p).state = .extract) (c : GasClass)
    (accepting : Bool) :
    (s.portNotice c accepting p).port p = s.port p ∨
      (s.portNotice c accepting p).port p = (s.port p).toWait .receiver := by
  by_cases hgas : (s.port p).gas = some c
  · cases accepting <;> simp [State.portNotice, hgas, hextract]
  · simp [State.portNotice, hgas]

/-- While PAUSED a notice moves no port but one in EXTRACT with a case of the receiver's class. -/
theorem portNotice_eq_self_of_paused {p : PortId} {s : State} {c : GasClass} (hpaused : s.lc.paused = true)
    (hother : (s.port p).state = .extract → (s.port p).gas ≠ some c) (accepting : Bool) :
    s.portNotice c accepting p = s := by
  unfold State.portNotice
  split
  next hgas =>
    split
    next hextract => exact absurd hgas (hother hextract)
    next => simp [State.recheck, hpaused]
    next => rfl
  next => rfl

theorem tellPorts_port_of_extract {p : PortId} {s : State} (hextract : (s.port p).state = .extract) (c : GasClass) :
    (s.tellPorts c).port p = s.port p ∨ (s.tellPorts c).port p = (s.port p).toWait .receiver := by
  obtain ⟨t, -, hbefore, hafter⟩ := eachPort_port (keeps := fun _ => True)
    (f := State.portNotice c (s.accepting c)) (fun _ _ _ => trivial) (portNotice_samePortsBut c _) (s := s) trivial p
  rw [State.tellPorts, hafter, ← hbefore]
  exact portNotice_port_of_extract (hbefore ▸ hextract) c _

theorem tellPorts_port_of_paused {p : PortId} {s : State} {c : GasClass} (hpaused : s.lc.paused = true)
    (hother : (s.port p).state = .extract → (s.port p).gas ≠ some c) : (s.tellPorts c).port p = s.port p := by
  obtain ⟨t, htpaused, hbefore, hafter⟩ := eachPort_port (keeps := fun t => t.lc.paused = true)
    (f := State.portNotice c (s.accepting c)) (fun _ _ ht => by simpa using ht) (portNotice_samePortsBut c _) hpaused p
  rw [State.tellPorts, hafter, ← hbefore, portNotice_eq_self_of_paused htpaused (hbefore ▸ hother)]

/-! ### The end of a flow at the ports (R51, R130) -/

theorem receiverFlowEnd_port_of_extract {p : PortId} {s : State} (hextract : (s.port p).state = .extract)
    (c : GasClass) :
    (s.receiverFlowEnd c).port p = s.port p ∨ (s.receiverFlowEnd c).port p = (s.port p).toWait .receiver := by
  unfold State.receiverFlowEnd
  dsimp only
  split
  next =>
    rw [← State.port_setRcv c _ p s] at hextract ⊢
    exact tellPorts_port_of_extract hextract c
  next => exact .inl rfl

/-- A port in EXTRACT whose case is of a class, and the receiver of that class is DISCHARGING. R48 leaves no such port. -/
def State.ExtractsFromDischarging (s : State) (p : PortId) : Prop :=
  (s.port p).state = .extract ∧ ∃ c, (s.port p).gas = some c ∧ (s.rcv c).state = .discharging

theorem receiverFlowEnd_port_of_paused {p : PortId} {s : State} (hpaused : s.lc.paused = true)
    (hrests : ¬s.ExtractsFromDischarging p) (c : GasClass) : (s.receiverFlowEnd c).port p = s.port p := by
  unfold State.receiverFlowEnd
  dsimp only
  split
  next hdischarging =>
    rw [← State.port_setRcv c _ p s, tellPorts_port_of_paused]
    · simpa using hpaused
    · intro hextract hgas
      rw [State.port_setRcv] at hextract hgas
      exact hrests ⟨hextract, c, hgas, hdischarging⟩
  next => rfl

/-- The flow's end as the ports see it: the receiver's flow-end notice, in a state with the same ports, receivers and pause. -/
theorem endFlow_port {s : State} {c : GasClass} (hsought : s.agent.sought = some c) (conflictHold sendOff : Bool)
    (n : NextState) :
    ∃ t : State, t.lc = s.lc ∧ (∀ p, t.port p = s.port p) ∧ (∀ d, t.rcv d = s.rcv d) ∧
      ∀ p, (s.endFlow conflictHold sendOff n).port p = (t.receiverFlowEnd c).port p := by
  refine ⟨if conflictHold then (s.setAgent s.agent.shut).offerHoldOnly .all .conflict else s.setAgent s.agent.shut,
    ?_, ?_, ?_, ?_⟩
  case refine_4 => cases conflictHold <;> cases sendOff <;> simp [State.endFlow, hsought]
  all_goals cases conflictHold <;> simp

theorem endFlow_eq_self {s : State} (hsought : s.agent.sought = none) (conflictHold sendOff : Bool) (n : NextState) :
    s.endFlow conflictHold sendOff n = s := by
  simp only [State.endFlow, hsought]

theorem endFlow_port_of_extract {p : PortId} {s : State} (hextract : (s.port p).state = .extract)
    (conflictHold sendOff : Bool) (n : NextState) :
    (s.endFlow conflictHold sendOff n).port p = s.port p ∨
      (s.endFlow conflictHold sendOff n).port p = (s.port p).toWait .receiver := by
  cases hsought : s.agent.sought with
  | none => exact .inl (by rw [endFlow_eq_self hsought])
  | some c =>
    obtain ⟨t, -, hport, -, hend⟩ := endFlow_port hsought conflictHold sendOff n
    rw [← hport p] at hextract ⊢
    rw [hend p]
    exact receiverFlowEnd_port_of_extract hextract c

theorem endFlow_port_of_paused {p : PortId} {s : State} (hpaused : s.lc.paused = true)
    (hrests : ¬s.ExtractsFromDischarging p) (conflictHold sendOff : Bool) (n : NextState) :
    (s.endFlow conflictHold sendOff n).port p = s.port p := by
  cases hsought : s.agent.sought with
  | none => rw [endFlow_eq_self hsought]
  | some c =>
    obtain ⟨t, hlc, hport, hrcv, hend⟩ := endFlow_port hsought conflictHold sendOff n
    have hrests' : ¬t.ExtractsFromDischarging p := by
      simpa only [State.ExtractsFromDischarging, hport, hrcv] using hrests
    rw [hend p, receiverFlowEnd_port_of_paused (hlc ▸ hpaused) hrests' c, hport]

/-! ### The agent stops (R135, R137) -/

theorem agentStop_port_of_not_flowing {s : State} (hstate : s.agent.dstate ≠ .flowing) (frames : Bool) (p : PortId) :
    (s.agentStop frames).port p = s.port p := by
  unfold State.agentStop
  split
  next => rfl
  next hflowing => exact absurd hflowing hstate
  all_goals simp

theorem agentStop_eq_endFlow {s : State} (hstate : s.agent.dstate = .flowing) (frames : Bool) :
    s.agentStop frames = s.endFlow false frames .idle := by
  simp only [State.agentStop, hstate]

theorem agentStop_port_of_extract {p : PortId} {s : State} (hextract : (s.port p).state = .extract) (frames : Bool) :
    (s.agentStop frames).port p = s.port p ∨ (s.agentStop frames).port p = (s.port p).toWait .receiver := by
  by_cases hstate : s.agent.dstate = .flowing
  · rw [agentStop_eq_endFlow hstate]
    exact endFlow_port_of_extract hextract false frames .idle
  · exact .inl (agentStop_port_of_not_flowing hstate frames p)

theorem agentStop_port_of_paused {p : PortId} {s : State} (hpaused : s.lc.paused = true)
    (hrests : ¬s.ExtractsFromDischarging p) (frames : Bool) : (s.agentStop frames).port p = s.port p := by
  by_cases hstate : s.agent.dstate = .flowing
  · rw [agentStop_eq_endFlow hstate]
    exact endFlow_port_of_paused hpaused hrests false frames .idle
  · exact agentStop_port_of_not_flowing hstate frames p

theorem idleCheck_eq_self_of_paused {s : State} (hpaused : s.lc.paused = true) : s.idleCheck = s :=
  if_neg fun ⟨_, hrun, _⟩ => Bool.noConfusion (hpaused.symm.trans hrun)

/-- While PAUSED the agent that comes to IDLE stays there. -/
theorem toIdle_dstate_of_paused {s : State} (hpaused : s.lc.paused = true) : s.toIdle.agent.dstate = .idle := by
  rw [State.toIdle, idleCheck_eq_self_of_paused (by simpa using hpaused)]
  simp [Agent.goTo]

theorem endFlow_idle_dstate_of_paused {s : State} (hpaused : s.lc.paused = true) (hsought : s.agent.sought ≠ none)
    (conflictHold sendOff : Bool) : (s.endFlow conflictHold sendOff .idle).agent.dstate = .idle := by
  obtain ⟨c, hc⟩ := Option.ne_none_iff_exists'.mp hsought
  simp only [State.endFlow, hc, State.goNext]
  refine toIdle_dstate_of_paused ?_
  cases conflictHold <;> cases sendOff <;> simpa using hpaused

theorem abortPurge_idle_dstate_of_paused {s : State} (hpaused : s.lc.paused = true) (conflictHold sendDone : Bool) :
    (s.abortPurge conflictHold sendDone .idle).agent.dstate = .idle := by
  simp only [State.abortPurge, State.goNext]
  refine toIdle_dstate_of_paused ?_
  cases conflictHold <;> cases sendDone <;> simpa using hpaused

/-- A pause takes the agent to IDLE from every state; a flow has a class (R138). -/
theorem agentStop_dstate_of_paused {s : State} (hpaused : s.lc.paused = true)
    (hclass : s.agent.dstate = .flowing → s.agent.sought ≠ none) (frames : Bool) :
    (s.agentStop frames).agent.dstate = .idle := by
  unfold State.agentStop
  split
  next hidle => exact hidle
  next hflowing => exact endFlow_idle_dstate_of_paused hpaused (hclass hflowing) false frames
  next => exact abortPurge_idle_dstate_of_paused hpaused false frames
  all_goals exact toIdle_dstate_of_paused hpaused

/-! ### The news of the sets at the agent (R122, R123, R130, R144) -/

theorem toBackoff_dstate (long : Bool) (s : State) : (s.toBackoff long).agent.dstate = .backoff := by
  simp [State.toBackoff, Agent.goTo]

theorem toListen_dstate_ne_flowing (u : Purpose) (c : GasClass) (s : State) :
    (s.toListen u c).agent.dstate ≠ .flowing := by
  unfold State.toListen
  dsimp only
  split
  next => cases u <;> simp
  all_goals simp [toBackoff_dstate]

theorem toWaiting_dstate (s : State) : s.toWaiting.agent.dstate = .waiting := by
  simp [State.toWaiting, Agent.goTo]

theorem toDrain_dstate_ne_flowing (s : State) : s.toDrain.agent.dstate ≠ .flowing := by
  unfold State.toDrain
  split
  · simp [toWaiting_dstate]
  · simp [Agent.goTo]

theorem reevaluate_dstate_ne_flowing {s : State} (hstate : s.agent.dstate ≠ .flowing) :
    s.reevaluate.agent.dstate ≠ .flowing := by
  unfold State.reevaluate
  (repeat' split)
  next => exact hstate
  next => exact toListen_dstate_ne_flowing _ _ _
  next => exact toDrain_dstate_ne_flowing s
  next => exact hstate

theorem endFlow_backoff_dstate {s : State} (hsought : s.agent.sought ≠ none) (conflictHold sendOff : Bool) :
    (s.endFlow conflictHold sendOff .backoff).agent.dstate = .backoff := by
  obtain ⟨c, hc⟩ := Option.ne_none_iff_exists'.mp hsought
  simp only [State.endFlow, hc, State.goNext, toBackoff_dstate]

/-- No news of the sets starts a flow: an agent that flows after them flowed before, and took no step. -/
theorem viewReaction_eq_self_of_flowing {s : State} {flowing : List (Address × GasClass)} {told : Bool}
    (hflows : (s.viewReaction flowing told).agent.dstate = .flowing) : s.viewReaction flowing told = s := by
  revert hflows
  unfold State.viewReaction
  split
  next hwaiting =>
    split
    next =>
      have hstays : s.reevaluate.agent.dstate ≠ .flowing := reevaluate_dstate_ne_flowing (by simp [hwaiting])
      exact fun hflows => absurd hflows hstays
    next => exact fun _ => rfl
  next =>
    (repeat' split)
    next => simp [toWaiting_dstate]
    next => exact fun hflows => absurd hflows (toListen_dstate_ne_flowing _ _ _)
    all_goals exact fun _ => rfl
  next =>
    split
    next => exact fun _ => rfl
    next =>
      by_cases hsought : s.agent.sought = none
      · exact fun _ => endFlow_eq_self hsought ..
      · simp [endFlow_backoff_dstate hsought]
  all_goals exact fun _ => rfl

/-- The news of the sets move a port or a receiver only by the end of a flow whose class is not the view's. -/
theorem viewReaction_sameBut {s : State} (hview : s.agent.dstate = .flowing → s.agent.viewClass = s.agent.sought)
    (flowing : List (Address × GasClass)) (told : Bool) :
    s.SameBut [.agent, .line, .op] (s.viewReaction flowing told) := by
  rw [sameBut_iff]
  unfold State.viewReaction
  split
  next => split <;> simp
  next => (repeat' split) <;> simp
  next hflowing => simp [hview hflowing]
  all_goals simp

theorem viewReaction_port_of_extract {p : PortId} {s : State} (hextract : (s.port p).state = .extract)
    (flowing : List (Address × GasClass)) (told : Bool) :
    (s.viewReaction flowing told).port p = s.port p ∨
      (s.viewReaction flowing told).port p = (s.port p).toWait .receiver := by
  by_cases hview : s.agent.dstate = .flowing → s.agent.viewClass = s.agent.sought
  · exact .inl (port_eq_of_sameBut (viewReaction_sameBut hview flowing told) (by simp) p)
  · obtain ⟨hflowing, hother⟩ := Classical.not_imp.mp hview
    have hends : s.viewReaction flowing told = s.endFlow false true .backoff := by
      simp only [State.viewReaction, hflowing, if_neg hother]
    rw [hends]
    exact endFlow_port_of_extract hextract false true .backoff

/-! ### A frame heard (R101, R141) -/

/-- The state a heard frame's handing on starts from: the framer hunts, and the source's entry is refreshed. -/
abbrev State.heard (src : Address) (f : Frame) (s : State) : State :=
  (s.setLine (s.line.setFramer .hunting)).setPeer src ((s.peer src).take s.clock f)

/-- The news of the sets a frame heard brings. -/
abbrev State.newsOf (src : Address) (f : Frame) (s : State) : SetNews :=
  setNews (s.setLine (s.line.setFramer .hunting)) (s.heard src f)

theorem onFrame_of_heard {src : Address} {f : Frame} {s : State} (act : SetNews → State → State)
    (hloaded : s.loaded = true) (hpeer : src ≠ s.cfg.address) :
    s.onFrame src (some f) act = act (s.newsOf src f) (s.heard src f) := by
  simp only [State.onFrame, hloaded, if_true, if_neg hpeer]
  rfl

theorem readPause_of_hears {src : Address} {cb : Byte} {cause : PauseCause} {s : State}
    (hhears : s.hears (.pause src cb) src (.pause cause)) : readPause cb = some (.pause cause) := by
  obtain ⟨hframe, -, -⟩ := hhears
  obtain ⟨f, hread, heq⟩ := Option.map_eq_some_iff.mp hframe
  cases heq
  exact hread

/-- A PAUSE heard: the agent takes the news of the sets, then line conditions takes the pause. -/
theorem exec_pause_of_hears {src : Address} {cb : Byte} {cause : PauseCause} {s : State}
    (hhears : s.hears (.pause src cb) src (.pause cause)) :
    exec (.pause src cb) s =
      .next (((s.heard src (.pause cause)).tellSets (s.newsOf src (.pause cause))).lcPause cause).finish := by
  have hread : readPause cb = some (.pause cause) := readPause_of_hears hhears
  obtain ⟨-, hloaded, hpeer⟩ := hhears
  have harm : exec (.pause src cb) s = execPause src cb s := rfl
  rw [harm, execPause, hread, onFrame_of_heard _ hloaded hpeer]

/-- The news of the sets reach the agent where a set changed, and nobody else. -/
theorem tellSets_eq (n : SetNews) (s : State) : s.tellSets n = s ∨ s.tellSets n = s.viewReaction n.flowing true := by
  unfold State.tellSets
  split
  · exact .inr rfl
  · exact .inl rfl

theorem tellSets_eq_self_of_idle {s : State} (hidle : s.agent.dstate = .idle) (n : SetNews) : s.tellSets n = s := by
  obtain h | h := tellSets_eq n s
  · exact h
  · rw [h, State.viewReaction, hidle]

@[simp] theorem tellSets_lc_field (n : SetNews) (s : State) :
    (s.tellSets n).lc = s.lc ∧ (s.tellSets n).field = s.field := by
  obtain h | h := tellSets_eq n s <;> simp [h]

@[simp] theorem conditionFrames_tellSets (n : SetNews) (s : State) :
    conditionFrames (s.tellSets n).line.queue = conditionFrames s.line.queue := by
  obtain h | h := tellSets_eq n s <;> simp [h]

theorem tellSets_eq_self_of_flowing {n : SetNews} {s : State} (hflows : (s.tellSets n).agent.dstate = .flowing) :
    s.tellSets n = s := by
  obtain h | h := tellSets_eq n s
  · exact h
  · rw [h] at hflows ⊢
    exact viewReaction_eq_self_of_flowing hflows

theorem tellSets_sameBut {s : State} (hview : s.agent.dstate = .flowing → s.agent.viewClass = s.agent.sought)
    (n : SetNews) : s.SameBut [.agent, .line, .op] (s.tellSets n) := by
  obtain h | h := tellSets_eq n s
  · rw [h]
    exact sameBut_refl _ s
  · rw [h]
    exact viewReaction_sameBut hview n.flowing true

theorem tellSets_port_of_extract {p : PortId} {s : State} (hextract : (s.port p).state = .extract) (n : SetNews) :
    (s.tellSets n).port p = s.port p ∨ (s.tellSets n).port p = (s.port p).toWait .receiver := by
  obtain h | h := tellSets_eq n s
  · exact .inl (by rw [h])
  · rw [h]
    exact viewReaction_port_of_extract hextract n.flowing true

/-! ### The pause start (R26, R135, R153, R163) -/

/-- Both receiver valves of the port are closed. -/
def Port.Shut (x : Port) : Prop := x.valveH = false ∧ x.valveK = false

theorem toWait_shut (r : WaitReason) (x : Port) : (x.toWait r).Shut := ⟨rfl, rfl⟩

theorem pauseStart_state_slot (x : Port) : x.pauseStart.state = x.state ∧ x.pauseStart.slot = x.slot := by
  cases h : x.state <;> simp [Port.pauseStart, h, Port.closeValves]

theorem pauseStart_shut_of_extract {x : Port} (hextract : x.state = .extract) : x.pauseStart.Shut := by
  simp [Port.pauseStart, hextract, Port.closeValves, Port.Shut]

theorem pauseStart_toWait (r : WaitReason) (x : Port) : (x.toWait r).pauseStart = x.toWait r := rfl

/-- The ports' part of a pause start. -/
abbrev State.pausePorts (s : State) : State := s.eachPort fun p => State.modPort p Port.pauseStart

theorem pausePorts_port (s : State) (p : PortId) : s.pausePorts.port p = (s.port p).pauseStart :=
  eachPort_modPort_port Port.pauseStart s p

@[simp] theorem pausePorts_frame (s : State) :
    s.pausePorts.lc = s.lc ∧ s.pausePorts.agent = s.agent ∧ s.pausePorts.line = s.line ∧
      s.pausePorts.field = s.field ∧ ∀ c, s.pausePorts.rcv c = s.rcv c := by
  simp [State.eachPort]

theorem pausePorts_extractsFromDischarging (s : State) (p : PortId) :
    s.pausePorts.ExtractsFromDischarging p ↔ s.ExtractsFromDischarging p := by
  simp [State.ExtractsFromDischarging, pausePorts_port, pauseStart_state_slot, Port.gas]

/-- A pause start, block by block: the ports, then the agent; the field unit's lines follow the rest. -/
theorem tellPause_parts (s : State) :
    (∀ p, s.tellPause.port p = (s.pausePorts.agentStop true).port p) ∧
      s.tellPause.agent = (s.pausePorts.agentStop true).agent ∧
      s.tellPause.line = (s.pausePorts.agentStop true).line ∧
      s.tellPause.field = s.field.mapPortLines LineInput.pauseStart := by
  simp [State.tellPause]

@[simp] theorem conditionFrames_tellPause (s : State) :
    conditionFrames s.tellPause.line.queue = conditionFrames s.line.queue := by
  obtain ⟨-, -, hline, -⟩ := tellPause_parts s
  simp [hline]

theorem tellPause_dstate {s : State} (hpaused : s.lc.paused = true)
    (hclass : s.agent.dstate = .flowing → s.agent.sought ≠ none) : s.tellPause.agent.dstate = .idle := by
  obtain ⟨-, hagent, -, -⟩ := tellPause_parts s
  rw [hagent]
  exact agentStop_dstate_of_paused (by simpa using hpaused) (by simpa using hclass) true

/-- Each port takes the pause start; the end of the agent's flow adds nothing at a port R48 allows. -/
theorem tellPause_port {p : PortId} {s : State} (hpaused : s.lc.paused = true)
    (hrests : ¬s.ExtractsFromDischarging p) : s.tellPause.port p = (s.port p).pauseStart := by
  obtain ⟨hport, -, -, -⟩ := tellPause_parts s
  have hrests' : ¬s.pausePorts.ExtractsFromDischarging p := mt (pausePorts_extractsFromDischarging s p).mp hrests
  rw [hport, agentStop_port_of_paused (by simpa using hpaused) hrests', pausePorts_port]

theorem tellPause_port_shut_of_extract {p : PortId} {s : State} (hextract : (s.port p).state = .extract) :
    (s.tellPause.port p).Shut := by
  obtain ⟨hport, -, -, -⟩ := tellPause_parts s
  have hextract' : (s.pausePorts.port p).state = .extract := by
    rw [pausePorts_port, (pauseStart_state_slot _).1, hextract]
  rw [hport]
  obtain h | h := agentStop_port_of_extract hextract' true
  · rw [h, pausePorts_port]
    exact pauseStart_shut_of_extract hextract
  · rw [h]
    exact toWait_shut ..

theorem portsPaused_of_pauseStart {s u : State}
    (hports : ∀ p, ¬s.ExtractsFromDischarging p → u.port p = (s.port p).pauseStart) : s.PortsPaused u := by
  intro p
  have hother : (s.port p).state ≠ .extract → u.port p = (s.port p).pauseStart := fun hstate =>
    hports p fun ⟨hextract, _⟩ => hstate hextract
  cases hstate : (s.port p).state with
  | extract =>
    intro hrests
    rw [hports p fun ⟨_, c, hgas, hdischarging⟩ => hrests c hgas hdischarging]
    simp [Port.pauseStart, hstate, Port.closeValves]
  | _ =>
    dsimp only
    rw [hother (by simp [hstate])]
    simp [Port.pauseStart, hstate]

theorem mapPortLines_input (f : LineInput → LineInput) (x : FieldUnit) {p : PortId} {l : InputLine}
    (hl : l ∈ portLines p) : (x.mapPortLines f).input l = f (x.input l) := by
  simp only [portLines, List.mem_cons, List.not_mem_nil, or_false] at hl
  obtain rfl | rfl | rfl := hl <;> cases p <;> rfl

theorem linesSuspended_of_field {s u : State} (hfield : u.field = s.field.mapPortLines LineInput.pauseStart) :
    s.LinesSuspended u := by
  intro p l hl
  rw [hfield, mapPortLines_input _ _ hl]
  rfl

/-! ### PAUSE at line conditions (R147) -/

/-- Line conditions once a PAUSE frame has entered its cause. -/
abbrev LineConditions.pausedBy (cause : PauseCause) (x : LineConditions) : LineConditions :=
  { x with paused := true, causeLine := true, lastPause := some cause }

/-- The state in which the blocks take the pause start of a PAUSE heard. -/
abbrev State.entersPause (cause : PauseCause) (s : State) : State := (s.setLc (s.lc.pausedBy cause)).raise .pause

theorem lcPause_of_run {s : State} (hrun : s.lc.paused = false) (cause : PauseCause) :
    s.lcPause cause = (s.entersPause cause).tellPause := by
  have hrun' : (s.setLc { s.lc with lastPause := some cause }).lc.paused = false := hrun
  simp only [State.lcPause, State.enterPause, hrun', Bool.false_eq_true, if_false]
  rfl

theorem lcPause_of_paused {s : State} (hpaused : s.lc.paused = true) (cause : PauseCause) :
    s.lcPause cause = s.setLc { s.lc with causeLine := true, lastPause := some cause } := by
  have hpaused' : (s.setLc { s.lc with lastPause := some cause }).lc.paused = true := hpaused
  simp only [State.lcPause, State.enterPause, hpaused', if_true]
  rfl

/-! ### PAUSE after the news of the sets -/

section
variable {s : State} (hrun : s.lc.paused = false) (n : SetNews) (cause : PauseCause)
include hrun

theorem tellSets_lcPause_eq : (s.tellSets n).lcPause cause = ((s.tellSets n).entersPause cause).tellPause :=
  lcPause_of_run (by simpa using hrun) cause

theorem tellSets_lcPause_lc : ((s.tellSets n).lcPause cause).lc = s.lc.pausedBy cause := by
  simp [tellSets_lcPause_eq hrun]

theorem tellSets_lcPause_flag : ((s.tellSets n).lcPause cause).op.flag .pause = true := by
  rw [tellSets_lcPause_eq hrun]
  exact tellPause_flag _ .pause (raise_flag_self .pause _)

theorem tellSets_lcPause_dstate (hclass : s.agent.dstate = .flowing → s.agent.sought ≠ none) :
    ((s.tellSets n).lcPause cause).agent.dstate = .idle := by
  have hclass' : (s.tellSets n).agent.dstate = .flowing → (s.tellSets n).agent.sought ≠ none := by
    intro hflows
    have hsame : s.tellSets n = s := tellSets_eq_self_of_flowing hflows
    rw [hsame] at hflows ⊢
    exact hclass hflows
  rw [tellSets_lcPause_eq hrun]
  exact tellPause_dstate (by simp) (by simpa using hclass')

theorem tellSets_lcPause_conditionFrames :
    conditionFrames ((s.tellSets n).lcPause cause).line.queue = conditionFrames s.line.queue := by
  simp [tellSets_lcPause_eq hrun]

theorem tellSets_lcPause_linesSuspended : s.LinesSuspended ((s.tellSets n).lcPause cause) := by
  obtain ⟨-, -, -, hfield⟩ := tellPause_parts ((s.tellSets n).entersPause cause)
  refine linesSuspended_of_field ?_
  simpa [tellSets_lcPause_eq hrun] using hfield

/-- A port in EXTRACT ends with its valves closed, also where the news end the agent's flow first and send it to WAIT. -/
theorem tellSets_lcPause_shut {p : PortId} (hextract : (s.port p).state = .extract) :
    (((s.tellSets n).lcPause cause).port p).Shut := by
  have hport : ((s.tellSets n).entersPause cause).port p = (s.tellSets n).port p := by simp
  rw [tellSets_lcPause_eq hrun]
  obtain hstays | hwaits := tellSets_port_of_extract hextract n
  · exact tellPause_port_shut_of_extract (by rw [hport, hstays, hextract])
  · have hrests : ¬((s.tellSets n).entersPause cause).ExtractsFromDischarging p := by
      simp [State.ExtractsFromDischarging, hport, hwaits, Port.toWait]
    rw [tellPause_port (by simp) hrests, hport, hwaits, pauseStart_toWait]
    exact toWait_shut ..

theorem tellSets_lcPause_portsPaused (hview : s.agent.dstate = .flowing → s.agent.viewClass = s.agent.sought) :
    s.PortsPaused ((s.tellSets n).lcPause cause) := by
  refine portsPaused_of_pauseStart fun p hrests => ?_
  have hsame : s.SameBut [.agent, .line, .op] (s.tellSets n) := tellSets_sameBut hview n
  have hport : ((s.tellSets n).entersPause cause).port p = s.port p := by
    simp [port_eq_of_sameBut hsame]
  have hrcv : ∀ c, ((s.tellSets n).entersPause cause).rcv c = s.rcv c := by
    simp [rcv_eq_of_sameBut hsame]
  have hrests' : ¬((s.tellSets n).entersPause cause).ExtractsFromDischarging p := by
    simpa only [State.ExtractsFromDischarging, hport, hrcv] using hrests
  rw [tellSets_lcPause_eq hrun, tellPause_port (by simp) hrests', hport]

end

end Sys2Proof.Machine
end

section
/-! PROOFS. PAUSE heard (07), settled from the lemmas of the pause start. -/

namespace Sys2Proof.Machine

/-- Settles O27: in RUN the agent takes the news of the sets and the blocks the pause start, neither of which offers a PAUSE;
while PAUSED the agent in IDLE has no use for the news, and the cause is added. -/
theorem pauseFramePausesTheStation : Obligations.PauseFramePausesTheStation := by
  intro src cb cause s hhears
  have hexec := exec_pause_of_hears hhears
  constructor
  · intro hrun hclass
    have hrun' : (s.heard src (.pause cause)).lc.paused = false := hrun
    refine ⟨_, hexec, tellSets_lcPause_lc hrun' _ cause, tellSets_lcPause_flag hrun' _ cause,
      fun p hextract => tellSets_lcPause_shut hrun' _ cause hextract, tellSets_lcPause_dstate hrun' _ cause hclass,
      tellSets_lcPause_linesSuspended hrun' _ cause, fun hview => tellSets_lcPause_portsPaused hrun' _ cause hview,
      fun q hq ⟨c, hframe⟩ => ?_⟩
    exact mem_of_conditionFrames_eq (tellSets_lcPause_conditionFrames hrun' _ cause) hq (by rw [hframe]; rfl)
  · intro hpaused hidle
    have hstays := tellSets_eq_self_of_idle (s := s.heard src (.pause cause)) hidle (s.newsOf src (.pause cause))
    rw [hstays, lcPause_of_paused (s := s.heard src (.pause cause)) hpaused] at hexec
    refine ⟨_, hexec, ?_, rfl, rfl⟩
    rw [sameBut_iff]
    simp

end Sys2Proof.Machine
end

section
/-! PROOFS. What a command can do: every command of the table is a run of acts, each one an operation of the model with the test
under which the command makes it. A property that every act keeps is then kept by every step. -/

namespace Sys2Proof.Machine

/-! ### The acts -/

/-- The agent's outputs, its discharge state, the class it seeks and the view's class are the same. -/
def Agent.SameDuty (a b : Agent) : Prop :=
  b.dstate = a.dstate ∧ b.sought = a.sought ∧ b.viewClass = a.viewClass ∧ b.dischH = a.dischH ∧ b.dischK = a.dischK ∧
    b.purgeV = a.purgeV ∧ b.selH = a.selH ∧ b.selK = a.selK

/-- The agent's outputs, its discharge state and the class it seeks are the same; the view may differ. -/
def Agent.SameButView (a b : Agent) : Prop :=
  b.dstate = a.dstate ∧ b.sought = a.sought ∧ b.dischH = a.dischH ∧ b.dischK = a.dischK ∧ b.purgeV = a.purgeV ∧
    b.selH = a.selH ∧ b.selK = a.selK

/-- No valve opens, and where one stays open a port that extracts goes on to extract the same case. -/
def Port.OpensNothing (x y : Port) : Prop :=
  ∀ c, y.valve c = true → x.valve c = true ∧ (x.state = .extract → y.state = .extract ∧ y.gas = x.gas)

/-- One act of the header agent. -/
inductive AgentAct (s : State) : State → Prop
  | requestTold (c : GasClass) (was : Bool) : AgentAct s (s.requestNotice c was)
  | flowTold (c : GasClass) (n : NextState) : AgentAct s (s.flowNotice c n)
  | agent (a : Agent) (hduty : s.agent.SameDuty a) : AgentAct s (s.setAgent a)
  | views (n : SetNews) (a : Agent) (hview : s.agent.SameButView a) : AgentAct s (s.takeView n a)
  | setsTold (n : SetNews) : AgentAct s (s.tellSets n)
  | purgeStartEndsFlow (a : Agent) (hview : s.agent.SameButView a) (hflows : s.agent.dstate = .flowing) :
      AgentAct s ((s.setAgent a).endFlow true true .backoff)
  | aborts (conflictHold sendDone : Bool) (n : NextState) (hpurging : s.agent.dstate = .purging) :
      AgentAct s (s.abortPurge conflictHold sendDone n)
  | backsOff (hlistens : s.agent.dstate = .listenFlow ∨ s.agent.dstate = .listenPurge) : AgentAct s (s.toBackoff false)
  | idles (hbackoff : s.agent.dstate = .backoff) : AgentAct s s.toIdle
  | checks : AgentAct s s.idleCheck
  | held (h : HoldClass) : AgentAct s (s.holdEffect h)
  | holdOver (h : HoldClass) : AgentAct s (s.holdEnd h)
  | conflicts : AgentAct s s.conflictBegins
  | flowWindow (hlistens : s.agent.dstate = .listenFlow) : AgentAct s s.flowWindowEnds
  | purgeWindow (hlistens : s.agent.dstate = .listenPurge) : AgentAct s s.purgeWindowEnds
  | drains (hdrain : s.agent.dstate = .drain) : AgentAct s s.drainEnds
  | purges (hpurging : s.agent.dstate = .purging) : AgentAct s s.purgeEnds

/-- One act of the station. -/
inductive Act (s : State) : State → Prop
  | resets : Act s { State.reset with pending := s.pending, free := s.free }
  | elapses (n : Nat) : Act s (s.elapse n)
  | finishes : Act s s.finish
  | loader (x : Loader) : Act s (s.setLoader x)
  | op (x : OperatorPort) : Act s (s.setOp x)
  | field (x : FieldUnit) : Act s (s.setField x)
  | link (l : RecordLink) (x : RecordLinkState) : Act s (s.setRecordLink l x)
  | peer (a : Address) (x : Peer) : Act s (s.setPeer a x)
  | free (n : Nat) : Act s (s.setFree n)
  | line (x : LineIf) (hclash : x.clash = true → s.line.clash = true)
      (hqueue : x.queue.length ≤ s.line.queue.length) : Act s (s.setLine x)
  | conditions (x : LineConditions) (hpaused : x.paused = true → s.lc.paused = true)
      (hinhibit : x.inhibit.isRunning = true → s.lc.inhibit.isRunning = true) : Act s (s.setLc x)
  | offers (f : Frame) : Act s (s.offer f)
  | offersForLine (f : Frame) : Act s (s.lcOffer f)
  | receiver (c : GasClass) (r : Receiver) (haccount : (s.rcv c).AccountHolds → r.AccountHolds)
      (hstate : (s.rcv c).state = .accepting → r.state = .accepting) : Act s (s.setRcv c r)
  | receiverTells (c : GasClass) (r : Receiver) (haccount : (s.rcv c).AccountHolds → r.AccountHolds) :
      Act s ((s.setRcv c r).tellPorts c)
  | port (p : PortId) (x : Port) (hopens : (s.port p).OpensNothing x) : Act s (s.setPort p x)
  | portStarts (p : PortId) : Act s (s.startPort p)
  | caseCreated (p : PortId) (r : CaseRecord) (hvacant : (s.port p).state = .vacant) : Act s (s.createCase p r)
  | connects (p : PortId) (hopened : (s.port p).state = .opened) : Act s (s.tryConnect p)
  | unclamps (p : PortId) (hunclamp : (s.port p).state = .unclamp) :
      Act s (s.setPort p { s.port p with state := .vacant })
  | classifies (p : PortId) (hsettle : (s.port p).state = .settle) : Act s (s.toClassify p)
  | stepSampled (p : PortId) (hpa : Nat) : Act s (s.takeStepSample p hpa)
  | rises (p : PortId) : Act s (s.toRiseTest p)
  | routes (p : PortId) : Act s (s.route p)
  | resumes (p : PortId) : Act s (s.portResume p)
  | inhibitEnds (p : PortId) : Act s (s.portInhibitEnd p)
  | quarantines (p : PortId) (q : QReason) : Act s (s.quarantine p q)
  | closes (p : PortId) (res : CaseResult) : Act s (s.closeCase p res)
  | reportTaken : Act s s.takeReport.1
  | pauses (c : PauseCause) : Act s (s.enterPause c)
  | inhibits (seconds : Nat) : Act s (s.takeInhibit seconds)
  | clashes : Act s s.clash
  | serves : Act s s.serve
  | readies (hasleep : s.ana.state = .notReady ∨ s.ana.state = .fault) : Act s s.becomeReady
  | results (halo hydro : Word16) : Act s (s.takeResult halo hydro)
  | sampleEnds : Act s (s.setAna s.ana.sampleOver)
  | timesOut (hawaits : s.ana.state.awaitsResult = true) : Act s s.timedOut
  | warns (b : Bool) : Act s (s.setAna { s.ana with warning := b })
  | sniffComesDue : Act s s.sniffIsDue
  | leakForgotten : Act s (s.setAna { s.ana with leakRecent := false, leakT := .stopped })
  | byAgent {u : State} (hagent : AgentAct s u) : Act s u

/-- A run of acts. -/
abbrev Acts : State → State → Prop := Relation.ReflTransGen Act

theorem Act.acts {s u : State} (h : Act s u) : Acts s u := .single h

theorem AgentAct.acts {s u : State} (h : AgentAct s u) : Acts s u := (Act.byAgent h).acts

/-- What every act keeps, a run of acts keeps. -/
theorem acts_keep {P : State → Prop} (hkeeps : ∀ s u, P s → Act s u → P u) {s u : State} (hs : P s) (hacts : Acts s u) :
    P u := by
  induction hacts with
  | refl => exact hs
  | tail _ hact ih => exact hkeeps _ _ ih hact

end Sys2Proof.Machine
end

section
/-! PROOFS. The operations of each block as runs of acts (01 to 10). -/

namespace Sys2Proof.Machine

/-! ### Runs of acts -/

theorem acts_finish {s u : State} (h : Acts s u) : Acts s u.finish := h.tail .finishes

/-- An expiry lets time pass and then takes its effect. -/
theorem acts_onExpiry {s : State} (t : Timer) {act : State → State} (hact : ∀ n, Acts (s.elapse n) (act (s.elapse n))) :
    Acts s (s.onExpiry t act) := by
  cases t with
  | running n => exact (Act.elapses n).acts.trans (hact n)
  | _ => exact .refl

theorem acts_atTime {s : State} (due : Nat) {act : State → State} (hact : ∀ t, Acts t (act t)) :
    Acts s (s.atTime due act) :=
  (Act.elapses _).acts.trans (hact _)

theorem acts_raise (e : EventKind) (s : State) : Acts s (s.raise e) := (Act.op _).acts

theorem acts_takeEdge {s : State} (l : InputLine) (asserted : Bool) {act : State → State} (hact : ∀ t, Acts t (act t)) :
    Acts s (s.takeEdge l asserted act) := by
  unfold State.takeEdge
  split
  · exact (Act.field _).acts.trans (hact _)
  · exact .refl

theorem acts_onRecord {s : State} (l : RecordLink) {act : State → State} (hact : ∀ t, Acts t (act t)) :
    Acts s (s.onRecord l act) := by
  unfold State.onRecord
  split
  next =>
    split
    · exact (Act.link l _).acts.trans (hact _)
    · exact (Act.link l _).acts
  next => exact .refl

/-- An operation at each of the four ports in turn. -/
theorem acts_eachPort {s : State} {f : PortId → State → State} (hact : ∀ p t, Acts t (f p t)) : Acts s (s.eachPort f) :=
  (((hact .p0 s).trans (hact .p1 _)).trans (hact .p2 _)).trans (hact .p3 _)

/-! ### Operator messages (09) -/

theorem acts_respond (l : List Message) (s : State) : Acts s (s.respond l) := (Act.op _).acts

theorem acts_takeMessage {s : State} (after : OperatorPort → OperatorPort) (owed : Owed)
    {answer : State → State × List Message} (hact : ∀ t, Acts t (answer t).1) :
    Acts s (s.takeMessage after owed answer) := by
  have hafter : Acts s (s.setOp (after s.op)) := (Act.op _).acts
  unfold State.takeMessage
  split
  next =>
    dsimp only
    split
    · exact (hafter.trans (hact _)).trans (acts_respond _ _)
    · split
      · exact hafter.tail (.op _)
      · exact hafter
  next => exact (Act.op _).acts

/-- A request acts only past the station-wide checks. -/
theorem acts_request {s : State} (type : Byte) {act : State → State × List Message} (hact : ∀ t, Acts t (act t).1) :
    Acts s (s.request type act) := by
  refine acts_takeMessage _ _ fun t => ?_
  unfold State.stationChecks
  split
  · exact .refl
  · split
    · exact .refl
    · exact hact t

theorem acts_openCase (port cls : Byte) (charge foam : Option Word16) (tag : List Byte) (s : State) :
    Acts s (s.openCase port cls charge foam tag).1 := by
  unfold State.openCase
  split
  next => exact .refl
  next =>
    split
    next => exact .refl
    next p _ =>
      split
      next => exact .refl
      next hvacant _ =>
        split
        · exact (Act.caseCreated p _ hvacant).acts
        · exact .refl
      all_goals exact .refl

theorem acts_abandonCase (port : Byte) (s : State) : Acts s (s.abandonCase port).1 := by
  unfold State.abandonCase
  split
  next => exact .refl
  next p _ =>
    split
    next => exact .refl
    next => exact (Act.closes p .abandoned).acts
    next => exact .refl

theorem acts_portStatus (port : Byte) (s : State) : Acts s (s.portStatus port).1 := by
  unfold State.portStatus
  split <;> exact .refl

theorem acts_pauseLine (s : State) : Acts s s.pauseLine.1 := (Act.pauses _).acts.tail (.offersForLine _)

theorem acts_clearPause (s : State) : Acts s (s.setLc s.lc.clearPause) :=
  (Act.conditions _ (by simp [LineConditions.clearPause]) (by exact id)).acts

theorem acts_tellResume (s : State) : Acts s s.tellResume :=
  (((acts_eachPort fun p _ => (Act.resumes p).acts).tail .serves).tail (.byAgent .checks)).tail (.field _)

theorem acts_resumeLine (s : State) : Acts s s.resumeLine.1 := by
  unfold State.resumeLine
  split
  next => exact .refl
  next =>
    split
    · exact (((acts_clearPause s).trans (acts_raise .resume _)).tail (.offersForLine .resume)).trans (acts_tellResume _)
    · exact (Act.offersForLine .resume).acts

theorem acts_messageGap {s : State} : Acts s s.bytesStop := by
  unfold State.bytesStop
  split
  · exact (Act.elapses _).acts.trans (acts_takeMessage _ _ fun _ => .refl)
  · exact acts_onExpiry _ fun _ => (Act.op _).acts

theorem acts_txDone (s : State) : Acts s s.txDone := by
  unfold State.txDone
  split
  · exact .refl
  · split <;> exact (Act.op _).acts

/-! ### Line conditions (07) -/

theorem acts_estopPause (s : State) : Acts s s.estopPause :=
  (Act.conditions _ (by exact id) (by exact id)).acts.tail (.offersForLine _)

theorem acts_lcPause (cause : PauseCause) (s : State) : Acts s (s.lcPause cause) :=
  (Act.conditions _ (by exact id) (by exact id)).acts.tail (.pauses .line)

theorem acts_lcResume (s : State) : Acts s s.lcResume := by
  unfold State.lcResume
  split
  next =>
    split
    · exact acts_estopPause s
    · exact ((acts_clearPause s).trans (acts_raise .resume _)).trans (acts_tellResume _)
  next => exact .refl

theorem acts_lcAlarm (seconds : Nat) (s : State) : Acts s (s.lcAlarm seconds) :=
  (Act.inhibits seconds).acts.trans (acts_raise _ _)

theorem acts_estopPressed (s : State) : Acts s s.estopPressed :=
  ((Act.conditions _ (by exact id) (by exact id)).acts.tail (.pauses .estop)).trans (acts_estopPause _)

theorem acts_estopReleased (s : State) : Acts s s.estopReleased := (Act.conditions _ (by exact id) (by exact id)).acts

theorem acts_estopRepeats (s : State) : Acts s s.estopRepeats := by
  unfold State.estopRepeats
  split
  · exact acts_estopPause s
  · exact (Act.conditions _ (by exact id) (by exact id)).acts

theorem acts_endInhibit (s : State) : Acts s s.endInhibit :=
  ((Act.conditions _ (by exact id) (by simp [Timer.isRunning])).acts.trans
    (acts_eachPort fun p _ => (Act.inhibitEnds p).acts)).tail (.byAgent .checks)

/-- A lost frame of line conditions is offered again or forgotten. -/
theorem acts_lcLost (f : Frame) (s : State) : Acts s (s.lcLost f) := by
  unfold State.lcLost
  split
  next => exact .refl
  next =>
    split
    · exact (Act.offersForLine _).acts
    · exact .refl

theorem acts_payOwed (s : State) : Acts s s.payOwed := by
  have hfold : ∀ (l : List Frame) (t : State), Acts t (l.foldl (fun t f => t.lcLost f) t) := by
    intro l
    induction l with
    | nil => exact fun _ => .refl
    | cons f rest ih => exact fun t => (acts_lcLost f t).trans (ih _)
  exact (Act.conditions _ (by exact id) (by exact id)).acts.trans (hfold _ _)

/-! ### The station line (05) -/

theorem acts_sentNotice (q : QueuedFrame) (s : State) : Acts s (s.sentNotice q) := by
  unfold State.sentNotice
  split
  next u _ _ _ =>
    cases u <;> dsimp only <;> split
    all_goals first | exact .refl | exact (AgentAct.agent _ (by simp [Agent.SameDuty])).acts
  next => exact .refl

theorem acts_lostNotice (q : QueuedFrame) (s : State) : Acts s (s.lostNotice q) := by
  unfold State.lostNotice
  split
  next u _ _ _ =>
    cases u <;> dsimp only <;> split
    next hhere => exact (AgentAct.backsOff (.inl (by simp_all))).acts
    next => exact .refl
    next hhere => exact (AgentAct.backsOff (.inr (by simp_all))).acts
    next => exact .refl
  next =>
    split
    next hhere => exact (AgentAct.aborts _ _ _ hhere.1).acts
    next => exact .refl
  next => exact acts_lcLost _ s
  next => exact acts_lcLost _ s
  next => exact acts_lcLost _ s
  all_goals exact .refl

theorem acts_frameSent (s : State) : Acts s s.frameSent := by
  unfold State.frameSent
  split
  next q rest htx hqueue =>
    exact ((Act.line _ (by exact id) (by simp [LineIf.setFramer, LineIf.popHead, hqueue])).acts.trans
      (acts_sentNotice q _)).trans (acts_payOwed _)
  next => exact .refl

theorem hearRemainder_line_sameButFramer (s : State) : s.line.SameButFramer s.hearRemainder.line :=
  takeRemainder_frame _ _ _

theorem acts_hearRemainder (s : State) : Acts s s.hearRemainder := by
  have hframe : s.line.SameButFramer s.hearRemainder.line := hearRemainder_line_sameButFramer s
  refine (Act.free _).acts.tail (.line s.hearRemainder.line ?_ ?_) <;> rw [hframe]
  · exact id
  · exact Nat.le_refl _

theorem acts_retryOrDrop (s : State) : Acts s s.retryOrDrop := by
  unfold State.retryOrDrop
  split
  next q rest hqueue =>
    dsimp only
    split
    · exact (Act.line _ (by exact id) (by exact Nat.le_refl _)).acts
    · exact (((Act.line _ (by exact id) (by simp [LineIf.popHead, hqueue])).acts.trans (acts_raise _ _)).trans
        (acts_lostNotice q _)).trans (acts_payOwed _)
  next => exact .refl

theorem acts_collide (s : State) : Acts s s.collide := by
  unfold State.collide
  split
  · exact (acts_hearRemainder s).trans (acts_retryOrDrop _)
  · exact .refl

theorem acts_adoptPause (s : State) : Acts s s.adoptPause := by
  unfold State.adoptPause
  split
  · exact (Act.pauses .line).acts
  · exact .refl

theorem acts_speak (s : State) : Acts s (s.setLine s.line.speak) := by
  refine (Act.line _ ?_ ?_).acts <;> unfold LineIf.speak <;> split
  all_goals first | exact id | exact Nat.le_refl _

theorem acts_endListenIn (s : State) : Acts s s.endListenIn :=
  (((((Act.line _ (by exact id) (by exact Nat.le_refl _)).acts.trans (acts_adoptPause _)).tail (.offers _)).tail (.byAgent .checks))).trans (acts_speak _)

theorem acts_endClash (s : State) : Acts s s.endClash := by
  have hclear : Acts s (s.setLine { s.line with clash := false, clashT := .stopped }) :=
    (Act.line _ (by simp) (by exact Nat.le_refl _)).acts
  unfold State.endClash
  dsimp only
  split
  · exact hclear.tail (.byAgent .checks)
  · exact ((hclear.tail (.offers _)).trans (acts_speak _)).tail (.byAgent .checks)

theorem acts_beaconTimer (s : State) :
    Acts s (s.setLine { s.line with beaconT := .running Config.beaconMs }).offerBeacon :=
  (Act.line _ (by exact id) (by exact Nat.le_refl _)).acts.tail (.offers _)

theorem acts_staleNow (a : Address) (s : State) : Acts s (s.staleNow a) := by
  refine (Act.peer a _).acts.tail (.byAgent (.views _ _ ?_))
  split <;> exact ⟨rfl, rfl, rfl, rfl, rfl, rfl, rfl⟩

/-- A frame: dropped, a clash, or heard and handed on. -/
theorem acts_onFrame {s : State} (src : Address) (f : Option Frame) {act : SetNews → State → State}
    (hact : ∀ n t, Acts t (act n t)) : Acts s (s.onFrame src f act) := by
  unfold State.onFrame
  split
  next =>
    split
    next => exact (Act.line _ (by exact id) (by exact Nat.le_refl _)).acts
    next =>
      split
      · exact Act.clashes.acts
      · exact ((Act.line _ (by exact id) (by exact Nat.le_refl _)).acts.tail (.peer _ _)).trans (hact _ _)
  next => exact .refl

/-! ### The header agent (06) -/

theorem sameButView_refl (a : Agent) : a.SameButView a := ⟨rfl, rfl, rfl, rfl, rfl, rfl, rfl⟩

theorem Agent.SameButView.trans {a b c : Agent} (hab : a.SameButView b) (hbc : b.SameButView c) : a.SameButView c := by
  obtain ⟨h1, h2, h3, h4, h5, h6, h7⟩ := hab
  obtain ⟨g1, g2, g3, g4, g5, g6, g7⟩ := hbc
  exact ⟨g1.trans h1, g2.trans h2, g3.trans h3, g4.trans h4, g5.trans h5, g6.trans h6, g7.trans h7⟩

theorem adopt_sameButView (c : Option GasClass) (serial : Byte) (a : Agent) : a.SameButView (a.adopt c serial) := by
  unfold Agent.adopt
  (repeat' split) <;> exact ⟨rfl, rfl, rfl, rfl, rfl, rfl, rfl⟩

theorem ownerSpoke_sameButView (src : Address) (over' : Bool) (a : Agent) : a.SameButView (a.ownerSpoke src over') := by
  unfold Agent.ownerSpoke
  split <;> exact ⟨rfl, rfl, rfl, rfl, rfl, rfl, rfl⟩

theorem loseReservation_sameButView (a : Agent) : a.SameButView a.loseReservation := by
  unfold Agent.loseReservation
  split <;> exact ⟨rfl, rfl, rfl, rfl, rfl, rfl, rfl⟩

theorem acts_abortIf (c conflictHold : Bool) (s : State) : Acts s (s.abortIf c conflictHold) := by
  unfold State.abortIf
  split
  next h => exact (AgentAct.aborts _ _ _ h.1).acts
  next => exact .refl

theorem acts_offerHoldOnly (h : HoldClass) (reason : HoldReason) (s : State) : Acts s (s.offerHoldOnly h reason) := by
  refine (AgentAct.agent _ ?_).acts.tail (.offers _)
  simp [Agent.SameDuty]

theorem acts_offerHold (h : HoldClass) (reason : HoldReason) (s : State) : Acts s (s.offerHold h reason) :=
  (acts_offerHoldOnly h reason s).tail (.byAgent (.held h))

theorem acts_inhibitAnswer (c : GasClass) (s : State) : Acts s (s.inhibitAnswer c) := by
  unfold State.inhibitAnswer
  split
  · exact acts_offerHold _ _ s
  · exact .refl

theorem acts_agentBeacon (src : Address) (b : Beacon) (n : SetNews) (s : State) : Acts s (s.agentBeacon src b n) :=
  (acts_abortIf _ _ s).tail (.byAgent (.views n _ ((adopt_sameButView _ _ _).trans (ownerSpoke_sameButView _ _ _))))

theorem acts_agentIntent (src : Address) (u : Purpose) (c : GasClass) (key : Nat) (n : SetNews) (s : State) :
    Acts s (s.agentIntent src u c key n) := by
  refine ((AgentAct.agent _ ?_).acts.tail (.byAgent (.setsTold n))).trans (acts_inhibitAnswer c _)
  (repeat' split) <;> exact ⟨rfl, rfl, rfl, rfl, rfl, rfl, rfl, rfl⟩

theorem acts_agentFlowOn (c : GasClass) (serial : Byte) (n : SetNews) (s : State) : Acts s (s.agentFlowOn c serial n) :=
  ((acts_abortIf _ _ s).tail (.byAgent (.views n _ ((adopt_sameButView _ _ _).trans (loseReservation_sameButView _))))).trans
    (acts_inhibitAnswer c _)

theorem acts_agentPurgeStart (src : Address) (c : GasClass) (n : SetNews) (s : State) :
    Acts s (s.agentPurgeStart src c n) := by
  have hview : ∀ a : Agent, a.SameButView ({ a with owner := some src, viewClass := none } : Agent).loseReservation :=
    fun a => Agent.SameButView.trans (sameButView_refl a) (loseReservation_sameButView _)
  refine ((acts_abortIf true false s).trans ?_).trans (acts_inhibitAnswer c _)
  split
  next hflows => exact (AgentAct.purgeStartEndsFlow _ (hview _) hflows).acts
  next => exact (AgentAct.views n _ (hview _)).acts

theorem acts_agentPurgeDone (src : Address) (c : Option GasClass) (serial : Byte) (n : SetNews) (s : State) :
    Acts s (s.agentPurgeDone src c serial n) :=
  (acts_abortIf _ _ s).tail (.byAgent (.views n _ ((adopt_sameButView _ _ _).trans (ownerSpoke_sameButView _ _ _))))

theorem acts_agentHold (h : HoldClass) (reason : HoldReason) (n : SetNews) (s : State) :
    Acts s (s.agentHold h reason n) := by
  refine ((AgentAct.agent _ ?_).acts.tail (.byAgent (.held h))).tail (.byAgent (.setsTold n))
  simp [Agent.SameDuty]

theorem acts_readbackRises (c : GasClass) (s : State) : Acts s (s.readbackRises c) := by
  unfold State.readbackRises
  split
  · exact AgentAct.conflicts.acts
  · exact .refl

theorem acts_headerFaults (s : State) : Acts s s.headerFaults := by
  unfold State.headerFaults
  split
  · exact .refl
  · exact (AgentAct.agent _ (by simp [Agent.SameDuty])).acts.tail (.byAgent (.held .all))

theorem takePressure_sameDuty (limit hpa : Nat) (a : Agent) : a.SameDuty (a.takePressure limit hpa) := by
  unfold Agent.takePressure
  dsimp only
  (repeat' split) <;> exact ⟨rfl, rfl, rfl, rfl, rfl, rfl, rfl, rfl⟩

theorem acts_headerPressure (hpa : Nat) (s : State) : Acts s (s.headerPressure hpa) := by
  have hflags : Acts s (s.setAgent (s.agent.takePressure s.cfg.header.overLimit hpa)) :=
    (AgentAct.agent _ (takePressure_sameDuty _ _ _)).acts
  unfold State.headerPressure
  dsimp only
  split <;> split
  · exact (hflags.trans (acts_offerHold _ _ _)).tail (.byAgent (.holdOver .all))
  · exact hflags.tail (.byAgent (.holdOver .all))
  · exact hflags.trans (acts_offerHold _ _ _)
  · exact hflags

theorem acts_headerTakesSample (x : Sample) (s : State) : Acts s (if s.loaded then s.headerTakesSample x else s) := by
  split
  next =>
    unfold State.headerTakesSample
    split
    · exact acts_headerFaults s
    · exact acts_headerPressure _ s
  next => exact .refl

theorem acts_sampleHeader (x : Sample) (s : State) : Acts s (s.sampleHeader x) :=
  (Act.field _).acts.trans (acts_headerTakesSample x _)

theorem acts_expiryIn {s : State} (d : DState) (t : Timer) {act : State → State}
    (hact : ∀ u : State, u.agent.dstate = d → Acts u (act u)) : Acts s (s.expiryIn d t act) := by
  unfold State.expiryIn
  split
  next hd => exact acts_onExpiry t fun n => hact _ (by simpa using hd)
  next => exact .refl

theorem acts_overpressureAgain (s : State) : Acts s s.overpressureAgain := by
  unfold State.overpressureAgain
  split
  · exact (AgentAct.agent _ (by simp [Agent.SameDuty])).acts.trans (acts_offerHold _ _ _)
  · exact (AgentAct.agent _ (by simp [Agent.SameDuty])).acts

theorem acts_conflictAgain (s : State) : Acts s s.conflictAgain := by
  unfold State.conflictAgain
  split
  · exact (AgentAct.agent _ (by simp [Agent.SameDuty])).acts.trans (acts_offerHold _ _ _)
  · exact (AgentAct.agent _ (by simp [Agent.SameDuty])).acts

theorem acts_holdRunsOut (c : GasClass) (s : State) : Acts s (s.holdRunsOut c) := by
  refine (AgentAct.agent _ ?_).acts.tail (.byAgent (.holdOver _))
  cases c <;> exact ⟨rfl, rfl, rfl, rfl, rfl, rfl, rfl, rfl⟩

/-! ### Port controllers (01) -/

theorem opensNothing_refl (x : Port) : x.OpensNothing x := fun _ hopen => ⟨hopen, fun hextract => ⟨hextract, rfl⟩⟩

/-- A port that keeps its valves and its state, and the measurement of its case, opens nothing. -/
theorem opensNothing_of_slot {x y : Port} {f : CaseRecord → CaseRecord} (hslot : y.slot = x.slot.map f)
    (hf : ∀ r, (f r).measured = r.measured) (hvalves : y.valveH = x.valveH ∧ y.valveK = x.valveK)
    (hstate : y.state = x.state) : x.OpensNothing y := by
  have hgas : y.gas = x.gas := by
    cases h : x.slot <;> simp [Port.gas, hslot, h, hf]
  obtain ⟨hvalveH, hvalveK⟩ := hvalves
  intro c hopen
  refine ⟨?_, fun hextract => ⟨hstate.trans hextract, hgas⟩⟩
  cases c <;> simpa only [Port.valve, hvalveH, hvalveK] using hopen

/-- A port that keeps its valves, its state and its record opens nothing. -/
theorem opensNothing_of_same {x y : Port} (hslot : y.slot = x.slot)
    (hvalves : y.valveH = x.valveH ∧ y.valveK = x.valveK) (hstate : y.state = x.state) : x.OpensNothing y :=
  opensNothing_of_slot (f := fun r => r) (by simp [hslot]) (fun _ => rfl) hvalves hstate

theorem acts_modPort {f : Port → Port} (hopens : ∀ x : Port, x.OpensNothing (f x)) (p : PortId) (s : State) :
    Acts s (s.modPort p f) :=
  (Act.port p _ (hopens _)).acts

theorem acts_portEdge {s : State} (p : PortId) {level : Port → Port} {act : State → State}
    (hlevel : ∀ x : Port, x.OpensNothing (level x)) (hact : ∀ t, Acts t (act t)) :
    Acts s (s.portEdge p level act) := by
  unfold State.portEdge
  split
  · exact .refl
  · exact (Act.port p _ (hlevel _)).acts.trans (hact _)

theorem acts_clampOn (p : PortId) (s : State) : Acts s (s.clampOn p) := by
  unfold State.clampOn
  split
  next hopened => exact (Act.connects p hopened).acts
  next => exact .refl

theorem acts_clampOff (p : PortId) (s : State) : Acts s (s.clampOff p) := by
  unfold State.clampOff
  split
  next hunclamp => exact (Act.unclamps p hunclamp).acts
  next => exact (Act.closes p _).acts
  next =>
    split
    · exact (Act.closes p _).acts
    · exact .refl

theorem acts_releasePressed (p : PortId) (s : State) : Acts s (s.releasePressed p) := by
  unfold State.releasePressed
  split
  · exact (Act.closes p _).acts
  · exact .refl

theorem acts_portTakesSample (p : PortId) (x : Sample) (s : State) : Acts s (s.portTakesSample p x) := by
  unfold State.portTakesSample
  split
  next =>
    split
    · exact (Act.closes p _).acts
    · exact .refl
  next =>
    split
    next =>
      split
      · exact (Act.stepSampled p _).acts
      · exact .refl
    next =>
      split
      · exact acts_modPort (by exact fun _ => opensNothing_of_same rfl ⟨rfl, rfl⟩ rfl) p s
      · exact .refl
    next => exact .refl

theorem acts_portSampled (p : PortId) (x : Sample) (s : State) :
    Acts s (if s.loaded then s.portTakesSample p x else s) := by
  split
  · exact acts_portTakesSample p x s
  · exact .refl

theorem acts_samplePort (p : PortId) (x : Sample) (s : State) : Acts s (s.samplePort p x) :=
  (Act.field _).acts.trans (acts_portSampled p x _)

theorem acts_portExpiry {s : State} (p : PortId) (st : PortState) (t : Timer) {act : State → State}
    (hact : ∀ u : State, (u.port p).state = st → Acts u (act u)) : Acts s (s.portExpiry p st t act) := by
  unfold State.portExpiry
  split
  next hst => exact acts_onExpiry t fun n => hact _ (by simpa using hst)
  next => exact .refl

theorem acts_pressureOr (x : Option Nat) (s : State) : Acts s (s.pressureOr x).2 := by
  cases x with
  | some n => exact .refl
  | none => exact (Act.free _).acts

theorem pressureOr_port (x : Option Nat) (s : State) (p : PortId) : (s.pressureOr x).2.port p = s.port p := by
  cases x <;> rfl

theorem acts_settled (p : PortId) (s : State) (hsettle : (s.port p).state = .settle) : Acts s (s.settled p) := by
  obtain ⟨drawn, hdrawn⟩ : ∃ drawn, drawn = s.pressureOr (s.field.samples.get p).pressure := ⟨_, rfl⟩
  have hdraws : Acts s drawn.2 := hdrawn ▸ acts_pressureOr _ s
  have hport : drawn.2.port p = s.port p := hdrawn ▸ pressureOr_port _ s p
  have hrecords : Acts s (drawn.2.modPort p fun x =>
      { x.mapSlot (fun r => { r with initialHpa := some drawn.1 }) with settle := .stopped }) :=
    hdraws.trans (acts_modPort (by exact fun _ => opensNothing_of_slot rfl (fun _ => rfl) ⟨rfl, rfl⟩ rfl) p _)
  unfold State.settled
  dsimp only
  rw [← hdrawn]
  split
  · exact hrecords.tail (.closes p .empty)
  · refine hrecords.tail (.classifies p ?_)
    simpa [Port.mapSlot, hport] using hsettle

theorem stall_measured (k : Option Nat) (r : CaseRecord) : (r.stall k).measured = r.measured := by
  unfold CaseRecord.stall
  split <;> rfl

theorem acts_dwellOver (p : PortId) (s : State) : Acts s (s.dwellOver p) :=
  (acts_modPort (by exact fun _ => opensNothing_of_slot rfl (stall_measured _) ⟨rfl, rfl⟩ rfl) p s).tail (.rises p)

theorem acts_recycle (p : PortId) (s : State) : Acts s (s.recycle p) :=
  (acts_modPort (by exact fun _ => opensNothing_of_slot rfl (fun _ => rfl) ⟨rfl, rfl⟩ rfl) p s).tail (.routes p)

theorem acts_riseOver (p : PortId) (s : State) : Acts s (s.riseOver p) := by
  obtain ⟨startP, hstartP⟩ : ∃ startP, startP = s.pressureOr (s.port p).pStart := ⟨_, rfl⟩
  obtain ⟨endP, hendP⟩ : ∃ endP, endP = startP.2.pressureOr (s.field.samples.get p).pressure := ⟨_, rfl⟩
  have hdraws : Acts s endP.2 := (hstartP ▸ acts_pressureOr _ s : Acts s startP.2).trans (hendP ▸ acts_pressureOr _ _)
  have hrecords : Acts s (endP.2.modPort p fun x =>
      { x.mapSlot (fun r => { r with lastRise := some (endP.1 - startP.1) }) with hold := .stopped, pStart := none }) :=
    hdraws.trans (acts_modPort (by exact fun _ => opensNothing_of_slot rfl (fun _ => rfl) ⟨rfl, rfl⟩ rfl) p _)
  unfold State.riseOver
  dsimp only
  rw [← hstartP, ← hendP]
  split
  · exact hrecords
  · split
    · exact hrecords.tail (.closes p _)
    · exact hrecords.trans (acts_recycle p _)

/-! ### Receivers (02) -/

theorem accountHolds_congr {r q : Receiver} (hfigures : q.last = r.last ∧ q.baseline = r.baseline ∧
    q.attributed = r.attributed ∧ q.unattributed = r.unattributed ∧ q.outflow = r.outflow ∧ q.drift = r.drift ∧
    q.first = r.first) (h : r.AccountHolds) : q.AccountHolds := by
  obtain ⟨h1, h2, h3, h4, h5, h6, h7⟩ := hfigures
  simpa only [Receiver.AccountHolds, h1, h2, h3, h4, h5, h6, h7] using h

theorem acts_clearFault (c : GasClass) (s : State) : Acts s (s.clearFault c) :=
  (Act.receiverTells c _ (by exact accountHolds_congr ⟨rfl, rfl, rfl, rfl, rfl, rfl, rfl⟩)).acts.tail (.byAgent (.requestTold c _))

theorem acts_clearReceiver (receiver : Byte) (s : State) : Acts s (s.clearReceiver receiver).1 := by
  unfold State.clearReceiver
  split
  next => exact .refl
  next c _ =>
    split
    · exact acts_clearFault c s
    · exact .refl

theorem acts_silence (c : GasClass) (t : Timer) (s : State) : Acts s (s.modRcv c fun r => { r with silence := t }) :=
  (Act.receiver c _ (by exact accountHolds_congr ⟨rfl, rfl, rfl, rfl, rfl, rfl, rfl⟩) (by exact id)).acts

theorem enterFault_account (cause : ReceiverCause) {r : Receiver} (h : r.AccountHolds) :
    (r.enterFault cause).AccountHolds :=
  accountHolds_congr ⟨rfl, rfl, rfl, rfl, rfl, rfl, rfl⟩ h

theorem raise_setRcv (e : EventKind) (c : GasClass) (r : Receiver) (s : State) :
    (s.setRcv c r).raise e = (s.raise e).setRcv c r := by
  cases c <;> rfl

theorem acts_receiverFault (c : GasClass) (cause : ReceiverCause) (s : State) : Acts s (s.receiverFault c cause) := by
  have haccount : ((s.raise .receiverFault).rcv c).AccountHolds → ((s.rcv c).enterFault cause).AccountHolds := by
    simpa using enterFault_account cause
  have hother : (s.rcv c).state ≠ .accepting →
      Acts s ((s.raise .receiverFault).setRcv c ((s.rcv c).enterFault cause)) := fun hstate =>
    (acts_raise .receiverFault s).tail (.receiver c _ haccount fun h => absurd (by simpa using h) hstate)
  unfold State.receiverFault
  dsimp only
  rw [raise_setRcv]
  split
  next => exact .refl
  next => exact ((acts_raise .receiverFault s).tail (.receiverTells c _ haccount)).tail (.byAgent (.requestTold c _))
  next h => exact ((hother (by simp [h])).tail (.byAgent (.requestTold c _))).tail (.byAgent (.flowTold c _))
  next h => exact (hother (by simp [h])).tail (.byAgent (.requestTold c _))
  next h => exact (hother (by simp [h])).tail (.byAgent (.requestTold c _))

theorem acts_silent (c : GasClass) (s : State) : Acts s (s.silent c) :=
  (acts_silence c .stopped s).trans (acts_receiverFault c _ _)

theorem acts_stalled (c : GasClass) (s : State) : Acts s (s.stalled c) := by
  have hstopped : Acts s (s.modRcv c fun r => { r with stall := .stopped, stallSent := true }) :=
    (Act.receiver c _ (by exact accountHolds_congr ⟨rfl, rfl, rfl, rfl, rfl, rfl, rfl⟩) (by exact id)).acts
  unfold State.stalled
  dsimp only
  split
  · exact hstopped
  · exact (hstopped.trans (acts_raise _ _)).tail (.byAgent (.flowTold c _))

end Sys2Proof.Machine
end

section
/-! PROOFS. A reading's booking keeps the account balanced (R38 to R40), and the operations of the scale link, the analyser and the
loader as runs of acts. -/

namespace Sys2Proof.Machine

/-! ### The account under a reading (R37 to R40) -/

/-- A delta of the account is the difference of the two readings, in arithmetic that wraps. -/
theorem figure_sub_figure (value last : Word16) :
    figure value - figure last = BitVec.ofInt 32 ((value.toNat : Int) - (last.toNat : Int)) := by
  rw [Int.sub_eq_add_neg, BitVec.ofInt_add, BitVec.ofInt_neg, BitVec.ofInt_natCast, BitVec.ofInt_natCast,
    ← BitVec.sub_eq_add_neg]
  rfl

theorem bookingOf_eq_nothing {st : ReceiverState} {delta : Int} {shared : Bool}
    (hnothing : bookingOf st delta shared = .nothing) : delta = 0 := by
  revert hnothing
  unfold bookingOf
  (repeat' split) <;> simp_all

/-- The figures with one delta booked: the left side moves by the delta, and so does one figure of the right side. -/
theorem book_account {r : Receiver} {b : Booking} {value : Word16} {mark : Bool} (hfirst : r.first = true)
    (hnothing : b = .nothing → r.delta value = 0) (h : r.AccountHolds) :
    ((r.record value mark).book b (r.delta value)).AccountHolds := by
  obtain ⟨hbalance, -⟩ := h
  have hmoved : figure value - figure r.baseline =
      r.attributed + r.unattributed - r.outflow + r.drift + BitVec.ofInt 32 (r.delta value) := by
    rw [← hbalance, Receiver.delta, ← figure_sub_figure]
    ring
  have hfirst' : ((r.record value mark).book b (r.delta value)).first = true := by
    cases b <;> exact hfirst
  refine ⟨?_, fun h => absurd (hfirst'.symm.trans h) (by simp)⟩
  cases b with
  | attributed => exact hmoved.trans (by simp only [Receiver.book, Receiver.record]; ring)
  | unattributed => exact hmoved.trans (by simp only [Receiver.book, Receiver.record]; ring)
  | outflow => exact hmoved.trans (by simp only [Receiver.book, Receiver.record, BitVec.ofInt_neg]; ring)
  | drift => exact hmoved.trans (by simp only [Receiver.book, Receiver.record]; ring)
  | nothing => exact hmoved.trans (by simp [Receiver.book, Receiver.record, hnothing rfl])

/-- The first reading begins the account: the four figures are zero, and baseline and last are the reading. -/
theorem firstReading_account {g : ReceiverSet} {value : Word16} {mark : Bool} {r : Receiver} (hfirst : r.first = false)
    (h : r.AccountHolds) : (r.firstReading g value mark).AccountHolds := by
  obtain ⟨-, hzero⟩ := h
  obtain ⟨-, -, ha, hu, ho, hd⟩ := hzero hfirst
  unfold Receiver.firstReading
  dsimp only
  split <;> simp [Receiver.AccountHolds, Receiver.checkRequest, Receiver.record, ha, hu, ho, hd]

theorem flowChecks_account {g : ReceiverSet} {stallMs : Nat} {r : Receiver} (h : r.AccountHolds) :
    (r.flowChecks g stallMs).AccountHolds := by
  refine accountHolds_congr ?_ h
  unfold Receiver.flowChecks
  dsimp only
  (repeat' split) <;> exact ⟨rfl, rfl, rfl, rfl, rfl, rfl, rfl⟩

theorem checks_account {g : ReceiverSet} {stallMs : Nat} {r : Receiver} (h : r.AccountHolds) :
    (r.checks g stallMs).AccountHolds := by
  unfold Receiver.checks
  dsimp only
  split
  · exact accountHolds_congr ⟨rfl, rfl, rfl, rfl, rfl, rfl, rfl⟩ (flowChecks_account h)
  · exact accountHolds_congr ⟨rfl, rfl, rfl, rfl, rfl, rfl, rfl⟩ h

/-! ### READING (R35, R37, R38) -/

theorem addMass_measured (share : Nat) (r : CaseRecord) : (r.addMass share).measured = r.measured := by
  unfold CaseRecord.addMass
  split <;> rfl

theorem acts_deliverShares (delta : Nat) (l : List Share) (s : State) : Acts s (s.deliverShares delta l) := by
  have hfold : ∀ (m : List Share) (t : State), Acts t (m.foldl (fun t x => t.deliverShare delta l x) t) := by
    intro m
    induction m with
    | nil => exact fun _ => .refl
    | cons x rest ih =>
      exact fun t => (acts_modPort
        (by exact fun _ => opensNothing_of_slot rfl (addMass_measured _) ⟨rfl, rfl⟩ rfl) x.port t).trans (ih _)
  exact hfold l s

/-- Shares touch the ports alone. -/
theorem deliverShares_sameBut (delta : Nat) (l : List Share) (s : State) :
    s.SameBut [.ports] (s.deliverShares delta l) := by
  have hfold : ∀ (m : List Share) (t : State),
      t.SameBut [.ports] (m.foldl (fun t x => t.deliverShare delta l x) t) := by
    intro m
    induction m with
    | nil => exact fun t => sameBut_refl _ t
    | cons x rest ih =>
      intro t
      have hshare : t.SameBut [.ports] (t.deliverShare delta l x) := by
        rw [sameBut_iff]
        simp
      exact sameBut_trans hshare (ih _) (List.Subset.refl _) (List.Subset.refl _)
  exact hfold l s

/-- The state in which a reading is booked: the shares delivered, and the free values of the weights drawn. -/
def State.shared (c : GasClass) (booking : Booking) (delta : Nat) (s : State) : State :=
  let s1 := if booking = .attributed then s.deliverShares delta (s.weights c) else s
  s1.setFree (s1.free + s.freeWeights c)

theorem acts_shared (c : GasClass) (booking : Booking) (delta : Nat) (s : State) :
    Acts s (s.shared c booking delta) := by
  unfold State.shared
  split
  · exact (acts_deliverShares _ _ s).tail (.free _)
  · exact (Act.free _).acts

theorem shared_sameBut (c : GasClass) (booking : Booking) (delta : Nat) (s : State) :
    s.SameBut [.ports, .free] (s.shared c booking delta) := by
  have hfree : ∀ (t : State) n, t.SameBut [.free] (t.setFree n) := fun t n => by
    rw [sameBut_iff]
    simp
  unfold State.shared
  split
  · exact sameBut_trans (deliverShares_sameBut _ _ s) (hfree _ _) (by simp) (by simp)
  · exact sameBut_trans (sameBut_refl [] s) (hfree s _) (by simp) (by simp)

theorem readingEvent_eq (c : GasClass) (value : Word16) (mark : Bool) (s : State) :
    s.readingEvent c value mark =
      (let delta := (s.rcv c).delta value
      let booking := bookingOf (s.rcv c).state delta (decide (0 < totalWeight (s.weights c)))
      let t := s.shared c booking delta.toNat
      let booked := ((s.rcv c).record value mark).book booking delta
      if dropFault (s.cfg.rcvSet c) (s.rcv c).state delta then (t.setRcv c booked).receiverFault c .scaleDrop
      else
        let r1 := booked.checks (s.cfg.rcvSet c) (s.cfg.header.stallS * 1000)
        let checked := if r1.state = (s.rcv c).state then t.setRcv c r1 else (t.setRcv c r1).tellPorts c
        let asked := checked.requestNotice c (s.rcv c).request
        if r1.doneSent && !(s.rcv c).doneSent then asked.flowNotice c .idle else asked) := rfl

theorem acts_readingEvent (c : GasClass) (value : Word16) (mark : Bool) (s : State) (hfirst : (s.rcv c).first = true) :
    Acts s (s.readingEvent c value mark) := by
  obtain ⟨booking, hbooking⟩ : ∃ b, b = bookingOf (s.rcv c).state ((s.rcv c).delta value)
      (decide (0 < totalWeight (s.weights c))) := ⟨_, rfl⟩
  obtain ⟨booked, hbooked⟩ : ∃ r, r = ((s.rcv c).record value mark).book booking ((s.rcv c).delta value) := ⟨_, rfl⟩
  obtain ⟨t, ht⟩ : ∃ t, t = s.shared c booking ((s.rcv c).delta value).toNat := ⟨_, rfl⟩
  have hshares : Acts s t := ht ▸ acts_shared c booking _ s
  have hrcv : t.rcv c = s.rcv c := ht ▸ rcv_eq_of_sameBut (shared_sameBut c booking _ s) (by simp)
  have haccount : (t.rcv c).AccountHolds → booked.AccountHolds := by
    rw [hrcv, hbooked]
    exact book_account hfirst fun h => bookingOf_eq_nothing (hbooking ▸ h)
  have hstate : booked.state = (s.rcv c).state := by
    rw [hbooked]
    cases booking <;> rfl
  rw [readingEvent_eq]
  dsimp only
  rw [← hbooking, ← hbooked, ← ht]
  split
  next => exact (hshares.tail (.receiver c booked haccount (by rw [hrcv, hstate]; exact id))).trans (acts_receiverFault c _ _)
  next =>
    have hchecks : (t.rcv c).AccountHolds →
        (booked.checks (s.cfg.rcvSet c) (s.cfg.header.stallS * 1000)).AccountHolds :=
      fun h => checks_account (haccount h)
    have hchecked : Acts s (if (booked.checks (s.cfg.rcvSet c) (s.cfg.header.stallS * 1000)).state = (s.rcv c).state then
        t.setRcv c (booked.checks (s.cfg.rcvSet c) (s.cfg.header.stallS * 1000))
        else (t.setRcv c (booked.checks (s.cfg.rcvSet c) (s.cfg.header.stallS * 1000))).tellPorts c) := by
      split
      next hsame => exact hshares.tail (.receiver c _ hchecks (by rw [hrcv, hsame]; exact id))
      next => exact hshares.tail (.receiverTells c _ hchecks)
    split
    · exact (hchecked.tail (.byAgent (.requestTold c _))).tail (.byAgent (.flowTold c _))
    · exact hchecked.tail (.byAgent (.requestTold c _))

theorem acts_takeFirstReading (c : GasClass) (value : Word16) (mark : Bool) (s : State)
    (hfirst : (s.rcv c).first = false) : Acts s (s.takeFirstReading c value mark) := by
  unfold State.takeFirstReading
  dsimp only
  split
  next => exact (Act.receiverTells c _ (firstReading_account hfirst)).acts.tail (.byAgent (.requestTold c _))
  next hstate =>
    refine (Act.receiver c _ (firstReading_account hfirst) fun haccepting => ?_).acts
    simp [Receiver.firstReading, haccepting, Receiver.record]

theorem acts_takeReading (c : GasClass) (value : Word16) (mark : Bool) (s : State) :
    Acts s (s.takeReading c value mark) := by
  have hsilence : Acts s (s.restartSilence c) := acts_silence c _ s
  unfold State.takeReading
  dsimp only
  split
  next hfirst => exact hsilence.trans (acts_readingEvent c value mark _ hfirst)
  next hfirst => exact hsilence.trans (acts_takeFirstReading c value mark _ (Bool.eq_false_of_not_eq_true hfirst))

/-! ### The analyser (03) -/

theorem acts_takeReady (s : State) : Acts s s.takeReady := by
  unfold State.takeReady
  split
  next h => exact (Act.readies (.inl h)).acts
  next h => exact (Act.readies (.inr h)).acts
  all_goals exact .refl

theorem acts_sniffWarns (s : State) : Acts s s.sniffWarns := by
  unfold State.sniffWarns
  split
  next =>
    split
    · exact .refl
    · exact acts_atTime _ fun t => (Act.warns true).acts
  next => exact .refl

theorem acts_sniffDue (s : State) : Acts s s.sniffDue := by
  unfold State.sniffDue
  split
  next =>
    split
    · exact .refl
    · exact acts_atTime _ fun t => Act.sniffComesDue.acts
  next => exact .refl

/-! ### The record links and the input lines (08, 11) -/

theorem acts_linkQuiet (l : RecordLink) (s : State) : Acts s (s.linkQuiet l) := by
  unfold State.linkQuiet
  split
  · exact .refl
  · exact (Act.elapses _).acts.tail (.link l _)
  · exact acts_onExpiry _ fun _ => (Act.link l _).acts
  · exact acts_onExpiry _ fun _ => (Act.link l _).acts

theorem acts_movePin (l : InputLine) (high : Bool) (s : State) : Acts s (s.movePin l high) := by
  unfold State.movePin
  dsimp only
  split
  · exact (Act.field _).acts.tail (.field _)
  · exact (Act.field _).acts

theorem acts_debounce (change : LineChange) (s : State) :
    Acts s (match change.move with
      | .pin high => s.movePin change.line high
      | .settles => s.lineSettles change.line) := by
  cases change.move with
  | pin high => exact acts_movePin _ _ s
  | settles => exact acts_onExpiry _ fun _ => (Act.field _).acts

/-! ### Loading (10) -/

/-- The station when its ports have started: silence timers, record links, listen-in and the ESTOP level (R195). -/
def State.startBlocks (s : State) : State :=
  { s with
    halo := { s.halo with silence := .running Config.silenceMs }
    hydro := { s.hydro with silence := .running Config.silenceMs }
    scaleLink := ⟨.waitingQuiet, .running Config.quietMs⟩
    anaLink := ⟨.waitingQuiet, .running Config.quietMs⟩
    line := { s.line with listenIn := true, listenT := .running Config.listenInMs }
    lc := { s.lc with estop := s.field.estop.isAsserted } }

theorem acts_startBlocks (s : State) : Acts s s.startBlocks :=
  (((((acts_silence .halo (.running Config.silenceMs) s).trans (acts_silence .hydro (.running Config.silenceMs) _)).tail
    (.link .scale ⟨.waitingQuiet, .running Config.quietMs⟩)).tail
    (.link .analyser ⟨.waitingQuiet, .running Config.quietMs⟩)).tail
    (.line { s.line with listenIn := true, listenT := .running Config.listenInMs } id (Nat.le_refl _))).tail
    (.conditions { s.lc with estop := s.field.estop.isAsserted } id id)

/-- The blocks have begun, and a warning of the loader is raised. -/
def State.startWarned (s : State) : State :=
  if s.startBlocks.loader.warnings.any then s.startBlocks.raise .configWarning else s.startBlocks

theorem startLoaded_eq (pins : BitVec 15) (s : State) :
    s.startLoaded pins =
      (let t := ((s.setField (s.field.initialise s.cfg.polarities pins)).eachPort State.startPort).startWarned
      if t.field.estop.isAsserted then (t.enterPause .estop).estopPause else t) := rfl

theorem acts_startWarned (s : State) : Acts s s.startWarned := by
  unfold State.startWarned
  split
  · exact (acts_startBlocks s).trans (acts_raise _ _)
  · exact acts_startBlocks s

theorem acts_startLoaded (pins : BitVec 15) (s : State) : Acts s (s.startLoaded pins) := by
  have hstarts : Acts s
      ((s.setField (s.field.initialise s.cfg.polarities pins)).eachPort State.startPort).startWarned :=
    ((Act.field _).acts.trans (acts_eachPort fun p _ => (Act.portStarts p).acts)).trans (acts_startWarned _)
  rw [startLoaded_eq]
  dsimp only
  split
  · exact (hstarts.tail (.pauses .estop)).trans (acts_estopPause _)
  · exact hstarts

theorem acts_startAlways (s : State) : Acts s s.startAlways :=
  (Act.field { s.field with
    sampleTs := ⟨.running Config.pressureMs, .running Config.pressureMs, .running Config.pressureMs,
      .running Config.pressureMs⟩
    headerT := .running Config.pressureMs }).acts.tail
    (.op { s.op with framer := .waitingQuiet, gap := .running Config.quietMs })

theorem acts_finishLoading (read : ReadOutcome) (pins : BitVec 15) (s : State) : Acts s (s.finishLoading read pins) := by
  unfold State.finishLoading
  split
  next =>
    have hbegins : Acts s (s.setLoader (loaderAfter read)).startAlways :=
      (Act.loader _).acts.trans (acts_startAlways _)
    dsimp only
    split
    · exact hbegins.trans (acts_startLoaded pins _)
    · exact hbegins
  all_goals exact .refl

end Sys2Proof.Machine
end

section
/-! PROOFS. Every command of the table is a run of acts, one case per constructor of the table; so is a millisecond. -/

namespace Sys2Proof.Machine

theorem acts_transmit (s : State) : Acts s (s.setLine s.line.transmit) := by
  refine (Act.line _ ?_ ?_).acts <;> unfold LineIf.transmit <;> split <;> simp

theorem acts_sampleTimer (s : State) : Acts s (s.onExpiry s.ana.sampleT fun t => t.setAna t.ana.sampleOver) :=
  acts_onExpiry _ fun _ => Act.sampleEnds.acts

theorem awaitsResult_elapse (n : Nat) (s : State) :
    (s.elapse n).ana.state.awaitsResult = s.ana.state.awaitsResult := by simp

theorem acts_resultTimer (s : State) :
    Acts s (if s.ana.state.awaitsResult then s.onExpiry s.ana.resultT State.timedOut else s) := by
  split
  next hawaits => exact acts_onExpiry _ fun n => (Act.timesOut (by rw [awaitsResult_elapse, hawaits])).acts
  next => exact .refl

/-- Every command of the table has a meaning, and it is a run of acts. -/
theorem exec_acts (i : Instr) (s : State) : ∃ u, exec i s = .next u ∧ Acts s u := by
  cases i with
  | reset => exact ⟨_, rfl, Act.resets.acts⟩
  | loadingFinishes read pins => exact ⟨_, rfl, acts_finish (acts_finishLoading read pins s)⟩
  | openCase port cls charge foam tag =>
    exact ⟨_, rfl, acts_finish (acts_request _ (acts_openCase port cls charge foam tag))⟩
  | abandonCase port => exact ⟨_, rfl, acts_finish (acts_request _ (acts_abandonCase port))⟩
  | takeReport => exact ⟨_, rfl, acts_finish (acts_request _ fun t => (Act.reportTaken (s := t)).acts)⟩
  | portStatus port => exact ⟨_, rfl, acts_finish (acts_request _ (acts_portStatus port))⟩
  | stationStatus => exact ⟨_, rfl, acts_finish (acts_takeMessage _ _ fun _ => .refl)⟩
  | clearReceiver receiver => exact ⟨_, rfl, acts_finish (acts_request _ (acts_clearReceiver receiver))⟩
  | pauseLine => exact ⟨_, rfl, acts_finish (acts_request _ acts_pauseLine)⟩
  | resumeLine => exact ⟨_, rfl, acts_finish (acts_request _ acts_resumeLine)⟩
  | malformed => exact ⟨_, rfl, acts_finish (acts_takeMessage _ _ fun _ => .refl)⟩
  | unknownRequest type => exact ⟨_, rfl, acts_finish (acts_takeMessage _ _ fun _ => .refl)⟩
  | lengthAbove40 => exact ⟨_, rfl, acts_finish (acts_takeMessage _ _ fun _ => .refl)⟩
  | operatorGapExpiry => exact ⟨_, rfl, acts_finish acts_messageGap⟩
  | operatorLinkQuiet =>
    refine ⟨_, rfl, acts_finish ?_⟩
    split
    · exact .refl
    · exact acts_onExpiry _ fun _ => (Act.op _).acts
  | operatorTxDone => exact ⟨_, rfl, acts_finish (acts_txDone s)⟩
  | beacon src payload =>
    refine ⟨_, rfl, acts_finish (acts_onFrame src _ fun n t => ?_)⟩
    split
    · exact acts_agentBeacon src _ n t
    · exact .refl
  | intent src purpose cls key =>
    refine ⟨_, rfl, acts_finish (acts_onFrame src _ fun n t => ?_)⟩
    split
    · exact acts_agentIntent src _ _ _ n t
    · exact .refl
  | flowOn src cls serial =>
    refine ⟨_, rfl, acts_finish (acts_onFrame src _ fun n t => ?_)⟩
    split
    · exact acts_agentFlowOn _ _ n t
    · exact .refl
  | flowOff src cls => exact ⟨_, rfl, acts_finish (acts_onFrame src _ fun n _ => (AgentAct.setsTold n).acts)⟩
  | purgeStart src cls serial =>
    refine ⟨_, rfl, acts_finish (acts_onFrame src _ fun n t => ?_)⟩
    split
    · exact acts_agentPurgeStart src _ n t
    · exact .refl
  | purgeDone src cls serial =>
    refine ⟨_, rfl, acts_finish (acts_onFrame src _ fun n t => ?_)⟩
    split
    · exact acts_agentPurgeDone src _ _ n t
    · exact .refl
  | hold src cls reason =>
    refine ⟨_, rfl, acts_finish (acts_onFrame src _ fun n t => ?_)⟩
    split
    · exact acts_agentHold _ _ n t
    · exact .refl
  | pause src cause =>
    refine ⟨_, rfl, acts_finish (acts_onFrame src _ fun n t => ?_)⟩
    split
    · exact (AgentAct.setsTold n).acts.trans (acts_lcPause _ _)
    · exact .refl
  | resume src => exact ⟨_, rfl, acts_finish (acts_onFrame src _ fun n t => (AgentAct.setsTold n).acts.trans (acts_lcResume _))⟩
  | alarm src cls seconds =>
    refine ⟨_, rfl, acts_finish (acts_onFrame src _ fun n t => ?_)⟩
    split
    · exact (AgentAct.setsTold n).acts.trans (acts_lcAlarm _ _)
    · exact .refl
  | clashFrame =>
    refine ⟨_, rfl, acts_finish ?_⟩
    split
    · exact Act.clashes.acts
    · exact .refl
  | frameDropped defect =>
    refine ⟨_, rfl, acts_finish ?_⟩
    split
    · exact (Act.line _ (by exact id) (by exact Nat.le_refl _)).acts
    · exact .refl
  | frameTruncated next =>
    refine ⟨_, rfl, acts_finish ?_⟩
    split
    · exact (Act.line _ (by exact id) (by exact Nat.le_refl _)).acts
    · exact .refl
  | transmitStart => exact ⟨_, rfl, acts_finish (acts_transmit s)⟩
  | frameSent => exact ⟨_, rfl, acts_finish (acts_frameSent s)⟩
  | collision => exact ⟨_, rfl, acts_finish (acts_collide s)⟩
  | listenInEnd => exact ⟨_, rfl, acts_finish (acts_onExpiry _ fun _ => acts_endListenIn _)⟩
  | clashTimerExpiry => exact ⟨_, rfl, acts_finish (acts_onExpiry _ fun _ => acts_endClash _)⟩
  | beaconTimerExpiry => exact ⟨_, rfl, acts_finish (acts_onExpiry _ fun _ => acts_beaconTimer _)⟩
  | peerStale peer => exact ⟨_, rfl, acts_finish (acts_onExpiry _ fun _ => acts_staleNow peer _)⟩
  | estopAssert => exact ⟨_, rfl, acts_finish (acts_takeEdge _ _ acts_estopPressed)⟩
  | estopDeassert => exact ⟨_, rfl, acts_finish (acts_takeEdge _ _ acts_estopReleased)⟩
  | estopRepeatExpiry => exact ⟨_, rfl, acts_finish (acts_onExpiry _ fun _ => acts_estopRepeats _)⟩
  | inhibitTimerExpiry => exact ⟨_, rfl, acts_finish (acts_onExpiry _ fun _ => acts_endInhibit _)⟩
  | debounceChange change => exact ⟨_, rfl, acts_finish (acts_debounce change s)⟩
  | clampAssert p => exact ⟨_, rfl, acts_finish (acts_takeEdge _ _ fun _ => acts_portEdge p (by exact fun x => opensNothing_of_same rfl ⟨rfl, rfl⟩ rfl) (acts_clampOn p))⟩
  | clampDeassert p => exact ⟨_, rfl, acts_finish (acts_takeEdge _ _ fun _ => acts_portEdge p (by exact fun x => opensNothing_of_same rfl ⟨rfl, rfl⟩ rfl) (acts_clampOff p))⟩
  | confirmEdge p asserted => exact ⟨_, rfl, acts_finish (acts_takeEdge _ _ fun _ => acts_portEdge p (by exact fun x => opensNothing_of_same rfl ⟨rfl, rfl⟩ rfl) (acts_clampOn p))⟩
  | releaseReqAssert p => exact ⟨_, rfl, acts_finish (acts_takeEdge _ _ fun _ => acts_portEdge p (by exact fun x => opensNothing_of_same rfl ⟨rfl, rfl⟩ rfl) (acts_releasePressed p))⟩
  | releaseReqDeassert p => exact ⟨_, rfl, acts_finish (acts_takeEdge _ _ fun _ => acts_portEdge p (by exact fun x => opensNothing_of_same rfl ⟨rfl, rfl⟩ rfl) fun _ => .refl)⟩
  | readbackAssert c => exact ⟨_, rfl, acts_finish (acts_takeEdge _ _ (acts_readbackRises c))⟩
  | readbackDeassert c =>
    exact ⟨_, rfl, acts_finish (acts_takeEdge _ _ fun _ => (AgentAct.agent _ (by exact ⟨rfl, rfl, rfl, rfl, rfl, rfl, rfl, rfl⟩)).acts)⟩
  | portSample p signal => exact ⟨_, rfl, acts_finish (acts_onExpiry _ fun _ => acts_samplePort p _ _)⟩
  | headerSample signal => exact ⟨_, rfl, acts_finish (acts_onExpiry _ fun _ => acts_sampleHeader _ _)⟩
  | connectTimeout p => exact ⟨_, rfl, acts_finish (acts_portExpiry p _ _ fun _ _ => (Act.closes p _).acts)⟩
  | settleExpiry p => exact ⟨_, rfl, acts_finish (acts_portExpiry p _ _ (acts_settled p))⟩
  | classifyWaitExpiry p => exact ⟨_, rfl, acts_finish (acts_portExpiry p _ _ fun _ _ => (Act.quarantines p _).acts)⟩
  | dwellExpiry p => exact ⟨_, rfl, acts_finish (acts_portExpiry p _ _ fun u _ => acts_dwellOver p u)⟩
  | holdTimerExpiry p => exact ⟨_, rfl, acts_finish (acts_portExpiry p _ _ fun u _ => acts_riseOver p u)⟩
  | reading c overMark value => exact ⟨_, rfl, acts_finish (acts_onRecord _ (acts_takeReading c _ _))⟩
  | faultMarkedRecord c =>
    exact ⟨_, rfl, acts_finish (acts_onRecord _ fun t => (acts_silence c _ t).trans (acts_receiverFault c _ _))⟩
  | silenceExpiry c => exact ⟨_, rfl, acts_finish (acts_onExpiry _ fun _ => acts_silent c _)⟩
  | stallTimerExpiry c => exact ⟨_, rfl, acts_finish (acts_onExpiry _ fun _ => acts_stalled c _)⟩
  | ready => exact ⟨_, rfl, acts_finish (acts_onRecord _ acts_takeReady)⟩
  | result halo hydro => exact ⟨_, rfl, acts_finish (acts_onRecord _ fun _ => (Act.results halo hydro).acts)⟩
  | sampleTimerExpiry =>
    refine ⟨_, rfl, acts_finish ?_⟩
    split
    · exact acts_sampleTimer s
    · exact .refl
  | sniffTimerExpiry =>
    refine ⟨_, rfl, acts_finish ?_⟩
    split
    · exact acts_sampleTimer s
    · exact .refl
  | resultTimeout => exact ⟨_, rfl, acts_finish (acts_resultTimer s)⟩
  | sniffWarning => exact ⟨_, rfl, acts_finish (acts_sniffWarns s)⟩
  | sniffDue => exact ⟨_, rfl, acts_finish (acts_sniffDue s)⟩
  | leakRecentExpiry => exact ⟨_, rfl, acts_finish (acts_onExpiry _ fun _ => Act.leakForgotten.acts)⟩
  | flowWindowExpiry => exact ⟨_, rfl, acts_finish (acts_expiryIn _ _ fun _ h => (AgentAct.flowWindow h).acts)⟩
  | purgeWindowExpiry => exact ⟨_, rfl, acts_finish (acts_expiryIn _ _ fun _ h => (AgentAct.purgeWindow h).acts)⟩
  | drainExpiry => exact ⟨_, rfl, acts_finish (acts_expiryIn _ _ fun _ h => (AgentAct.drains h).acts)⟩
  | purgeExpiry => exact ⟨_, rfl, acts_finish (acts_expiryIn _ _ fun _ h => (AgentAct.purges h).acts)⟩
  | backoffExpiry => exact ⟨_, rfl, acts_finish (acts_expiryIn _ _ fun _ h => (AgentAct.idles h).acts)⟩
  | overpressureRepeat => exact ⟨_, rfl, acts_finish (acts_onExpiry _ fun _ => acts_overpressureAgain _)⟩
  | conflictRepeatExpiry => exact ⟨_, rfl, acts_finish (acts_onExpiry _ fun _ => acts_conflictAgain _)⟩
  | holdRunsOut c => exact ⟨_, rfl, acts_finish (acts_onExpiry _ fun _ => acts_holdRunsOut c _)⟩
  | recordDiscarded link defect => exact ⟨_, rfl, acts_finish (acts_onRecord _ fun _ => (Act.link link _).acts)⟩
  | recordLinkQuiet link => exact ⟨_, rfl, acts_finish (acts_linkQuiet link s)⟩

theorem acts_of_exec {i : Instr} {s u : State} (h : exec i s = .next u) : Acts s u := by
  obtain ⟨v, hexec, hacts⟩ := exec_acts i s
  obtain rfl : v = u := by
    rw [hexec] at h
    exact Host.Outcome.next.inj h
  exact hacts

/-- A step is a run of acts, from the state with the command taken off the queue. -/
theorem acts_of_step {s t : State} (h : step s = .next t) : ∃ l n, Acts { s with pending := l, free := n } t := by
  unfold step at h
  split at h
  next hpending =>
    unfold tick at h
    split at h
    · exact ⟨s.pending, s.free + 1, acts_of_exec h⟩
    · refine ⟨s.pending, s.free, ?_⟩
      rw [← Host.Outcome.next.inj h]
      exact (Act.elapses 1).acts
  next rest hpending => exact ⟨rest, s.free, acts_of_exec h⟩

/-- What does not speak of the queue or of the free values, and what every act keeps, every step keeps. -/
theorem step_keeps {P : State → Prop} (hblind : ∀ s l n, P s → P { s with pending := l, free := n })
    (hkeeps : ∀ s u, P s → Act s u → P u) {s t : State} (hs : P s) (hstep : step s = .next t) : P t := by
  obtain ⟨l, n, hacts⟩ := acts_of_step hstep
  exact acts_keep hkeeps (hblind s l n hs) hacts

end Sys2Proof.Machine
end

section
/-! PROOFS. The header agent's operations (06) as runs of moves: changes of its own variables, offered frames, raised events, and
the flow notices to a receiver, which keep the receiver's account and are told to its ports. What every move keeps, every act of
the agent keeps, whatever way it takes through the discharge states. -/

namespace Sys2Proof.Machine

/-- One move of the header agent. -/
inductive Move (s : State) : State → Prop
  | agent (a : Agent) : Move s (s.setAgent a)
  | offers (f : Frame) (entry : Nat) : Move s (s.offerEntry f entry).1
  | raises (e : EventKind) : Move s (s.raise e)
  | receiverTold (c : GasClass) (r : Receiver) (haccount : (s.rcv c).AccountHolds → r.AccountHolds) :
      Move s ((s.setRcv c r).tellPorts c)

/-- A run of moves. -/
abbrev Moves : State → State → Prop := Relation.ReflTransGen Move

theorem Move.moves {s u : State} (h : Move s u) : Moves s u := .single h

/-- What every move keeps, a run of moves keeps. -/
theorem moves_keep {P : State → Prop} (hkeeps : ∀ s u, P s → Move s u → P u) {s u : State} (hs : P s) (hmoves : Moves s u) :
    P u := by
  induction hmoves with
  | refl => exact hs
  | tail _ hmove ih => exact hkeeps _ _ ih hmove

/-! ### Changes of the discharge state -/

theorem moves_offerBeacon (s : State) : Moves s s.offerBeacon := (Move.offers _ _).moves

theorem moves_noticeChange (before : DState) (s : State) : Moves s (s.noticeChange before) := by
  unfold State.noticeChange
  split
  · exact .refl
  · exact moves_offerBeacon s

theorem moves_agent_notice (a : Agent) (before : DState) (s : State) : Moves s ((s.setAgent a).noticeChange before) :=
  (Move.agent a).moves.trans (moves_noticeChange before _)

theorem moves_toBackoff (long : Bool) (s : State) : Moves s (s.toBackoff long) := moves_agent_notice _ _ s

theorem moves_toWaiting (s : State) : Moves s s.toWaiting := moves_agent_notice _ _ s

theorem moves_toDrain (s : State) : Moves s s.toDrain := by
  unfold State.toDrain
  split
  · exact moves_toWaiting s
  · exact moves_agent_notice _ _ s

theorem moves_toListen (u : Purpose) (c : GasClass) (s : State) : Moves s (s.toListen u c) := by
  have htold : ∀ (a : Agent) f n d, Moves s (((s.setAgent a).offerEntry f n).1.noticeChange d) := fun a f n d =>
    ((Move.agent a).moves.tail (.offers f n)).trans (moves_noticeChange d _)
  unfold State.toListen
  dsimp only
  split
  · exact htold _ _ _ _
  · exact (htold _ _ _ _).trans (moves_toBackoff false _)
  · exact (htold _ _ _ _).trans (moves_toBackoff false _)

theorem moves_idleCheck (s : State) : Moves s s.idleCheck := by
  unfold State.idleCheck
  split
  · split
    · exact moves_toListen .flow _ s
    · exact .refl
  · exact .refl

theorem moves_toIdle (s : State) : Moves s s.toIdle := (moves_agent_notice _ _ s).trans (moves_idleCheck _)

theorem moves_goNext (n : NextState) (s : State) : Moves s (s.goNext n) := by
  cases n with
  | idle => exact moves_toIdle s
  | backoff => exact moves_toBackoff false s
  | longBackoff => exact moves_toBackoff true s

/-! ### The flow and the purge -/

theorem startFlow_account (g : ReceiverSet) (stallMs : Nat) {r : Receiver} (h : r.AccountHolds) :
    (r.startFlow g stallMs).AccountHolds :=
  accountHolds_congr ⟨rfl, rfl, rfl, rfl, rfl, rfl, rfl⟩ h

theorem moves_receiverFlowStart (c : GasClass) (s : State) : Moves s (s.receiverFlowStart c).1 := by
  unfold State.receiverFlowStart
  dsimp only
  split
  · exact .refl
  · exact .refl
  · exact .refl
  · exact (Move.receiverTold c _ (startFlow_account _ _)).moves
  · exact (Move.receiverTold c _ (startFlow_account _ _)).moves

theorem moves_receiverFlowEnd (c : GasClass) (s : State) : Moves s (s.receiverFlowEnd c) := by
  unfold State.receiverFlowEnd
  dsimp only
  split
  · exact (Move.receiverTold c _ (by exact accountHolds_congr ⟨rfl, rfl, rfl, rfl, rfl, rfl, rfl⟩)).moves
  · exact .refl

theorem moves_offerHoldOnly (h : HoldClass) (reason : HoldReason) (s : State) : Moves s (s.offerHoldOnly h reason) :=
  (Move.agent _).moves.tail (.offers _ _)

theorem moves_if {b : Prop} [Decidable b] {s t u : State} (ht : Moves s t) (hu : Moves s u) : Moves s (if b then t else u) := by
  split
  · exact ht
  · exact hu

theorem moves_endFlow (conflictHold sendOff : Bool) (n : NextState) (s : State) :
    Moves s (s.endFlow conflictHold sendOff n) := by
  unfold State.endFlow
  split
  next => exact .refl
  next c hc =>
    have hshut : Moves s (s.setAgent s.agent.shut) := (Move.agent _).moves
    have hheld : Moves s
        (if conflictHold then (s.setAgent s.agent.shut).offerHoldOnly .all .conflict else s.setAgent s.agent.shut) :=
      moves_if (hshut.trans (moves_offerHoldOnly _ _ _)) hshut
    have hended := hheld.trans (moves_receiverFlowEnd c _)
    exact (moves_if (hended.tail (.offers _ _)) hended).trans (moves_goNext n _)

theorem moves_startFlow (c : GasClass) (s : State) : Moves s (s.startFlow c) := by
  unfold State.startFlow
  dsimp only
  split
  next => exact moves_toIdle s
  next done _ =>
    have hflows : ∀ a b f d, Moves s (((((s.receiverFlowStart c).1.setAgent a).setAgent b).offer f).noticeChange d) :=
      fun a b f d => ((((moves_receiverFlowStart c s).tail (.agent a)).tail (.agent b)).tail (.offers f 0)).trans
        (moves_noticeChange d _)
    exact moves_if ((hflows _ _ _ _).trans (moves_endFlow _ _ _ _)) (hflows _ _ _ _)

theorem moves_abortPurge (conflictHold sendDone : Bool) (n : NextState) (s : State) :
    Moves s (s.abortPurge conflictHold sendDone n) := by
  unfold State.abortPurge
  have hview : ∀ a, Moves s (s.setAgent a) := fun a => (Move.agent a).moves
  have hheld : ∀ a, Moves s
      (if conflictHold then (s.setAgent a).offerHoldOnly .all .conflict else s.setAgent a) := fun a =>
    moves_if ((hview a).trans (moves_offerHoldOnly _ _ _)) (hview a)
  exact (moves_if ((hheld _).tail (.offers _ _)) (hheld _)).trans (moves_goNext n _)

theorem moves_toPurging (s : State) : Moves s s.toPurging := by
  have htold : ∀ (a : Agent) f n d, Moves s (((s.setAgent a).offerEntry f n).1.noticeChange d) := fun a f n d =>
    ((Move.agent a).moves.tail (.offers f n)).trans (moves_noticeChange d _)
  unfold State.toPurging
  dsimp only
  split
  · exact .refl
  · split
    · exact htold _ _ _ _
    · exact (htold _ _ _ _).trans (moves_abortPurge _ _ _ _)
    · exact (htold _ _ _ _).trans (moves_abortPurge _ _ _ _)

/-! ### Holds, notices, the view, pause and inhibit -/

theorem moves_reevaluate (s : State) : Moves s s.reevaluate := by
  unfold State.reevaluate
  split
  · exact .refl
  · exact moves_if (moves_toListen _ _ s) (moves_if (moves_toDrain s) .refl)

theorem moves_holdEffect (h : HoldClass) (s : State) : Moves s (s.holdEffect h) := by
  unfold State.holdEffect
  split
  next => exact .refl
  next =>
    split
    next =>
      split
      case h_1 => exact (Move.agent _).moves
      case h_2 => exact moves_abortPurge _ _ _ s
      case h_3 => exact moves_endFlow _ _ _ s
      all_goals exact .refl
    next => exact .refl

theorem moves_offerHold (h : HoldClass) (reason : HoldReason) (s : State) : Moves s (s.offerHold h reason) :=
  (moves_offerHoldOnly h reason s).trans (moves_holdEffect h _)

theorem moves_holdEnd (h : HoldClass) (s : State) : Moves s (s.holdEnd h) := by
  unfold State.holdEnd
  split
  · exact moves_idleCheck s
  · split
    · exact moves_if (moves_reevaluate s) .refl
    · exact .refl
  · exact .refl

theorem moves_requestNotice (c : GasClass) (was : Bool) (s : State) : Moves s (s.requestNotice c was) := by
  unfold State.requestNotice
  refine moves_if .refl (moves_if (moves_idleCheck s) (moves_if ?_ .refl))
  split
  case h_1 => exact moves_toIdle s
  case h_2 => exact moves_toIdle s
  case h_3 => exact moves_toIdle s
  case h_4 => exact moves_toIdle s
  all_goals exact .refl

theorem moves_flowNotice (c : GasClass) (n : NextState) (s : State) : Moves s (s.flowNotice c n) :=
  moves_if (moves_endFlow _ _ _ s) .refl

theorem moves_viewReaction (flowing : List (Address × GasClass)) (told : Bool) (s : State) :
    Moves s (s.viewReaction flowing told) := by
  unfold State.viewReaction
  split
  case h_1 => exact moves_if (moves_reevaluate s) .refl
  case h_2 =>
    refine moves_if (moves_toWaiting s) ?_
    split
    · exact moves_if (moves_toListen _ _ s) .refl
    · exact .refl
  case h_3 => exact moves_if .refl (moves_endFlow _ _ _ s)
  all_goals exact .refl

theorem moves_agentStop (frames : Bool) (s : State) : Moves s (s.agentStop frames) := by
  unfold State.agentStop
  split
  · exact .refl
  · exact moves_endFlow _ _ _ s
  · exact moves_abortPurge _ _ _ s
  all_goals exact moves_toIdle s

theorem moves_agentInhibit (s : State) : Moves s s.agentInhibit := moves_if (moves_agentStop true s) .refl

theorem moves_conflictStops (hold : Bool) (s : State) : Moves s (s.conflictStops hold) :=
  moves_if (moves_endFlow _ _ _ s) (moves_if (moves_offerHold _ _ s) .refl)

theorem moves_conflictBegins (s : State) : Moves s s.conflictBegins := by
  have hstops : ∀ hold a, Moves s (((s.setAgent a).raise .headerConflict).conflictStops hold) := fun hold a =>
    ((Move.agent a).moves.tail (.raises _)).trans (moves_conflictStops hold _)
  exact (moves_if ((hstops _ _).tail (.agent _)) (hstops _ _)).trans (moves_viewReaction _ _ _)

/-! ### The timers (R121 to R128) -/

theorem moves_flowWindowEnds (s : State) : Moves s s.flowWindowEnds := by
  unfold State.flowWindowEnds
  split
  next => exact .refl
  next c _ =>
    exact moves_if (moves_toBackoff false s) (moves_if (moves_toBackoff false s)
      (moves_if (moves_if (moves_startFlow c s) (moves_toWaiting s)) (moves_if (moves_toDrain s) (moves_toWaiting s))))

theorem moves_purgeWindowEnds (s : State) : Moves s s.purgeWindowEnds := by
  unfold State.purgeWindowEnds
  split
  · exact .refl
  · exact moves_if (moves_toBackoff false s)
      (moves_if (moves_toPurging s) ((moves_toWaiting s).trans (moves_reevaluate _)))

theorem moves_drainEnds (s : State) : Moves s s.drainEnds := by
  unfold State.drainEnds
  split
  · exact .refl
  · exact moves_if (moves_toBackoff false s)
      (moves_if (moves_toListen _ _ s) (moves_if (moves_toWaiting s) (moves_toListen _ _ s)))

theorem moves_purgeEnds (s : State) : Moves s s.purgeEnds := by
  unfold State.purgeEnds
  split
  next => exact .refl
  next c _ =>
    have hdone : ∀ a f, Moves s ((s.setAgent a).offer f) := fun a f => (Move.agent a).moves.tail (.offers f 0)
    exact moves_if ((hdone _ _).trans (moves_startFlow c _)) ((hdone _ _).trans (moves_toIdle _))

/-- Every act of the header agent is a run of moves. -/
theorem AgentAct.moves {s u : State} (h : AgentAct s u) : Moves s u := by
  cases h with
  | requestTold c was => exact moves_requestNotice c was s
  | flowTold c n => exact moves_flowNotice c n s
  | agent a => exact (Move.agent a).moves
  | views n a => exact (Move.agent a).moves.trans (moves_viewReaction _ _ _)
  | setsTold n => exact moves_if (moves_viewReaction _ _ s) .refl
  | purgeStartEndsFlow a => exact (Move.agent a).moves.trans (moves_endFlow _ _ _ _)
  | aborts conflictHold sendDone n => exact moves_abortPurge conflictHold sendDone n s
  | backsOff => exact moves_toBackoff false s
  | idles => exact moves_toIdle s
  | checks => exact moves_idleCheck s
  | held h => exact moves_holdEffect h s
  | holdOver h => exact moves_holdEnd h s
  | conflicts => exact moves_conflictBegins s
  | flowWindow => exact moves_flowWindowEnds s
  | purgeWindow => exact moves_purgeWindowEnds s
  | drains => exact moves_drainEnds s
  | purges => exact moves_purgeEnds s

end Sys2Proof.Machine
end

section
/-! PROOFS. Every act as a run of parts, the smallest changes under which the queue of commands, the mass accounts and the receiver
valves are kept: a part moves one variable, but the start of a pause and of an inhibit, which close the valves of every port. -/

namespace Sys2Proof.Machine

/-- The station as a pause starts, its ports told (R26, R153). -/
def State.pauseBegins (c : PauseCause) (s : State) : State :=
  ((s.setLc { s.lc.addCause c with paused := true }).raise .pause).eachPort fun p => State.modPort p Port.pauseStart

/-- The station as an inhibit starts or is prolonged, its ports told (R28, R155, R158). -/
def State.inhibitBegins (t : Timer) (s : State) : State :=
  (s.setLc { s.lc with inhibit := t }).eachPort fun p => State.modPort p Port.inhibitStart

/-- One part of an act. The report queue stays within its bound (R88), and the transmit queue grows by offered frames alone. -/
inductive Part (s : State) : State → Prop
  | resets : Part s { State.reset with pending := s.pending, free := s.free }
  | elapses (n : Nat) : Part s (s.elapse n)
  | finishes : Part s s.finish
  | loader (x : Loader) : Part s (s.setLoader x)
  | op (x : OperatorPort) : Part s (s.setOp x)
  | field (x : FieldUnit) : Part s (s.setField x)
  | link (l : RecordLink) (x : RecordLinkState) : Part s (s.setRecordLink l x)
  | peer (a : Address) (x : Peer) : Part s (s.setPeer a x)
  | free (n : Nat) : Part s (s.setFree n)
  | store (x : CaseStore)
      (hqueue : s.store.queue.length ≤ Config.reportRoom → x.queue.length ≤ Config.reportRoom) : Part s (s.setStore x)
  | ana (x : Analyser) : Part s (s.setAna x)
  | line (x : LineIf) (hqueue : x.queue.length ≤ s.line.queue.length) : Part s (s.setLine x)
  | conditions (x : LineConditions) (hpaused : x.paused = true → s.lc.paused = true)
      (hinhibit : x.inhibit.isRunning = true → s.lc.inhibit.isRunning = true) : Part s (s.setLc x)
  | moves {u : State} (hmove : Move s u) : Part s u
  | receiver (c : GasClass) (r : Receiver) (haccount : (s.rcv c).AccountHolds → r.AccountHolds)
      (hstate : (s.rcv c).state = .accepting → r.state = .accepting) : Part s (s.setRcv c r)
  | port (p : PortId) (x : Port) (hopens : (s.port p).OpensNothing x) : Part s (s.setPort p x)
  | routes (p : PortId) : Part s (s.route p)
  | pauses (c : PauseCause) : Part s (s.pauseBegins c)
  | inhibits (t : Timer) : Part s (s.inhibitBegins t)

/-- A run of parts. -/
abbrev Parts : State → State → Prop := Relation.ReflTransGen Part

theorem Part.parts {s u : State} (h : Part s u) : Parts s u := .single h

/-- What every part keeps, a run of parts keeps. -/
theorem parts_keep {P : State → Prop} (hkeeps : ∀ s u, P s → Part s u → P u) {s u : State} (hs : P s) (hparts : Parts s u) :
    P u := by
  induction hparts with
  | refl => exact hs
  | tail _ hpart ih => exact hkeeps _ _ ih hpart

theorem Moves.parts {s u : State} (h : Moves s u) : Parts s u :=
  h.lift id fun _ _ => Part.moves

theorem parts_raise (e : EventKind) (s : State) : Parts s (s.raise e) := (Part.moves (.raises e)).parts

theorem parts_if {b : Prop} [Decidable b] {s t u : State} (ht : Parts s t) (hu : Parts s u) : Parts s (if b then t else u) := by
  split
  · exact ht
  · exact hu

/-! ### Ports (01) -/

/-- A port with its valves closed opens nothing. -/
theorem opensNothing_of_closed {x y : Port} (hclosed : ∀ c, y.valve c = false) : x.OpensNothing y := fun c hopen => by
  rw [hclosed c] at hopen
  cases hopen

/-- A port that did not extract and opens no valve. -/
theorem opensNothing_of_not_extract {x y : Port} (hvalves : y.valveH = x.valveH ∧ y.valveK = x.valveK)
    (hstate : x.state ≠ .extract) : x.OpensNothing y := by
  obtain ⟨hvalveH, hvalveK⟩ := hvalves
  refine fun c hopen => ⟨?_, fun hextract => absurd hextract hstate⟩
  cases c <;> simpa only [Port.valve, hvalveH, hvalveK] using hopen

theorem valve_of_closed {x : Port} (hH : x.valveH = false) (hK : x.valveK = false) (c : GasClass) : x.valve c = false := by
  cases c
  · exact hH
  · exact hK

theorem parts_modPort {f : Port → Port} {p : PortId} {s : State} (hopens : (s.port p).OpensNothing (f (s.port p))) :
    Parts s (s.modPort p f) :=
  (Part.port p _ hopens).parts

/-- A port that keeps its valves, its state and its record. -/
theorem parts_keepsCase {p : PortId} {x : Port} {s : State} (hslot : x.slot = (s.port p).slot)
    (hvalves : x.valveH = (s.port p).valveH ∧ x.valveK = (s.port p).valveK) (hstate : x.state = (s.port p).state) :
    Parts s (s.setPort p x) :=
  (Part.port p x (opensNothing_of_same hslot hvalves hstate)).parts

theorem parts_startPort (p : PortId) (s : State) : Parts s (s.startPort p) :=
  parts_modPort (by exact opensNothing_of_closed (valve_of_closed rfl rfl))

theorem parts_tryConnect {p : PortId} {s : State} (hstate : (s.port p).state ≠ .extract) : Parts s (s.tryConnect p) :=
  parts_if (Part.port p _ (by exact opensNothing_of_not_extract ⟨rfl, rfl⟩ hstate)).parts .refl

theorem parts_createCase {p : PortId} (r : CaseRecord) {s : State} (hvacant : (s.port p).state = .vacant) :
    Parts s (s.createCase p r) :=
  ((Part.store _ (by exact id)).parts.trans (parts_modPort
    (by exact opensNothing_of_not_extract ⟨rfl, rfl⟩ (by simp [hvacant])))).trans (parts_tryConnect (by simp))

theorem parts_serve (s : State) : Parts s s.serve := by
  unfold State.serve
  split
  · split
    · exact .refl
    · exact (Part.ana _).parts
  · exact .refl

theorem parts_toClassify {p : PortId} {s : State} (hsettle : (s.port p).state = .settle) : Parts s (s.toClassify p) :=
  ((parts_modPort (by exact opensNothing_of_not_extract ⟨rfl, rfl⟩ (by simp [hsettle]))).tail (.ana _)).trans (parts_serve _)

theorem parts_toRiseTest (p : PortId) (s : State) : Parts s (s.toRiseTest p) :=
  parts_modPort (by exact opensNothing_of_closed (valve_of_closed rfl rfl))

theorem parts_takeStepSample (p : PortId) (hpa : Nat) (s : State) : Parts s (s.takeStepSample p hpa) := by
  unfold State.takeStepSample
  dsimp only
  split
  next => exact .refl
  next k =>
    have hslot : ∀ m, (s.port p).OpensNothing ((s.port p).mapSlot fun r => { r with stepsDone := m }) := fun m =>
      opensNothing_of_slot rfl (fun _ => rfl) ⟨rfl, rfl⟩ rfl
    refine parts_if .refl (parts_if (Part.port p _ ?_).parts ((Part.port p _ (hslot _)).parts.trans (parts_toRiseTest p _)))
    exact opensNothing_of_slot rfl (fun _ => rfl) ⟨rfl, rfl⟩ rfl

theorem parts_recheck (p : PortId) (s : State) : Parts s (s.recheck p) := parts_if .refl (Part.routes p).parts

theorem parts_portInhibitEnd (p : PortId) (s : State) : Parts s (s.portInhibitEnd p) := by
  unfold State.portInhibitEnd
  split
  · exact parts_recheck p s
  · exact .refl

theorem parts_portResume (p : PortId) (s : State) : Parts s (s.portResume p) := by
  unfold State.portResume
  dsimp only
  split
  next h =>
    have hthawed : Parts s (s.setPort p { s.port p with connect := (s.port p).connect.thaw }) :=
      parts_keepsCase rfl ⟨rfl, rfl⟩ rfl
    exact hthawed.trans (parts_tryConnect (by simp [h]))
  next => exact parts_keepsCase rfl ⟨rfl, rfl⟩ rfl
  next => exact parts_keepsCase rfl ⟨rfl, rfl⟩ rfl
  next => exact (Part.routes p).parts
  next => exact parts_recheck p s
  next => exact parts_keepsCase rfl ⟨rfl, rfl⟩ rfl
  all_goals exact .refl

theorem parts_enqueueRecord {p : PortId} (r : CaseRecord) {s : State} (hroom : s.store.queue.length < Config.reportRoom)
    (hstate : (s.port p).state ≠ .extract) : Parts s (s.enqueueRecord p r) :=
  ((Part.store _ (by exact fun _ => by simpa using hroom)).parts.trans
    (parts_modPort (by exact opensNothing_of_not_extract ⟨rfl, rfl⟩ hstate))).trans (parts_raise _ _)

/-- A record takes the place that the oldest one left. -/
theorem parts_dropOldest_enqueueRecord {p : PortId} (r w : CaseRecord) {rest : List CaseRecord} {s : State}
    (hqueue : s.store.queue = r :: rest) (hstate : (s.port p).state ≠ .extract) :
    Parts s ((s.dropOldest rest).enqueueRecord p w) := by
  have hlength : s.store.queue.length ≤ Config.reportRoom → (rest ++ [w]).length ≤ Config.reportRoom := by
    simp [hqueue]
  exact ((Part.store { s.store with queue := rest ++ [w] } hlength).parts.trans
    (parts_modPort (by exact opensNothing_of_not_extract ⟨rfl, rfl⟩ hstate))).trans (parts_raise _ _)

theorem parts_closeCase (p : PortId) (res : CaseResult) (s : State) : Parts s (s.closeCase p res) := by
  unfold State.closeCase
  dsimp only
  split
  next => exact .refl
  next r _ =>
    have hclosed : ∀ x, (∀ c, x.valve c = false) →
        Parts s ((if (s.port p).state = .classify then s.withdraw p else s).setPort p x) := fun x hx =>
      (parts_if (Part.ana _).parts .refl).tail (.port p x (opensNothing_of_closed hx))
    split
    next hroom =>
      refine (hclosed _ (valve_of_closed rfl rfl)).trans (parts_enqueueRecord _ ?_ (by simp))
      split
      · simpa using hroom
      · simpa using hroom
    next => exact hclosed _ (valve_of_closed rfl rfl)

theorem parts_quarantine (p : PortId) (q : QReason) (s : State) : Parts s (s.quarantine p q) :=
  ((parts_if (Part.ana _).parts .refl).tail
    (.port p _ (by exact opensNothing_of_closed (valve_of_closed rfl rfl)))).trans (parts_raise _ _)

theorem parts_takeReport (s : State) : Parts s s.takeReport.1 := by
  unfold State.takeReport
  split
  next => exact .refl
  next r rest hqueue =>
    have hlength : s.store.queue.length ≤ Config.reportRoom → rest.length ≤ Config.reportRoom := fun h => by
      rw [hqueue, List.length_cons] at h
      omega
    have hdropped : Parts s (s.dropOldest rest) := (Part.store { s.store with queue := rest } hlength).parts
    show Parts s (s.dropOldest rest).releaseWaiting
    unfold State.releaseWaiting
    split
    next => exact hdropped
    next p n hfirst =>
      split
      next w hslot =>
        obtain ⟨q, v, hclosing, -, hentry⟩ := mem_waitingSet.mp (earliest_mem hfirst)
        obtain ⟨rfl, -⟩ := Prod.mk.inj hentry
        refine parts_dropOldest_enqueueRecord r w hqueue ?_
        simpa [State.dropOldest] using hclosing.trans_ne (by decide)
      next => exact hdropped

/-! ### Line conditions (07) -/

theorem parts_lcOffer (f : Frame) (s : State) : Parts s (s.lcOffer f) := by
  have hoffered : Parts s (s.offerEntry f 0).1 := (Part.moves (.offers f 0)).parts
  unfold State.lcOffer
  dsimp only
  split
  next => exact hoffered.tail (.conditions _ (by simp) (by simp))
  next => exact hoffered
  next => exact hoffered

theorem parts_enterPause (c : PauseCause) (s : State) : Parts s (s.enterPause c) := by
  have htold : Parts s ((s.pauseBegins c).agentStop true) := (Part.pauses c).parts.trans (moves_agentStop true _).parts
  exact parts_if (Part.conditions _ (by cases c <;> exact id) (by cases c <;> exact id)).parts (htold.tail (.field _))

theorem parts_takeInhibit (seconds : Nat) (s : State) : Parts s (s.takeInhibit seconds) := by
  unfold State.takeInhibit
  dsimp only
  split
  next hactive =>
    exact (Part.conditions _ (by exact id) (by exact fun _ => by simpa [State.inhibited] using hactive)).parts
  next => exact (Part.inhibits _).parts.trans (moves_agentInhibit _).parts

theorem parts_hydroLeak (s : State) : Parts s s.hydroLeak :=
  ((parts_takeInhibit _ s).trans (parts_lcOffer _ _)).trans (parts_raise _ _)

/-! ### Address clash (R107) -/

/-- In address clash a lost notice is the agent's alone (R154). -/
theorem moves_lostNotice {s : State} (hclash : s.line.clash = true) (q : QueuedFrame) : Moves s (s.lostNotice q) := by
  have hlc : ∀ f, Moves s (s.lcLost f) := fun f => by
    rw [State.lcLost, if_pos hclash]
  unfold State.lostNotice
  split
  case h_1 => exact moves_if (moves_toBackoff false s) .refl
  case h_2 => exact moves_if (moves_abortPurge _ _ _ s) .refl
  case h_3 => exact hlc _
  case h_4 => exact hlc _
  case h_5 => exact hlc _
  all_goals exact .refl

theorem Move.clash {s u : State} (h : Move s u) : u.line.clash = s.line.clash := by
  cases h <;> simp

theorem Moves.clash {s u : State} (h : Moves s u) : u.line.clash = s.line.clash :=
  moves_keep (P := fun t => t.line.clash = s.line.clash) (fun _ _ ht hmove => hmove.clash.trans ht) rfl h

theorem moves_loseQueue (l : List QueuedFrame) {s : State} (hclash : s.line.clash = true) : Moves s (s.loseQueue l) := by
  unfold State.loseQueue
  induction l generalizing s with
  | nil => exact .refl
  | cons q rest ih =>
    have hlost := moves_lostNotice hclash q
    exact hlost.trans (ih (hlost.clash.trans hclash))

/-- The station as it enters address clash, before its blocks are told (R107). -/
def State.clashBegins (s : State) : State :=
  let t := s.setLine
    { s.line with
      framer := .hunting, clashT := .running Config.clashMs, clash := true, tx := .silent, queue := [], headCount := 0 }
  t.setLc { t.lc with owed := [] }

theorem moves_of_clashBegins (s : State) (hclear : s.line.clash = false) : Moves s.clashBegins s.clash := by
  have hlost : Moves s.clashBegins (s.clashBegins.loseQueue s.line.queue) := moves_loseQueue _ (by simp [State.clashBegins])
  unfold State.clash
  rw [if_neg (by simp [hclear])]
  exact (hlost.trans (moves_agentStop false _)).tail (.raises _)

theorem parts_clash (s : State) : Parts s s.clash := by
  by_cases hclash : s.line.clash = true
  · rw [State.clash, if_pos hclash]
    exact (Part.line _ (by exact Nat.le_refl _)).parts
  · exact ((Part.line _ (by exact Nat.zero_le _)).parts.tail (.conditions _ (by exact id) (by exact id))).trans
      (moves_of_clashBegins s (Bool.eq_false_of_not_eq_true hclash)).parts

/-! ### The analyser (03) -/

theorem parts_startSniff (s : State) : Parts s s.startSniff := by
  unfold State.startSniff
  split
  · exact (Part.ana _).parts
  · exact (Part.ana _).parts.trans (parts_serve _)

theorem parts_analyserIdle (s : State) : Parts s s.analyserIdle :=
  (Part.ana _).parts.trans (parts_if (parts_startSniff _) (parts_serve _))

theorem parts_portClassify (p : PortId) (m : Measurement) (s : State) : Parts s (s.portClassify p m) := by
  unfold State.portClassify
  dsimp only
  split
  next hclassify =>
    have hmeasured : Parts s
        (s.modPort p fun x => { x.mapSlot (CaseRecord.measure m) with classifyWait := .stopped }) :=
      parts_modPort (by exact opensNothing_of_not_extract ⟨rfl, rfl⟩ (by simp [hclassify]))
    split
    · exact (hmeasured.trans (parts_modPort (by exact opensNothing_of_same rfl ⟨rfl, rfl⟩ rfl))).tail (.routes p)
    · exact (hmeasured.trans (parts_modPort (by exact opensNothing_of_same rfl ⟨rfl, rfl⟩ rfl))).tail (.routes p)
    · exact hmeasured.trans (parts_quarantine p _ _)
    · exact hmeasured.trans (parts_closeCase p _ _)
  next => exact .refl

theorem parts_portSniff (p : PortId) (o : SniffOutcome) (s : State) : Parts s (s.portSniff p o) := by
  have hcounted : Parts s (s.modPort p (Port.mapSlot fun r => { r with traceHits := satAdd 255 r.traceHits 1 })) :=
    parts_modPort (by exact opensNothing_of_slot rfl (fun _ => rfl) ⟨rfl, rfl⟩ rfl)
  cases o with
  | clean => exact .refl
  | trace => exact hcounted
  | leak => exact parts_if hcounted (hcounted.trans (parts_quarantine p _ _))

theorem parts_takeSniff (p : PortId) (noted : Option Nat) (halo hydro : Nat) (s : State) :
    Parts s (s.takeSniff p noted halo hydro) := by
  have htold : ∀ (b : Bool) o, Parts s (if b then s.portSniff p o else s) := fun b o => parts_if (parts_portSniff p o s) .refl
  have hleak : ∀ t : State, Parts t t.leakFound := fun t => (Part.ana _).parts.trans (parts_raise _ _)
  have hflagged : ∀ (b : Bool) o, Parts s
      (if o = SniffOutcome.leak then (if b then s.portSniff p o else s).leakFound else if b then s.portSniff p o else s) :=
    fun b o => parts_if ((htold b o).trans (hleak _)) (htold b o)
  exact parts_if ((hflagged _ _).trans (parts_hydroLeak _)) (hflagged _ _)

theorem parts_takeResult (halo hydro : Word16) (s : State) : Parts s (s.takeResult halo hydro) := by
  have hended : Parts s (s.setAna s.ana.endSample) := (Part.ana _).parts
  unfold State.takeResult
  dsimp only
  split
  · exact (parts_if hended (hended.trans (parts_portClassify _ _ _))).trans (parts_analyserIdle _)
  · exact (hended.trans (parts_takeSniff _ _ _ _ _)).trans (parts_analyserIdle _)
  · exact .refl

theorem parts_timedOut (s : State) : Parts s s.timedOut := by
  have hfaults : ∀ t : State, Parts t t.analyserFaults := fun t =>
    have hraised := (Part.ana _).parts.trans (parts_raise .analyserFault _)
    parts_if (hraised.tail (.ana _)) hraised
  exact (Part.ana _).parts.trans (parts_if (parts_analyserIdle _) (hfaults _))

theorem parts_sniffIsDue (s : State) : Parts s s.sniffIsDue := by
  unfold State.sniffIsDue
  dsimp only
  split
  · exact (Part.ana _).parts.trans (parts_startSniff _)
  all_goals exact (Part.ana _).parts

/-- Every act is a run of parts. -/
theorem Act.parts {s u : State} (h : Act s u) : Parts s u := by
  cases h with
  | resets => exact Part.resets.parts
  | elapses n => exact (Part.elapses n).parts
  | finishes => exact Part.finishes.parts
  | loader x => exact (Part.loader x).parts
  | op x => exact (Part.op x).parts
  | field x => exact (Part.field x).parts
  | link l x => exact (Part.link l x).parts
  | peer a x => exact (Part.peer a x).parts
  | free n => exact (Part.free n).parts
  | line x _ hqueue => exact (Part.line x hqueue).parts
  | conditions x hpaused hinhibit => exact (Part.conditions x hpaused hinhibit).parts
  | offers f => exact (Part.moves (.offers f 0)).parts
  | offersForLine f => exact parts_lcOffer f s
  | receiver c r haccount hstate => exact (Part.receiver c r haccount hstate).parts
  | receiverTells c r haccount => exact (Part.moves (.receiverTold c r haccount)).parts
  | port p x hopens => exact (Part.port p x hopens).parts
  | portStarts p => exact parts_startPort p s
  | caseCreated p r hvacant => exact parts_createCase r hvacant
  | connects p hopened => exact parts_tryConnect (by simp [hopened])
  | unclamps p hunclamp =>
    exact (Part.port p _ (by exact opensNothing_of_not_extract ⟨rfl, rfl⟩ (by simp [hunclamp]))).parts
  | classifies p hsettle => exact parts_toClassify hsettle
  | stepSampled p hpa => exact parts_takeStepSample p hpa s
  | rises p => exact parts_toRiseTest p s
  | routes p => exact (Part.routes p).parts
  | resumes p => exact parts_portResume p s
  | inhibitEnds p => exact parts_portInhibitEnd p s
  | quarantines p q => exact parts_quarantine p q s
  | closes p res => exact parts_closeCase p res s
  | reportTaken => exact parts_takeReport s
  | pauses c => exact parts_enterPause c s
  | inhibits seconds => exact parts_takeInhibit seconds s
  | clashes => exact parts_clash s
  | serves => exact parts_serve s
  | readies => exact (Part.ana _).parts.trans (parts_analyserIdle _)
  | results halo hydro => exact parts_takeResult halo hydro s
  | sampleEnds => exact (Part.ana _).parts
  | timesOut => exact parts_timedOut s
  | warns b => exact (Part.ana _).parts
  | sniffComesDue => exact parts_sniffIsDue s
  | leakForgotten => exact (Part.ana _).parts
  | byAgent h => exact h.moves.parts

theorem Acts.parts {s u : State} (h : Acts s u) : Parts s u := by
  induction h with
  | refl => exact .refl
  | tail _ hact ih => exact ih.trans hact.parts

end Sys2Proof.Machine
end

section
/-! PROOFS. Every command runs (O3), every step keeps both mass accounts (O56), and the state after reset is safe (O60). -/

namespace Sys2Proof.Machine

/-! ### The queue of commands -/

theorem Move.pending {s u : State} (h : Move s u) : u.pending = s.pending := by
  cases h <;> simp

theorem eachPort_modPort_pending (f : Port → Port) (s : State) : (s.eachPort fun p => State.modPort p f).pending = s.pending := by
  simp [State.eachPort]

theorem Part.pending {s u : State} (h : Part s u) : u.pending = s.pending := by
  cases h with
  | resets => rfl
  | moves h => exact h.pending
  | pauses c => simp [State.pauseBegins, eachPort_modPort_pending]
  | inhibits t => simp [State.inhibitBegins, eachPort_modPort_pending]
  | _ => simp

theorem Acts.pending {s u : State} (h : Acts s u) : u.pending = s.pending :=
  parts_keep (P := fun t => t.pending = s.pending) (fun _ _ ht hpart => hpart.pending.trans ht) rfl h.parts

/-! ### The mass accounts (R40) -/

theorem accountsHold_iff (s : State) : s.AccountsHold ↔ ∀ c, (s.rcv c).AccountHolds :=
  ⟨fun ⟨hhalo, hhydro⟩ c => by cases c <;> assumption, fun h => ⟨h .halo, h .hydro⟩⟩

theorem accountsHold_congr {s u : State} (h : s.AccountsHold) (hhalo : u.halo = s.halo) (hhydro : u.hydro = s.hydro) :
    u.AccountsHold := by
  unfold State.AccountsHold at h ⊢
  rwa [hhalo, hhydro]

theorem accountsHold_setRcv {s : State} (h : s.AccountsHold) {c : GasClass} {r : Receiver}
    (haccount : (s.rcv c).AccountHolds → r.AccountHolds) : (s.setRcv c r).AccountsHold := by
  rw [accountsHold_iff] at h ⊢
  intro d
  rw [State.rcv_setRcv]
  split
  · exact haccount (h c)
  · exact h d

theorem Move.accountsHold {s u : State} (hs : s.AccountsHold) (h : Move s u) : u.AccountsHold := by
  cases h with
  | agent a => exact accountsHold_congr hs (by simp) (by simp)
  | offers f n => exact accountsHold_congr hs (by simp) (by simp)
  | raises e => exact accountsHold_congr hs (by simp) (by simp)
  | receiverTold c r haccount => exact accountsHold_congr (accountsHold_setRcv hs haccount) (by simp) (by simp)

theorem accountHolds_reset : State.reset.AccountsHold := by
  refine ⟨⟨?_, ?_⟩, ⟨?_, ?_⟩⟩ <;> decide

theorem elapse_account {s : State} (hs : s.AccountsHold) (n : Nat) : (s.elapse n).AccountsHold :=
  ⟨accountHolds_congr ⟨rfl, rfl, rfl, rfl, rfl, rfl, rfl⟩ hs.1, accountHolds_congr ⟨rfl, rfl, rfl, rfl, rfl, rfl, rfl⟩ hs.2⟩

theorem Part.accountsHold {s u : State} (hs : s.AccountsHold) (h : Part s u) : u.AccountsHold := by
  cases h with
  | resets => exact accountHolds_reset
  | elapses n => exact elapse_account hs n
  | receiver c r haccount => exact accountsHold_setRcv hs haccount
  | moves h => exact h.accountsHold hs
  | pauses c => exact accountsHold_congr hs (by simp [State.pauseBegins, State.eachPort]) (by simp [State.pauseBegins, State.eachPort])
  | inhibits t => exact accountsHold_congr hs (by simp [State.inhibitBegins, State.eachPort]) (by simp [State.inhibitBegins, State.eachPort])
  | _ => exact accountsHold_congr hs (by simp) (by simp)

/-! ### The obligations -/

/-- Settles O1: a step's own equation. -/
theorem stepRunsFrontCommand : Obligations.StepRunsFrontCommand := fun _ _ _ => rfl

/-- Settles O3: every command of the table is a run of acts, and no part of an act touches the queue. -/
theorem everyCommandRuns : Obligations.EveryCommandRuns := fun i s => by
  obtain ⟨u, hexec, hacts⟩ := exec_acts i s
  exact ⟨u, hexec, hacts.pending⟩

/-- Settles O56: a step is a run of acts, an act a run of parts, and each part keeps the identity at both receivers. -/
theorem everyStepKeepsTheAccounts : Obligations.EveryStepKeepsTheAccounts := fun _ _ hs hstep =>
  step_keeps (P := State.AccountsHold) (fun _ _ _ h => h)
    (fun _ _ h hact => parts_keep (fun _ _ ht hpart => hpart.accountsHold ht) h hact.parts) hs hstep

/-- Settles O60: the reset state evaluated. -/
theorem resetStateIsSafe : Obligations.ResetStateIsSafe := by
  refine ⟨accountHolds_reset, ?_, ?_, ?_, ?_⟩
  · refine ⟨by decide, fun c => by cases c <;> rfl, fun c h => ?_, by decide, by decide, by decide, by decide, by decide⟩
    cases c <;> cases h
  · intro p c h
    cases p <;> cases c <;> cases h
  · refine ⟨fun p h => ?_, fun p h => ?_, fun h => ?_⟩
    · cases p <;> cases h
    · cases p <;> cases h
    · cases h
  · exact ⟨Nat.zero_le _, Nat.zero_le _⟩

end Sys2Proof.Machine
end

section
/-! PROOFS. The receiver valves (O58): a valve opens by the tests of R10 alone, a receiver that changes its state tells its ports, and
the start of a pause or of an inhibit closes what must not stay open. -/

namespace Sys2Proof.Machine

/-- What an open valve of a port asks of the port and of the station. -/
def State.PortSafe (s : State) (x : Port) : Prop :=
  ∀ c, x.valve c = true →
    x.state = .extract ∧ x.gas = some c ∧ s.accepting c = true ∧ s.lc.paused = false ∧ (c = .hydro → s.inhibited = false)

theorem portSafe_of_closed {s : State} {x : Port} (hclosed : ∀ c, x.valve c = false) : s.PortSafe x := fun c hopen => by
  rw [hclosed c] at hopen
  cases hopen

/-- A safe port that does not extract has its valves closed. -/
theorem valve_closed_of_portSafe {s : State} {x : Port} (hsafe : s.PortSafe x) (hstate : x.state ≠ .extract) (c : GasClass) :
    x.valve c = false :=
  Bool.eq_false_of_not_eq_true fun hopen => hstate (hsafe c hopen).1

/-- Whether a port is safe depends on the receivers and the line conditions alone. -/
theorem portSafe_congr {s u : State} {x : Port} (hsafe : s.PortSafe x) (haccepting : ∀ c, s.accepting c = true → u.accepting c = true)
    (hpaused : u.lc.paused = true → s.lc.paused = true) (hinhibit : u.inhibited = true → s.inhibited = true) : u.PortSafe x :=
  fun c hopen => by
    obtain ⟨hextract, hgas, haccept, hrun, hclear⟩ := hsafe c hopen
    refine ⟨hextract, hgas, haccepting c haccept, ?_, fun hc => ?_⟩
    · exact Bool.eq_false_of_not_eq_true fun h => by simp [hpaused h] at hrun
    · exact Bool.eq_false_of_not_eq_true fun h => by simp [hinhibit h] at hclear; exact hclear hc

/-- A port that opens nothing stays safe. -/
theorem portSafe_of_opensNothing {s : State} {x y : Port} (hsafe : s.PortSafe x) (hopens : x.OpensNothing y) : s.PortSafe y :=
  fun c hopen => by
    obtain ⟨hwas, hkeeps⟩ := hopens c hopen
    obtain ⟨hextract, hgas, hrest⟩ := hsafe c hwas
    obtain ⟨hstate, hsame⟩ := hkeeps hextract
    exact ⟨hstate, hsame.trans hgas, hrest⟩

theorem toWait_closed (r : WaitReason) (x : Port) (c : GasClass) : (x.toWait r).valve c = false := valve_of_closed rfl rfl c

/-- The valve a port opens is that of the class alone. -/
theorem openValve_valve {c d : GasClass} {x : Port} (hopen : (x.openValve c).valve d = true) : d = c := by
  cases c <;> cases d <;> simp_all [Port.openValve, Port.valve]

/-- The three tests of R10 open a valve only where it is safe. -/
theorem portSafe_route {p : PortId} {s : State} (hsafe : s.PortSafe (s.port p)) : s.PortSafe ((s.route p).port p) := by
  unfold State.route
  split
  next => exact hsafe
  next c hgas =>
    split
    next => simpa using portSafe_of_closed (toWait_closed .inhibit _)
    next hinhibit =>
      split
      next => simpa using portSafe_of_closed (toWait_closed .receiver _)
      next haccept =>
        rw [modPort_port_self]
        unfold Port.toExtract
        split
        next => exact portSafe_of_closed (valve_of_closed rfl rfl)
        next hrun =>
          intro d hopen
          obtain rfl : d = c := openValve_valve (x := s.port p) (by cases c <;> cases d <;> exact hopen)
          refine ⟨rfl, ?_, by simpa using haccept, by simpa using hrun, fun hc => by simpa [hc] using hinhibit⟩
          rw [← hgas]
          cases d <;> rfl

/-- A port's safety but for the receiver of one class, which is about to tell it its state. -/
def State.PortSafeBut (s : State) (c : GasClass) (x : Port) : Prop :=
  ∀ d, x.valve d = true →
    x.state = .extract ∧ x.gas = some d ∧ (d ≠ c → s.accepting d = true) ∧ s.lc.paused = false ∧
      (d = .hydro → s.inhibited = false)

theorem portSafe_of_portSafeBut {s : State} {c : GasClass} {x : Port} (hsafe : s.PortSafeBut c x)
    (hother : x.state = .extract → x.gas = some c → s.accepting c = true) : s.PortSafe x := fun d hopen => by
  obtain ⟨hextract, hgas, haccept, hrest⟩ := hsafe d hopen
  refine ⟨hextract, hgas, ?_, hrest⟩
  by_cases hd : d = c
  · exact hd ▸ hother hextract (hd ▸ hgas)
  · exact haccept hd

/-- The receiver's notice makes its ports safe (R15, R47). -/
theorem portSafe_portNotice {p : PortId} {c : GasClass} {s : State} (hsafe : s.PortSafeBut c (s.port p)) :
    s.PortSafe ((s.portNotice c (s.accepting c) p).port p) := by
  have hsame : (s.port p).state ≠ .extract → s.PortSafe (s.port p) := fun hstate =>
    portSafe_of_portSafeBut hsafe fun hextract => absurd hextract hstate
  unfold State.portNotice
  split
  next hgas =>
    split
    next hextract =>
      split
      next haccept => exact portSafe_of_portSafeBut hsafe fun _ _ => haccept
      next => simpa using portSafe_of_closed (toWait_closed .receiver _)
    next r hwait =>
      have hsame := hsame (by simp [hwait])
      split
      next =>
        unfold State.recheck
        split
        · exact hsame
        · exact portSafe_route hsame
      next => exact hsame
    next hextract _ => exact hsame hextract
  next hgas => exact portSafe_of_portSafeBut hsafe fun _ hc => absurd hc hgas

/-- The blocks that a port's safety asks for are the same. -/
def State.SameSafety (s u : State) : Prop := u.halo = s.halo ∧ u.hydro = s.hydro ∧ u.lc = s.lc

theorem accepting_congr {s u : State} (h : s.SameSafety u) (c : GasClass) : u.accepting c = s.accepting c := by
  obtain ⟨hhalo, hhydro, -⟩ := h
  cases c <;> simp [State.accepting, rcv_eq, hhalo, hhydro]

theorem portSafe_of_sameSafety {s u : State} (h : s.SameSafety u) (x : Port) : s.PortSafe x ↔ u.PortSafe x := by
  have haccepting := accepting_congr h
  obtain ⟨-, -, hlc⟩ := h
  unfold State.PortSafe State.inhibited
  simp only [haccepting, hlc]

theorem valvesSafe_congr {s u : State} (hs : s.ValvesSafe) (hports : u.ports = s.ports) (h : s.SameSafety u) : u.ValvesSafe :=
  fun p => by
    have hport : u.port p = s.port p := by simp [State.port, hports]
    rw [hport]
    exact (portSafe_of_sameSafety h _).mp (hs p)

/-- A change of one port keeps the valves safe where the port it leaves is safe. -/
theorem valvesSafe_of_samePortsBut {p : PortId} {s u : State} (hs : s.ValvesSafe) (hothers : s.SamePortsBut p u)
    (hsame : s.SameSafety u) (hport : s.PortSafe (u.port p)) : u.ValvesSafe := fun q => by
  by_cases hq : q = p
  · rw [hq]
    exact (portSafe_of_sameSafety hsame _).mp hport
  · rw [hothers q hq]
    exact (portSafe_of_sameSafety hsame _).mp (hs q)

/-- A receiver that takes a new state and tells it to its ports leaves the valves safe (R47). -/
theorem valvesSafe_receiverTold {s : State} (hs : s.ValvesSafe) (c : GasClass) (r : Receiver) :
    ((s.setRcv c r).tellPorts c).ValvesSafe := by
  intro p
  obtain ⟨t, htold, hbefore, hafter⟩ := eachPort_port (keeps := (s.setRcv c r).SameSafety)
    (f := State.portNotice c ((s.setRcv c r).accepting c))
    (fun p t ht => by simpa [State.SameSafety] using ht) (portNotice_samePortsBut c _)
    (s := s.setRcv c r) ⟨rfl, rfl, rfl⟩ p
  have hbut : t.PortSafeBut c (t.port p) := by
    rw [hbefore, State.port_setRcv]
    intro d hopen
    obtain ⟨hextract, hgas, haccept, hrun, hclear⟩ := hs p d hopen
    have hlc := htold.2.2
    refine ⟨hextract, hgas, fun hd => ?_, by simpa [hlc] using hrun, by simpa [State.inhibited, hlc] using hclear⟩
    rw [accepting_congr htold]
    simpa [State.accepting, State.rcv_setRcv, hd] using haccept
  have hsame : (s.setRcv c r).SameSafety ((s.setRcv c r).tellPorts c) := by simp [State.SameSafety]
  have hnotice := portSafe_portNotice hbut
  rw [accepting_congr htold, ← hafter] at hnotice
  exact (portSafe_of_sameSafety hsame _).mp ((portSafe_of_sameSafety htold _).mpr hnotice)

theorem Move.valvesSafe {s u : State} (hs : s.ValvesSafe) (h : Move s u) : u.ValvesSafe := by
  cases h with
  | agent a => exact valvesSafe_congr hs (by simp) (by simp [State.SameSafety])
  | offers f n => exact valvesSafe_congr hs (by simp) (by simp [State.SameSafety])
  | raises e => exact valvesSafe_congr hs (by simp) (by simp [State.SameSafety])
  | receiverTold c r => exact valvesSafe_receiverTold hs c r

/-! ### Pause and inhibit -/

theorem pauseStart_closed {s : State} {x : Port} (hsafe : s.PortSafe x) (c : GasClass) : x.pauseStart.valve c = false := by
  unfold Port.pauseStart
  split
  case h_4 => exact valve_of_closed rfl rfl c
  all_goals
    have hclosed := valve_closed_of_portSafe hsafe (by simp [*]) c
    cases c <;> exact hclosed

theorem valvesSafe_pauseBegins {s : State} (hs : s.ValvesSafe) (c : PauseCause) : (s.pauseBegins c).ValvesSafe := fun p => by
  unfold State.pauseBegins
  rw [eachPort_modPort_port]
  exact portSafe_of_closed (pauseStart_closed (s := s) (hs p))

theorem inhibitStart_halo {x : Port} (hopen : x.inhibitStart.valve .halo = true) : x.inhibitStart = x := by
  unfold Port.inhibitStart at hopen ⊢
  split
  next hextract =>
    simp only [hextract] at hopen
    split
    next hgas =>
      rw [if_pos hgas, toWait_closed] at hopen
      cases hopen
    next => rfl
  next => rfl

/-- At the start of an inhibit no valve to HYDRO stays open (R28). -/
theorem inhibitStart_hydro {s : State} {x : Port} (hsafe : s.PortSafe x) : x.inhibitStart.valve .hydro = false := by
  unfold Port.inhibitStart
  split
  next =>
    split
    next => exact toWait_closed _ _ _
    next hgas => exact Bool.eq_false_of_not_eq_true fun hopen => hgas (hsafe _ hopen).2.1
  next hstate => exact valve_closed_of_portSafe hsafe hstate _

theorem valvesSafe_inhibitBegins {s : State} (hs : s.ValvesSafe) (t : Timer) : (s.inhibitBegins t).ValvesSafe := by
  intro p c
  unfold State.inhibitBegins
  rw [eachPort_modPort_port]
  intro hopen
  cases c with
  | hydro =>
    have hclosed := inhibitStart_hydro (s := s) (hs p)
    rw [State.port_setLc, hclosed] at hopen
    cases hopen
  | halo =>
    have hsame := inhibitStart_halo hopen
    rw [hsame] at hopen ⊢
    obtain ⟨hextract, hgas, haccept, hrun, -⟩ := hs p .halo hopen
    refine ⟨hextract, hgas, ?_, ?_, fun h => by cases h⟩
    · simpa [State.eachPort, State.accepting] using haccept
    · simpa [State.eachPort] using hrun

theorem accepting_iff (s : State) (c : GasClass) : s.accepting c = true ↔ (s.rcv c).state = .accepting := by
  cases h : (s.rcv c).state <;> simp [State.accepting, h]

theorem valvesSafe_setRcv {s : State} (hs : s.ValvesSafe) {c : GasClass} {r : Receiver}
    (hstate : (s.rcv c).state = .accepting → r.state = .accepting) : (s.setRcv c r).ValvesSafe := by
  intro p
  have haccepting : ∀ d, s.accepting d = true → (s.setRcv c r).accepting d = true := by
    intro d haccept
    by_cases hd : d = c
    · subst hd
      simp only [accepting_iff, State.rcv_setRcv_self] at haccept ⊢
      exact hstate haccept
    · simpa [accepting_iff, State.rcv_setRcv, hd] using haccept
  rw [State.port_setRcv]
  exact portSafe_congr (hs p) haccepting (by simp) (by simp [State.inhibited])

theorem valvesSafe_reset (l : List Instr) (n : Nat) : ({ State.reset with pending := l, free := n } : State).ValvesSafe := by
  intro p c h
  cases p <;> cases c <;> cases h

theorem valvesSafe_elapse {s : State} (hs : s.ValvesSafe) (n : Nat) : (s.elapse n).ValvesSafe := by
  intro p
  have hport : s.PortSafe ((s.elapse n).port p) := by
    rw [State.port_elapse]
    exact portSafe_of_opensNothing (hs p) (opensNothing_of_same rfl ⟨rfl, rfl⟩ rfl)
  exact portSafe_congr hport (fun c h => by simpa using h) (by simp) (by simp)

theorem Part.valvesSafe {s u : State} (hs : s.ValvesSafe) (h : Part s u) : u.ValvesSafe := by
  cases h with
  | resets => exact valvesSafe_reset _ _
  | elapses n => exact valvesSafe_elapse hs n
  | moves h => exact h.valvesSafe hs
  | receiver c r _ hstate => exact valvesSafe_setRcv hs hstate
  | conditions x hpaused hinhibit =>
    intro p
    exact portSafe_congr (hs p) (fun c h => by simpa using h) (by simpa using hpaused) (by simpa [State.inhibited] using hinhibit)
  | port p x hopens =>
    exact valvesSafe_of_samePortsBut hs (fun q hq => State.port_setPort_ne hq x s) ⟨rfl, rfl, rfl⟩
      (by simpa using portSafe_of_opensNothing (hs p) hopens)
  | routes p =>
    exact valvesSafe_of_samePortsBut hs (route_samePortsBut p s) (by simp [State.SameSafety]) (portSafe_route (hs p))
  | pauses c => exact valvesSafe_pauseBegins hs c
  | inhibits t => exact valvesSafe_inhibitBegins hs t
  | _ => exact valvesSafe_congr hs (by simp) (by simp [State.SameSafety])

/-- Settles O58: a step is a run of acts, an act a run of parts, and each part keeps every port safe. -/
theorem everyStepKeepsTheReceiverValves : Obligations.EveryStepKeepsTheReceiverValves := fun _ _ hs hstep =>
  step_keeps (P := State.ValvesSafe) (fun _ _ _ h => h)
    (fun _ _ h hact => parts_keep (fun _ _ ht hpart => hpart.valvesSafe ht) h hact.parts) hs hstep

end Sys2Proof.Machine
end

section
/-! PROOFS. The analyser's paths and the bounds of the queues (O59): no path is open between two samples, and a sample opens the path
of its own port. -/

namespace Sys2Proof.Machine

/-! ### The queues (R88, R104) -/

theorem queuesBounded_congr {s u : State} (hs : s.QueuesBounded) (hline : u.line.queue.length ≤ s.line.queue.length)
    (hstore : u.store.queue = s.store.queue) : u.QueuesBounded := by
  obtain ⟨hframes, hreports⟩ := hs
  exact ⟨hline.trans hframes, hstore ▸ hreports⟩

theorem offerEntry_bounded (f : Frame) (n : Nat) {s : State} (hs : s.QueuesBounded) : (s.offerEntry f n).1.QueuesBounded := by
  obtain ⟨hframes, hreports⟩ := hs
  refine ⟨?_, by simpa using hreports⟩
  unfold State.offerEntry
  dsimp only
  split
  · split <;> simpa using offer_length _ _ hframes
  · exact hframes

theorem Move.queuesBounded {s u : State} (hs : s.QueuesBounded) (h : Move s u) : u.QueuesBounded := by
  cases h with
  | agent a => exact queuesBounded_congr hs (by simp) (by simp)
  | offers f n => exact offerEntry_bounded f n hs
  | raises e => exact queuesBounded_congr hs (by simp) (by simp)
  | receiverTold c r => exact queuesBounded_congr hs (by simp) (by simp)

theorem Part.queuesBounded {s u : State} (hs : s.QueuesBounded) (h : Part s u) : u.QueuesBounded := by
  cases h with
  | resets => exact ⟨Nat.zero_le _, Nat.zero_le _⟩
  | elapses n => exact hs
  | store x hqueue => exact ⟨hs.1, hqueue hs.2⟩
  | line x hqueue => exact queuesBounded_congr hs hqueue rfl
  | moves h => exact h.queuesBounded hs
  | pauses c => exact queuesBounded_congr hs (by simp [State.pauseBegins, State.eachPort]) (by simp [State.pauseBegins, State.eachPort])
  | inhibits t => exact queuesBounded_congr hs (by simp [State.inhibitBegins, State.eachPort]) (by simp [State.inhibitBegins, State.eachPort])
  | _ => exact queuesBounded_congr hs (by simp) (by simp)

/-! ### The paths (R59) -/

/-- No path is open. -/
def Analyser.NoPath (a : Analyser) : Prop := ∀ p, a.sampleV.get p = false ∧ a.sniffV.get p = false

/-- Outside the sample phase no path is open. -/
theorem noPath_of_pathsSafe {a : Analyser} (hsafe : a.PathsSafe) (hsample : ∀ p w, a.state ≠ .classifying p .sample w)
    (hsniff : ∀ p n, a.state ≠ .sniffing p .sample n) : a.NoPath := by
  obtain ⟨hopen, hsniffs, -⟩ := hsafe
  refine fun p => ⟨Bool.eq_false_of_not_eq_true fun h => ?_, Bool.eq_false_of_not_eq_true fun h => ?_⟩
  · obtain ⟨w, hw⟩ := hopen p h
    exact hsample p w hw
  · obtain ⟨n, hn⟩ := hsniffs p h
    exact hsniff p n hn

theorem pathsSafe_of_noPath {a : Analyser} (hpath : a.NoPath) (hpending : a.pendingSniff = false) : a.PathsSafe :=
  ⟨fun p h => by simp [(hpath p).1] at h, fun p h => by simp [(hpath p).2] at h, fun h => by simp [hpending] at h⟩

theorem get_set (p q : PortId) (b : Bool) (x : Quad Bool) : (x.set p b).get q = if q = p then b else x.get q := by
  cases p <;> cases q <;> rfl

theorem pathsSafe_openPath_sample {a : Analyser} (hpath : a.NoPath) (p : PortId) (ms : Nat) (hpending : a.pendingSniff = false)
    {w : Bool} (hstate : a.state = .classifying p .sample w) : (a.openPath p false ms).PathsSafe := by
  refine ⟨fun q h => ?_, fun q h => ?_, fun h => ?_⟩
  · obtain rfl : q = p := by
      by_contra hne
      simp [Analyser.openPath, get_set, hne, (hpath q).1] at h
    exact ⟨w, hstate⟩
  · simp [Analyser.openPath, (hpath q).2] at h
  · simp [Analyser.openPath, hpending] at h

theorem pathsSafe_openPath_sniff {a : Analyser} (hpath : a.NoPath) (p : PortId) (ms : Nat) (hpending : a.pendingSniff = false)
    {n : Option Nat} (hstate : a.state = .sniffing p .sample n) : (a.openPath p true ms).PathsSafe := by
  refine ⟨fun q h => ?_, fun q h => ?_, fun h => ?_⟩
  · simp [Analyser.openPath, (hpath q).1] at h
  · obtain rfl : q = p := by
      by_contra hne
      simp [Analyser.openPath, get_set, hne, (hpath q).2] at h
    exact ⟨n, hstate⟩
  · simp [Analyser.openPath, hpending] at h

theorem mayServe_idle {s : State} (h : s.mayServe = true) : s.ana.state = .idle := by
  unfold State.mayServe at h
  split at h
  · assumption
  · cases h

theorem pathsSafe_serve {s : State} (hs : s.ana.PathsSafe) : s.serve.ana.PathsSafe := by
  unfold State.serve
  split
  next hserve =>
    split
    next => exact hs
    next e rest _ =>
      have hidle := mayServe_idle hserve
      have hpath := noPath_of_pathsSafe hs (by simp [hidle]) (by simp [hidle])
      have hpending : s.ana.pendingSniff = false := Bool.eq_false_of_not_eq_true fun h => by simpa [hidle] using hs.2.2 h
      exact pathsSafe_openPath_sample (by exact hpath) _ _ (by exact hpending) (by rfl)
  next => exact hs

/-- A withdrawal closes paths and opens none. -/
theorem noPath_withdraw {a : Analyser} (hpath : a.NoPath) (p : PortId) : (a.withdraw p).NoPath := by
  have hclose : ∀ q, (a.sampleV.set p false).get q = false ∧ (a.sniffV.set p false).get q = false := fun q => by
    rw [get_set, get_set, (hpath q).1, (hpath q).2]
    simp
  unfold Analyser.withdraw
  dsimp only
  split
  · split
    · exact hclose
    · exact hpath
  · split <;> exact hpath
  · exact hpath

theorem pathsSafe_closePath {a b : Analyser} (p : PortId) (hs : a.PathsSafe) (hsample : b.sampleV = a.sampleV)
    (hsniff : b.sniffV = a.sniffV) (hstate : (∃ w, a.state = .classifying p .sample w) ∨ ∃ n, a.state = .sniffing p .sample n)
    (hruns : (∃ w, b.state = .classifying p .result w) ∨ ∃ n, b.state = .sniffing p .result n) : (b.closePath p).PathsSafe := by
  obtain ⟨hopen, hsniffs, -⟩ := hs
  have honly : ∀ q, ((∃ w, a.state = .classifying q .sample w) ∨ ∃ n, a.state = .sniffing q .sample n) → q = p := fun q hq => by
    rcases hstate with ⟨w, h⟩ | ⟨n, h⟩ <;> simp [h] at hq <;> simp [hq]
  have hclosed : (b.closePath p).NoPath := fun q => by
    simp only [Analyser.closePath, get_set, hsample, hsniff]
    split
    next => exact ⟨rfl, rfl⟩
    next hq =>
      exact ⟨Bool.eq_false_of_not_eq_true fun h => hq (honly q (.inl (hopen q h))),
        Bool.eq_false_of_not_eq_true fun h => hq (honly q (.inr (hsniffs q h)))⟩
  refine ⟨fun q h => by simp [(hclosed q).1] at h, fun q h => by simp [(hclosed q).2] at h, fun _ => ?_⟩
  rcases hruns with ⟨w, h⟩ | ⟨n, h⟩
  · exact .inl ⟨p, .result, w, h⟩
  · exact .inr ⟨p, .result, n, h⟩

theorem pathsSafe_withdraw {a : Analyser} (hs : a.PathsSafe) (p : PortId) : (a.withdraw p).PathsSafe := by
  unfold Analyser.withdraw
  dsimp only
  split
  next q w hstate =>
    split
    next hq =>
      subst hq
      exact pathsSafe_closePath q hs rfl rfl (.inl ⟨w, hstate⟩) (.inl ⟨true, rfl⟩)
    next => exact hs
  next q w hstate =>
    split
    next hq =>
      have hstate' : a.state = .classifying q .result w := hstate
      have hpath := noPath_of_pathsSafe hs (by simp [hstate']) (by simp [hstate'])
      exact ⟨fun r h => by simp [(hpath r).1] at h, fun r h => by simp [(hpath r).2] at h, fun _ => .inl ⟨q, .result, true, rfl⟩⟩
    next => exact hs
  next => exact hs

theorem pathsSafe_sampleOver {a : Analyser} (hs : a.PathsSafe) : a.sampleOver.PathsSafe := by
  unfold Analyser.sampleOver
  split
  next p w hstate => exact pathsSafe_closePath p hs rfl rfl (.inl ⟨w, hstate⟩) (.inl ⟨w, rfl⟩)
  next p n hstate => exact pathsSafe_closePath p hs rfl rfl (.inr ⟨n, hstate⟩) (.inr ⟨n, rfl⟩)
  next => exact hs

theorem pathsSafe_startSniff {s : State} (hpath : s.ana.NoPath) : s.startSniff.ana.PathsSafe := by
  unfold State.startSniff
  split
  · exact pathsSafe_openPath_sniff (by exact hpath) _ _ (by rfl) (by rfl)
  · exact pathsSafe_serve (pathsSafe_of_noPath hpath rfl)

theorem pathsSafe_analyserIdle {s : State} (hpath : s.ana.NoPath) : s.analyserIdle.ana.PathsSafe := by
  unfold State.analyserIdle
  dsimp only
  split
  next => exact pathsSafe_startSniff hpath
  next hpending => exact pathsSafe_serve (pathsSafe_of_noPath hpath (Bool.eq_false_of_not_eq_true hpending))

/-! ### The ports' withdrawals -/

theorem closeCase_ana (p : PortId) (res : CaseResult) (s : State) :
    (s.closeCase p res).ana = s.ana ∨ (s.closeCase p res).ana = s.ana.withdraw p := by
  unfold State.closeCase
  dsimp only
  split
  next => exact .inl rfl
  next =>
    by_cases hclassify : (s.port p).state = .classify
    · refine .inr ?_
      split <;> simp [State.withdraw]
    · refine .inl ?_
      split <;> simp

theorem quarantine_ana (p : PortId) (q : QReason) (s : State) :
    (s.quarantine p q).ana = s.ana ∨ (s.quarantine p q).ana = s.ana.withdraw p := by
  unfold State.quarantine
  dsimp only
  split
  · exact .inr (by simp [State.withdraw])
  · exact .inl (by simp)

theorem noPath_closeCase {s : State} (hpath : s.ana.NoPath) (p : PortId) (res : CaseResult) : (s.closeCase p res).ana.NoPath := by
  rcases closeCase_ana p res s with h | h <;> rw [h]
  · exact hpath
  · exact noPath_withdraw hpath p

theorem noPath_quarantine {s : State} (hpath : s.ana.NoPath) (p : PortId) (q : QReason) : (s.quarantine p q).ana.NoPath := by
  rcases quarantine_ana p q s with h | h <;> rw [h]
  · exact hpath
  · exact noPath_withdraw hpath p

theorem noPath_portClassify {s : State} (hpath : s.ana.NoPath) (p : PortId) (m : Measurement) :
    (s.portClassify p m).ana.NoPath := by
  unfold State.portClassify
  dsimp only
  split
  · split
    · simpa using hpath
    · simpa using hpath
    · exact noPath_quarantine (by simpa using hpath) p _
    · exact noPath_closeCase (by simpa using hpath) p _
  · exact hpath

theorem noPath_portSniff {s : State} (hpath : s.ana.NoPath) (p : PortId) (o : SniffOutcome) : (s.portSniff p o).ana.NoPath := by
  cases o with
  | clean => exact hpath
  | trace => exact hpath
  | leak =>
    unfold State.portSniff
    dsimp only
    split
    · exact hpath
    · exact noPath_quarantine (by simpa using hpath) p _

theorem hydroLeak_ana (s : State) : s.hydroLeak.ana = s.ana := by simp

theorem noPath_takeSniff {s : State} (hpath : s.ana.NoPath) (p : PortId) (noted : Option Nat) (halo hydro : Nat) :
    (s.takeSniff p noted halo hydro).ana.NoPath := by
  have htold : ∀ (b : Bool) o, (if b then s.portSniff p o else s).ana.NoPath := fun b o => by
    split
    · exact noPath_portSniff hpath p o
    · exact hpath
  have hflagged : ∀ (b : Bool) o, (if o = SniffOutcome.leak then (if b then s.portSniff p o else s).leakFound
      else if b then s.portSniff p o else s).ana.NoPath := fun b o => by
    split
    · simpa [State.leakFound, Analyser.NoPath] using htold b o
    · exact htold b o
  unfold State.takeSniff
  dsimp only
  split
  · rw [hydroLeak_ana]
    exact hflagged _ _
  · exact hflagged _ _

/-! ### The scheduler's acts -/

theorem pathsSafe_takeResult {s : State} (hs : s.ana.PathsSafe) (halo hydro : Word16) :
    (s.takeResult halo hydro).ana.PathsSafe := by
  unfold State.takeResult
  dsimp only
  split
  next p w hstate =>
    have hpath : s.ana.NoPath := noPath_of_pathsSafe hs (by simp [hstate]) (by simp [hstate])
    refine pathsSafe_analyserIdle ?_
    split
    · exact hpath
    · exact noPath_portClassify (by exact hpath) p _
  next p n hstate =>
    have hpath : s.ana.NoPath := noPath_of_pathsSafe hs (by simp [hstate]) (by simp [hstate])
    exact pathsSafe_analyserIdle (noPath_takeSniff (by exact hpath) p n _ _)
  next => exact hs

theorem noPath_of_awaitsResult {a : Analyser} (hs : a.PathsSafe) (hawaits : a.state.awaitsResult = true) : a.NoPath :=
  noPath_of_pathsSafe hs (fun p w h => by simp [h, AnalyserState.awaitsResult] at hawaits)
    (fun p n h => by simp [h, AnalyserState.awaitsResult] at hawaits)

theorem pathsSafe_analyserFaults {s : State} (hpath : s.ana.NoPath) : s.analyserFaults.ana.PathsSafe := by
  unfold State.analyserFaults
  dsimp only
  split
  next => exact pathsSafe_of_noPath (by simpa [Analyser.NoPath, Analyser.skipSniff] using hpath) rfl
  next hpending =>
    refine pathsSafe_of_noPath (by simpa [Analyser.NoPath] using hpath) (Bool.eq_false_of_not_eq_true hpending)

theorem noPath_putBack {a : Analyser} (hpath : a.NoPath) : a.putBack.NoPath := by
  unfold Analyser.putBack
  split <;> exact hpath

theorem pathsSafe_timedOut {s : State} (hs : s.ana.PathsSafe) (hawaits : s.ana.state.awaitsResult = true) :
    s.timedOut.ana.PathsSafe := by
  have hpath := noPath_putBack (noPath_of_awaitsResult hs hawaits)
  unfold State.timedOut
  dsimp only
  split
  · exact pathsSafe_analyserIdle hpath
  · exact pathsSafe_analyserFaults hpath

theorem pathsSafe_sniffIsDue {s : State} (hs : s.ana.PathsSafe) : s.sniffIsDue.ana.PathsSafe := by
  obtain ⟨hsample, hsniff, -⟩ := id hs
  unfold State.sniffIsDue
  dsimp only
  split
  next hidle => exact pathsSafe_startSniff (noPath_of_pathsSafe hs (by simp [hidle]) (by simp [hidle]))
  next p ph w hstate => exact ⟨hsample, hsniff, fun _ => .inl ⟨p, ph, w, hstate⟩⟩
  next p ph n hstate => exact ⟨hsample, hsniff, fun _ => .inr ⟨p, ph, n, hstate⟩⟩
  next hstate =>
    have hpath := noPath_of_pathsSafe hs (by simp [hstate]) (by simp [hstate])
    exact pathsSafe_of_noPath (by exact hpath) (by rfl)
  next hstate =>
    have hpath := noPath_of_pathsSafe hs (by simp [hstate]) (by simp [hstate])
    exact pathsSafe_of_noPath (by exact hpath) (by rfl)

theorem Move.ana {s u : State} (h : Move s u) : u.ana = s.ana := by
  cases h <;> simp

theorem Moves.ana {s u : State} (h : Moves s u) : u.ana = s.ana :=
  moves_keep (P := fun t => t.ana = s.ana) (fun _ _ ht hmove => hmove.ana.trans ht) rfl h

theorem clash_ana (s : State) : s.clash.ana = s.ana := by
  by_cases hclash : s.line.clash = true
  · rw [State.clash, if_pos hclash]
    rfl
  · exact (moves_of_clashBegins s (Bool.eq_false_of_not_eq_true hclash)).ana

theorem takeReport_ana (s : State) : s.takeReport.1.ana = s.ana := by
  unfold State.takeReport
  split
  · rfl
  · unfold State.releaseWaiting
    split
    · rfl
    · split <;> simp

theorem Act.pathsSafe {s u : State} (hs : s.ana.PathsSafe) (h : Act s u) : u.ana.PathsSafe := by
  cases h with
  | resets => exact resetStateIsSafe.2.2.2.1
  | elapses n => exact hs
  | classifies p => exact pathsSafe_serve (by exact hs)
  | quarantines p q =>
    rcases quarantine_ana p q s with h | h <;> rw [h]
    · exact hs
    · exact pathsSafe_withdraw hs p
  | closes p res =>
    rcases closeCase_ana p res s with h | h <;> rw [h]
    · exact hs
    · exact pathsSafe_withdraw hs p
  | serves => exact pathsSafe_serve hs
  | readies hasleep =>
    have hpath := noPath_of_pathsSafe hs (fun p w h => by simp [h] at hasleep) (fun p n h => by simp [h] at hasleep)
    exact pathsSafe_analyserIdle hpath
  | results halo hydro => exact pathsSafe_takeResult hs halo hydro
  | sampleEnds => exact pathsSafe_sampleOver hs
  | timesOut hawaits => exact pathsSafe_timedOut hs hawaits
  | warns b => exact hs
  | sniffComesDue => exact pathsSafe_sniffIsDue hs
  | leakForgotten => exact hs
  | clashes => simpa [clash_ana] using hs
  | byAgent h => simpa [h.moves.ana] using hs
  | portStarts p => simpa [State.startPort] using hs
  | caseCreated p r => simpa [State.createCase] using hs
  | reportTaken => simpa [takeReport_ana] using hs
  | _ => simpa using hs

/-- Settles O59: an act keeps the paths safe by what it does to the scheduler, and each of its parts keeps the queues bounded. -/
theorem everyStepKeepsPathsAndQueues : Obligations.EveryStepKeepsPathsAndQueues := fun _ _ hpaths hqueues hstep =>
  step_keeps (P := fun s => s.ana.PathsSafe ∧ s.QueuesBounded) (fun _ _ _ h => h)
    (fun _ _ h hact => ⟨hact.pathsSafe h.1, parts_keep (fun _ _ ht hpart => hpart.queuesBounded ht) h.2 hact.parts⟩)
    ⟨hpaths, hqueues⟩ hstep

end Sys2Proof.Machine
end

section
/-! PROOFS. The header outputs (O57). What is kept splits into the agent's own part (a class is sought outside IDLE, an output is up
only in its state), what the station's conditions ask, and the view that names the class that flows. An agent that leaves a state with
its outputs shut lands in one that keeps all three. -/

namespace Sys2Proof.Machine

/-! ### The three parts -/

/-- Both discharge valves closed and both selectors released. -/
def Agent.OutputsShut (a : Agent) : Prop := ∀ c, a.disch c = false ∧ a.sel c = false

/-- The agent's own part of R138. -/
structure Agent.DutyHolds (a : Agent) : Prop where
  seeks : a.dstate = .idle ↔ a.sought = none
  selects : ∀ c, a.sel c = a.disch c
  flows : ∀ c, a.disch c = true → a.dstate = .flowing ∧ a.sought = some c
  purges : a.purgeV = true → a.dstate = .purging

/-- What pause, clash and inhibit ask of the agent (R135 to R137). -/
structure State.ConditionsKept (s : State) : Prop where
  paused : s.lc.paused = true → s.agent.dstate = .idle
  clash : s.line.clash = true → s.agent.dstate = .idle
  inhibit : s.inhibited = true → s.agent.sought ≠ some .hydro

/-- The view names the class that flows (R130). -/
def Agent.ViewHolds (a : Agent) : Prop := a.dstate = .flowing → a.viewClass = a.sought

theorem outputsSafe_iff (s : State) :
    s.OutputsSafe ↔ s.agent.DutyHolds ∧ s.ConditionsKept ∧ s.agent.ViewHolds := by
  constructor
  · intro ⟨hseeks, hselects, hflows, hpurges, hpaused, hclash, hinhibit, hview⟩
    exact ⟨⟨hseeks, hselects, fun c h => ⟨(hflows c h).1, (hflows c h).2.1⟩, hpurges⟩, ⟨hpaused, hclash, hinhibit⟩, hview⟩
  · intro ⟨⟨hseeks, hselects, hflows, hpurges⟩, ⟨hpaused, hclash, hinhibit⟩, hview⟩
    refine ⟨hseeks, hselects, fun c h => ?_, hpurges, hpaused, hclash, hinhibit, hview⟩
    obtain ⟨hflowing, hsought⟩ := hflows c h
    exact ⟨hflowing, hsought, (hview hflowing).trans hsought⟩

theorem outputsShut_of_not_flowing {a : Agent} (h : a.DutyHolds) (hstate : a.dstate ≠ .flowing) : a.OutputsShut := fun c => by
  have hclosed : a.disch c = false := Bool.eq_false_of_not_eq_true fun hopen => hstate (h.flows c hopen).1
  exact ⟨hclosed, (h.selects c).trans hclosed⟩

theorem purgeV_of_not_purging {a : Agent} (h : a.DutyHolds) (hstate : a.dstate ≠ .purging) : a.purgeV = false :=
  Bool.eq_false_of_not_eq_true fun hopen => hstate (h.purges hopen)

theorem viewHolds_of_not_flowing {a : Agent} (hstate : a.dstate ≠ .flowing) : a.ViewHolds := fun h => absurd h hstate

theorem dutyHolds_of_shut {a : Agent} (hshut : a.OutputsShut) (hseeks : a.dstate = .idle ↔ a.sought = none)
    (hpurges : a.purgeV = true → a.dstate = .purging) : a.DutyHolds :=
  ⟨hseeks, fun c => by rw [(hshut c).1, (hshut c).2], fun c h => by simp [(hshut c).1] at h, hpurges⟩

theorem outputsShut_of_frame {a b : Agent} (hshut : a.OutputsShut)
    (hsame : b.dischH = a.dischH ∧ b.dischK = a.dischK ∧ b.selH = a.selH ∧ b.selK = a.selK) : b.OutputsShut := by
  obtain ⟨hdischH, hdischK, hselH, hselK⟩ := hsame
  intro c
  cases c
  · exact ⟨hdischH.trans (hshut .halo).1, hselH.trans (hshut .halo).2⟩
  · exact ⟨hdischK.trans (hshut .hydro).1, hselK.trans (hshut .hydro).2⟩

theorem shut_outputsShut (a : Agent) : a.shut.OutputsShut := fun c => by cases c <;> exact ⟨rfl, rfl⟩

/-- The conditions of the station are the same. -/
def State.SameConditions (s u : State) : Prop := u.lc = s.lc ∧ u.line.clash = s.line.clash

theorem SameConditions.trans {s t u : State} (hst : s.SameConditions t) (htu : t.SameConditions u) : s.SameConditions u :=
  ⟨htu.1.trans hst.1, htu.2.trans hst.2⟩

/-- The agent works for a class in RUN, outside clash, and with no inhibit against the class. -/
structure State.MaySeek (s : State) (c : GasClass) : Prop where
  runs : s.lc.paused = false
  speaks : s.line.clash = false
  allowed : s.inhibited = true → c ≠ .hydro

theorem conditionsKept_of_maySeek {s u : State} {c : GasClass} (hsame : s.SameConditions u) (hseek : s.MaySeek c)
    (hsought : u.agent.sought = some c) : u.ConditionsKept := by
  obtain ⟨hlc, hclash⟩ := hsame
  obtain ⟨hrun, hspeak, hallowed⟩ := hseek
  refine ⟨fun h => by simp [hlc, hrun] at h, fun h => by simp [hclash, hspeak] at h, fun h => ?_⟩
  have hactive : s.inhibited = true := by simpa [State.inhibited, hlc] using h
  simpa [hsought] using hallowed hactive

/-- An agent outside IDLE that keeps the conditions may seek its class. -/
theorem maySeek_of_conditionsKept {s : State} {c : GasClass} (h : s.ConditionsKept) (hstate : s.agent.dstate ≠ .idle)
    (hsought : s.agent.sought = some c) : s.MaySeek c :=
  ⟨Bool.eq_false_of_not_eq_true fun hp => hstate (h.paused hp), Bool.eq_false_of_not_eq_true fun hp => hstate (h.clash hp),
    fun hi hc => h.inhibit hi (hc ▸ hsought)⟩

theorem maySeek_congr {s u : State} {c : GasClass} (hsame : s.SameConditions u) (h : s.MaySeek c) : u.MaySeek c := by
  obtain ⟨hlc, hclash⟩ := hsame
  exact ⟨by simpa [hlc] using h.runs, by simpa [hclash] using h.speaks, by simpa [State.inhibited, hlc] using h.allowed⟩

/-! ### Where the ways between the states land -/

/-- The agent lands for a class in a state other than IDLE and FLOWING, its discharge outputs shut, PURGE up in PURGING alone. -/
structure State.Lands (s u : State) (c : GasClass) : Prop where
  same : s.SameConditions u
  sought : u.agent.sought = some c
  state : u.agent.dstate ≠ .idle ∧ u.agent.dstate ≠ .flowing
  shut : u.agent.OutputsShut
  purges : u.agent.purgeV = true → u.agent.dstate = .purging

theorem dutyHolds_of_lands {s u : State} {c : GasClass} (h : s.Lands u c) : u.agent.DutyHolds :=
  dutyHolds_of_shut h.shut ⟨fun hidle => absurd hidle h.state.1, fun hnone => by simp [h.sought] at hnone⟩ h.purges

theorem outputsSafe_of_lands {s u : State} {c : GasClass} (h : s.Lands u c) (hseek : s.MaySeek c) : u.OutputsSafe :=
  (outputsSafe_iff u).mpr ⟨dutyHolds_of_lands h, conditionsKept_of_maySeek h.same hseek h.sought,
    viewHolds_of_not_flowing h.state.2⟩

theorem Lands.congr {s t u : State} {c : GasClass} (hsame : s.SameConditions t) (h : t.Lands u c) : s.Lands u c :=
  { h with same := SameConditions.trans hsame h.same }

/-- The outputs are shut and PURGE is closed. -/
def Agent.AllShut (a : Agent) : Prop := a.OutputsShut ∧ a.purgeV = false

theorem allShut_of_dutyHolds {a : Agent} (h : a.DutyHolds) (hflowing : a.dstate ≠ .flowing) (hpurging : a.dstate ≠ .purging) :
    a.AllShut :=
  ⟨outputsShut_of_not_flowing h hflowing, purgeV_of_not_purging h hpurging⟩

theorem lands_toBackoff {s : State} {c : GasClass} (hshut : s.agent.AllShut) (hsought : s.agent.sought = some c) (long : Bool) :
    s.Lands (s.toBackoff long) c where
  same := by simp [State.SameConditions]
  sought := by simp [State.toBackoff, hsought]
  state := by simp [State.toBackoff]
  shut := outputsShut_of_frame hshut.1 (by simp)
  purges := by simp [State.toBackoff, hshut.2]

theorem lands_toWaiting {s : State} {c : GasClass} (hshut : s.agent.AllShut) (hsought : s.agent.sought = some c) :
    s.Lands s.toWaiting c where
  same := by simp [State.SameConditions]
  sought := by simp [State.toWaiting, hsought]
  state := by simp [State.toWaiting]
  shut := outputsShut_of_frame hshut.1 (by simp)
  purges := by simp [State.toWaiting, hshut.2]

theorem lands_toDrain {s : State} {c : GasClass} (hshut : s.agent.AllShut) (hsought : s.agent.sought = some c) :
    s.Lands s.toDrain c := by
  unfold State.toDrain
  split
  next => exact lands_toWaiting hshut hsought
  next =>
    exact {
      same := by simp [State.SameConditions]
      sought := by simp [hsought]
      state := by simp
      shut := outputsShut_of_frame hshut.1 (by simp)
      purges := by simp [hshut.2] }

/-- The agent as it enters a listen window (R120, R124). -/
def Agent.listens (u : Purpose) (c : GasClass) (key : Nat) (a : Agent) : Agent :=
  { a.goTo (match u with | .flow => .listenFlow | .purge => .listenPurge) with
    sought := some c, key := key, contended := false, reserved := true, entry := a.entry + 1 }

/-- A listen window is entered, its INTENT offered and the change told. -/
def State.listenTold (u : Purpose) (c : GasClass) (s : State) : State :=
  ((s.setAgent (s.agent.listens u c (s.band c))).offerEntry (.intent u c (s.band c)) (s.agent.entry + 1)).1.noticeChange
    s.agent.dstate

/-- An INTENT lost at once sends the agent on to BACKOFF (R120, R124). -/
theorem toListen_cases (u : Purpose) (c : GasClass) (s : State) :
    s.toListen u c = s.listenTold u c ∨ s.toListen u c = (s.listenTold u c).toBackoff false := by
  unfold State.toListen
  dsimp only
  split
  · exact .inl rfl
  · exact .inr rfl
  · exact .inr rfl

@[simp] theorem listenTold_agent (u : Purpose) (c : GasClass) (s : State) :
    (s.listenTold u c).agent = s.agent.listens u c (s.band c) := by
  simp [State.listenTold]

@[simp] theorem listenTold_conditions (u : Purpose) (c : GasClass) (s : State) : s.SameConditions (s.listenTold u c) := by
  simp [State.listenTold, State.SameConditions]

theorem listens_allShut {a : Agent} (hshut : a.AllShut) (u : Purpose) (c : GasClass) (key : Nat) : (a.listens u c key).AllShut :=
  ⟨outputsShut_of_frame hshut.1 ⟨rfl, rfl, rfl, rfl⟩, hshut.2⟩

theorem lands_listenTold {s : State} (hshut : s.agent.AllShut) (u : Purpose) (c : GasClass) : s.Lands (s.listenTold u c) c where
  same := listenTold_conditions u c s
  sought := by simp [Agent.listens]
  state := by cases u <;> simp [Agent.listens]
  shut := by simpa using (listens_allShut hshut u c _).1
  purges := by simp [(listens_allShut hshut u c _).2]

theorem lands_toListen {s : State} (hshut : s.agent.AllShut) (u : Purpose) (c : GasClass) : s.Lands (s.toListen u c) c := by
  have htold := lands_listenTold hshut u c
  rcases toListen_cases u c s with h | h <;> rw [h]
  · exact htold
  · exact Lands.congr htold.same
      (lands_toBackoff (by simpa using listens_allShut hshut u c _) htold.sought false)

/-! ### IDLE (R119) -/

theorem outputsSafe_of_idle {s : State} (hshut : s.agent.AllShut) (hidle : s.agent.dstate = .idle)
    (hsought : s.agent.sought = none) : s.OutputsSafe :=
  (outputsSafe_iff s).mpr
    ⟨dutyHolds_of_shut hshut.1 (by simp [hidle, hsought]) (by simp [hshut.2]), ⟨fun _ => hidle, fun _ => hidle, by simp [hsought]⟩,
      viewHolds_of_not_flowing (by simp [hidle])⟩

/-- R119 chooses no receiver that is barred. -/
theorem chosen_eligible {s : State} {c : GasClass} (h : s.chosen = some c) : s.eligible c = true := by
  unfold State.chosen at h
  cases hhalo : s.eligible .halo <;> cases hhydro : s.eligible .hydro <;> simp only [hhalo, hhydro] at h
  · cases h
  · rw [← Option.some.inj h]
    exact hhydro
  · rw [← Option.some.inj h]
    exact hhalo
  · cases c
    · exact hhalo
    · exact hhydro

theorem maySeek_of_chosen {s : State} {c : GasClass} (hrun : s.lc.paused = false) (hspeak : s.line.clash = false)
    (h : s.chosen = some c) : s.MaySeek c := by
  refine ⟨hrun, hspeak, fun hi hc => ?_⟩
  have := chosen_eligible h
  simp [State.eligible, hc, hi] at this

theorem outputsSafe_idleCheck_of_idle {s : State} (hshut : s.agent.AllShut) (hidle : s.agent.dstate = .idle)
    (hsought : s.agent.sought = none) : s.idleCheck.OutputsSafe := by
  have hs := outputsSafe_of_idle hshut hidle hsought
  unfold State.idleCheck
  split
  next hmay =>
    obtain ⟨-, hrun, hspeak, -⟩ := hmay
    split
    next c hc => exact outputsSafe_of_lands (lands_toListen hshut .flow c) (maySeek_of_chosen hrun hspeak hc)
    next => exact hs
  next => exact hs

/-- The check of R119 touches an agent in IDLE alone. -/
theorem idleCheck_eq_self {s : State} (hstate : s.agent.dstate ≠ .idle) : s.idleCheck = s :=
  if_neg fun h => hstate h.1

theorem outputsSafe_idleCheck {s : State} (hs : s.OutputsSafe) : s.idleCheck.OutputsSafe := by
  obtain ⟨hduty, -, -⟩ := (outputsSafe_iff s).mp hs
  by_cases hidle : s.agent.dstate = .idle
  · exact outputsSafe_idleCheck_of_idle (allShut_of_dutyHolds hduty (by simp [hidle]) (by simp [hidle])) hidle
      (hduty.seeks.mp hidle)
  · rwa [idleCheck_eq_self hidle]

/-- Arrival in IDLE, from wherever, with everything shut. -/
theorem outputsSafe_toIdle {s : State} (hshut : s.agent.AllShut) : s.toIdle.OutputsSafe := by
  refine outputsSafe_idleCheck_of_idle ⟨outputsShut_of_frame hshut.1 (by simp), ?_⟩ (by simp) (by simp)
  simpa using hshut.2

/-- An agent with everything shut goes on: to IDLE, or for a class it may seek to BACKOFF. -/
theorem outputsSafe_goNext {s : State} {c : GasClass} (hshut : s.agent.AllShut) (hsought : s.agent.sought = some c)
    (n : NextState) (hseek : n ≠ .idle → s.MaySeek c) : (s.goNext n).OutputsSafe := by
  cases n with
  | idle => exact outputsSafe_toIdle hshut
  | backoff => exact outputsSafe_of_lands (lands_toBackoff hshut hsought false) (hseek (by simp))
  | longBackoff => exact outputsSafe_of_lands (lands_toBackoff hshut hsought true) (hseek (by simp))

/-! ### The ends of a flow and of a purge (R127, R130) -/

/-- A flow has ended but for the next state. -/
def State.flowEnded (conflictHold sendOff : Bool) (c : GasClass) (s : State) : State :=
  let s1 := s.setAgent s.agent.shut
  let s2 := if conflictHold then s1.offerHoldOnly .all .conflict else s1
  let s3 := s2.receiverFlowEnd c
  if sendOff then s3.offer (.flowOff c) else s3

theorem endFlow_eq {s : State} {c : GasClass} (hsought : s.agent.sought = some c) (conflictHold sendOff : Bool) (n : NextState) :
    s.endFlow conflictHold sendOff n = (s.flowEnded conflictHold sendOff c).goNext n := by
  unfold State.endFlow
  rw [hsought]
  rfl

/-- A purge has been aborted but for the next state. -/
def State.purgeAborted (conflictHold sendDone : Bool) (s : State) : State :=
  let s1 := s.setAgent
    { s.agent with purgeV := false, purge := .stopped, viewClass := none, viewSerial := s.agent.purgeSerial, owner := none }
  let s2 := if conflictHold then s1.offerHoldOnly .all .conflict else s1
  if sendDone then s2.offer (.purgeDone none s.agent.purgeSerial) else s2

theorem abortPurge_eq (conflictHold sendDone : Bool) (n : NextState) (s : State) :
    s.abortPurge conflictHold sendDone n = (s.purgeAborted conflictHold sendDone).goNext n := rfl

theorem flowEnded_agent (conflictHold sendOff : Bool) (c : GasClass) (s : State) :
    (s.flowEnded conflictHold sendOff c).agent = if conflictHold then s.agent.shut.setHold .all else s.agent.shut := by
  unfold State.flowEnded
  cases conflictHold <;> cases sendOff <;> simp [State.offerHoldOnly]

theorem flowEnded_conditions (conflictHold sendOff : Bool) (c : GasClass) (s : State) :
    s.SameConditions (s.flowEnded conflictHold sendOff c) := by
  unfold State.flowEnded State.SameConditions
  cases conflictHold <;> cases sendOff <;> simp

theorem purgeAborted_agent (conflictHold sendDone : Bool) (s : State) :
    (s.purgeAborted conflictHold sendDone).agent =
      (let a : Agent :=
        { s.agent with purgeV := false, purge := .stopped, viewClass := none, viewSerial := s.agent.purgeSerial, owner := none }
      if conflictHold then a.setHold .all else a) := by
  unfold State.purgeAborted
  cases conflictHold <;> cases sendDone <;> simp [State.offerHoldOnly]

theorem purgeAborted_conditions (conflictHold sendDone : Bool) (s : State) :
    s.SameConditions (s.purgeAborted conflictHold sendDone) := by
  unfold State.purgeAborted State.SameConditions
  cases conflictHold <;> cases sendDone <;> simp

/-- A flow that ends shuts its outputs. -/
theorem flowEnded_allShut {s : State} (hpurge : s.agent.purgeV = false) (conflictHold sendOff : Bool) (c : GasClass) :
    (s.flowEnded conflictHold sendOff c).agent.AllShut := by
  rw [flowEnded_agent]
  split
  · exact ⟨outputsShut_of_frame (shut_outputsShut s.agent) (by simp), by simpa using hpurge⟩
  · exact ⟨shut_outputsShut s.agent, by simpa using hpurge⟩

theorem purgeAborted_allShut {s : State} (hshut : s.agent.OutputsShut) (conflictHold sendDone : Bool) :
    (s.purgeAborted conflictHold sendDone).agent.AllShut := by
  rw [purgeAborted_agent]
  dsimp only
  split
  · exact ⟨outputsShut_of_frame hshut (by simp), by simp⟩
  · exact ⟨outputsShut_of_frame hshut (by simp), rfl⟩

theorem flowEnded_sought (conflictHold sendOff : Bool) (c : GasClass) (s : State) :
    (s.flowEnded conflictHold sendOff c).agent.sought = s.agent.sought := by
  rw [flowEnded_agent]
  split <;> simp

theorem purgeAborted_sought (conflictHold sendDone : Bool) (s : State) :
    (s.purgeAborted conflictHold sendDone).agent.sought = s.agent.sought := by
  rw [purgeAborted_agent]
  dsimp only
  split <;> simp

/-- The end of a flow: to IDLE always, to BACKOFF where the agent may seek. -/
theorem outputsSafe_endFlow {s : State} {c : GasClass} (hduty : s.agent.DutyHolds) (hflowing : s.agent.dstate = .flowing)
    (hsought : s.agent.sought = some c) (conflictHold sendOff : Bool) (n : NextState) (hseek : n ≠ .idle → s.MaySeek c) :
    (s.endFlow conflictHold sendOff n).OutputsSafe := by
  rw [endFlow_eq hsought]
  refine outputsSafe_goNext (flowEnded_allShut (purgeV_of_not_purging hduty (by simp [hflowing])) _ _ _)
    ((flowEnded_sought _ _ _ _).trans hsought) n fun hn => ?_
  exact maySeek_congr (flowEnded_conditions _ _ _ _) (hseek hn)

theorem outputsSafe_abortPurge {s : State} {c : GasClass} (hduty : s.agent.DutyHolds) (hpurging : s.agent.dstate = .purging)
    (hsought : s.agent.sought = some c) (conflictHold sendDone : Bool) (n : NextState) (hseek : n ≠ .idle → s.MaySeek c) :
    (s.abortPurge conflictHold sendDone n).OutputsSafe := by
  rw [abortPurge_eq]
  refine outputsSafe_goNext (purgeAborted_allShut (outputsShut_of_not_flowing hduty (by simp [hpurging])) _ _)
    ((purgeAborted_sought _ _ _).trans hsought) n fun hn => ?_
  exact maySeek_congr (purgeAborted_conditions _ _ _) (hseek hn)

/-- An agent that stops arrives in IDLE, whatever the conditions have become (R135 to R137). -/
theorem outputsSafe_agentStop {s : State} (hduty : s.agent.DutyHolds) (frames : Bool) : (s.agentStop frames).OutputsSafe := by
  have hidle : s.agent.dstate ≠ .flowing → s.agent.dstate ≠ .purging → s.toIdle.OutputsSafe := fun hf hp =>
    outputsSafe_toIdle (allShut_of_dutyHolds hduty hf hp)
  have hsought : s.agent.dstate ≠ .idle → ∃ c, s.agent.sought = some c := fun h =>
    Option.ne_none_iff_exists'.mp fun hnone => h (hduty.seeks.mpr hnone)
  unfold State.agentStop
  split
  next h => exact outputsSafe_of_idle (allShut_of_dutyHolds hduty (by simp [h]) (by simp [h])) h (hduty.seeks.mp h)
  next h =>
    obtain ⟨c, hc⟩ := hsought (by simp [h])
    exact outputsSafe_endFlow hduty h hc _ _ _ (by simp)
  next h =>
    obtain ⟨c, hc⟩ := hsought (by simp [h])
    exact outputsSafe_abortPurge hduty h hc _ _ _ (by simp)
  all_goals
    next h => exact hidle (by simp [h]) (by simp [h])

end Sys2Proof.Machine
end

section
/-! PROOFS. Every act keeps the header outputs as R138 has them (O57). -/

namespace Sys2Proof.Machine

/-! ### The start of a flow and of a purge (R126, R129) -/

/-- A flow has begun but for a done notice taken at its start. -/
def State.flowBegun (c : GasClass) (s : State) : State :=
  let s2 := (s.receiverFlowStart c).1.setAgent ({ s.agent.goTo .flowing with sought := some c } : Agent).shut
  let s3 := s2.setAgent (s2.agent.flowOut c)
  (s3.offer (.flowOn c s3.agent.viewSerial)).noticeChange s.agent.dstate

theorem startFlow_cases (c : GasClass) (s : State) :
    s.startFlow c = s.toIdle ∨ s.startFlow c = s.flowBegun c ∨ s.startFlow c = (s.flowBegun c).endFlow false true .idle := by
  unfold State.startFlow
  dsimp only
  split
  · exact .inl rfl
  · refine .inr ?_
    split
    · exact .inr rfl
    · exact .inl rfl

@[simp] theorem flowBegun_agent (c : GasClass) (s : State) :
    (s.flowBegun c).agent = (({ s.agent.goTo .flowing with sought := some c } : Agent).shut).flowOut c := by
  simp [State.flowBegun]

theorem flowBegun_conditions (c : GasClass) (s : State) : s.SameConditions (s.flowBegun c) := by
  simp [State.flowBegun, State.SameConditions]

theorem flowOut_disch {a : Agent} {c d : GasClass} (h : (a.flowOut c).disch d = true) : d = c := by
  cases c <;> cases d <;> simp_all [Agent.flowOut, Agent.disch]

theorem flowOut_sel (c d : GasClass) (a : Agent) : (a.flowOut c).sel d = (a.flowOut c).disch d := by
  cases c <;> cases d <;> rfl

@[simp] theorem flowOut_duty (c : GasClass) (a : Agent) :
    (a.flowOut c).dstate = a.dstate ∧ (a.flowOut c).sought = a.sought ∧ (a.flowOut c).viewClass = a.viewClass ∧
      (a.flowOut c).purgeV = a.purgeV := by
  cases c <;> exact ⟨rfl, rfl, rfl, rfl⟩

theorem dutyHolds_flowBegun {s : State} (hpurge : s.agent.purgeV = false) (c : GasClass) : (s.flowBegun c).agent.DutyHolds := by
  rw [flowBegun_agent]
  refine ⟨by simp, fun d => flowOut_sel c d _, fun d h => ?_, by simp [hpurge]⟩
  rw [flowOut_disch h]
  simp

theorem outputsSafe_flowBegun {s : State} {c : GasClass} (hshut : s.agent.AllShut) (hview : s.agent.viewClass = some c)
    (hseek : s.MaySeek c) : (s.flowBegun c).OutputsSafe :=
  (outputsSafe_iff _).mpr ⟨dutyHolds_flowBegun hshut.2 c,
    conditionsKept_of_maySeek (flowBegun_conditions c s) hseek (by simp), fun _ => by simp [hview]⟩

theorem outputsSafe_startFlow {s : State} {c : GasClass} (hshut : s.agent.AllShut) (hview : s.agent.viewClass = some c)
    (hseek : s.MaySeek c) : (s.startFlow c).OutputsSafe := by
  rcases startFlow_cases c s with h | h | h <;> rw [h]
  · exact outputsSafe_toIdle hshut
  · exact outputsSafe_flowBegun hshut hview hseek
  · exact outputsSafe_endFlow (c := c) (dutyHolds_flowBegun hshut.2 c) (by simp) (by simp) _ _ _ (by simp)

/-- The agent as it begins to purge (R126). -/
def Agent.purgesFor (own : Address) (ms : Nat) (a : Agent) : Agent :=
  { (a.goTo .purging).shut with
    purgeSerial := a.viewSerial + 1, purgeV := true, owner := some own, viewClass := none, purge := .running ms }

/-- A purge has begun, its PURGE_START offered and the change told. -/
def State.purgeTold (c : GasClass) (s : State) : State :=
  ((s.setAgent (s.agent.purgesFor s.cfg.address (s.cfg.header.purgeS * 1000))).offerEntry
    (.purgeStart c (s.agent.viewSerial + 1)) 0).1.noticeChange s.agent.dstate

/-- A PURGE_START lost at once aborts the purge (R127). -/
theorem toPurging_cases {s : State} {c : GasClass} (hsought : s.agent.sought = some c) :
    s.toPurging = s.purgeTold c ∨ s.toPurging = (s.purgeTold c).abortPurge false true .backoff := by
  unfold State.toPurging
  rw [hsought]
  dsimp only
  split
  · exact .inl rfl
  · exact .inr rfl
  · exact .inr rfl

@[simp] theorem purgeTold_agent (c : GasClass) (s : State) :
    (s.purgeTold c).agent = s.agent.purgesFor s.cfg.address (s.cfg.header.purgeS * 1000) := by
  simp [State.purgeTold]

theorem lands_purgeTold {s : State} {c : GasClass} (hsought : s.agent.sought = some c) : s.Lands (s.purgeTold c) c where
  same := by simp [State.purgeTold, State.SameConditions]
  sought := by simpa [Agent.purgesFor] using hsought
  state := by simp [Agent.purgesFor]
  shut := by
    rw [purgeTold_agent]
    exact outputsShut_of_frame (shut_outputsShut (s.agent.goTo .purging)) ⟨rfl, rfl, rfl, rfl⟩
  purges := by simp [Agent.purgesFor]

theorem outputsSafe_toPurging {s : State} {c : GasClass} (hsought : s.agent.sought = some c) (hseek : s.MaySeek c) :
    s.toPurging.OutputsSafe := by
  have htold := lands_purgeTold (s := s) hsought
  rcases toPurging_cases hsought with h | h <;> rw [h]
  · exact outputsSafe_of_lands htold hseek
  · exact outputsSafe_abortPurge (dutyHolds_of_lands htold) (by simp [Agent.purgesFor]) htold.sought _ _ _
      fun _ => maySeek_congr htold.same hseek

/-! ### An agent at work -/

/-- The agent is outside IDLE, seeks a class that it may seek, and has everything shut. -/
structure State.AtWork (s : State) (c : GasClass) : Prop where
  sought : s.agent.sought = some c
  seek : s.MaySeek c
  shut : s.agent.AllShut

/-- Outside IDLE, FLOWING and PURGING the agent is at work for some class. -/
theorem atWork_of_duty {s : State} (hduty : s.agent.DutyHolds) (hconditions : s.ConditionsKept)
    (hidle : s.agent.dstate ≠ .idle) (hflowing : s.agent.dstate ≠ .flowing) (hpurging : s.agent.dstate ≠ .purging) {c : GasClass}
    (hsought : s.agent.sought = some c) : s.AtWork c :=
  ⟨hsought, maySeek_of_conditionsKept hconditions hidle hsought, allShut_of_dutyHolds hduty hflowing hpurging⟩

theorem outputsSafe_toBackoff {s : State} {c : GasClass} (h : s.AtWork c) (long : Bool) : (s.toBackoff long).OutputsSafe :=
  outputsSafe_of_lands (lands_toBackoff h.shut h.sought long) h.seek

theorem outputsSafe_toWaiting {s : State} {c : GasClass} (h : s.AtWork c) : s.toWaiting.OutputsSafe :=
  outputsSafe_of_lands (lands_toWaiting h.shut h.sought) h.seek

theorem outputsSafe_toDrain {s : State} {c : GasClass} (h : s.AtWork c) : s.toDrain.OutputsSafe :=
  outputsSafe_of_lands (lands_toDrain h.shut h.sought) h.seek

theorem outputsSafe_toListen {s : State} {c : GasClass} (h : s.AtWork c) (u : Purpose) : (s.toListen u c).OutputsSafe :=
  outputsSafe_of_lands (lands_toListen h.shut u c) h.seek

/-- The re-evaluation of WAITING keeps what the agent stands for (R122). -/
theorem outputsSafe_reevaluate {s : State} (hs : s.OutputsSafe) (hwaiting : s.agent.dstate = .waiting) :
    s.reevaluate.OutputsSafe := by
  obtain ⟨hduty, hconditions, -⟩ := (outputsSafe_iff s).mp hs
  unfold State.reevaluate
  split
  next => exact hs
  next c hc =>
    have hwork := atWork_of_duty hduty hconditions (by simp [hwaiting]) (by simp [hwaiting]) (by simp [hwaiting]) hc
    split
    · exact outputsSafe_toListen hwork .flow
    · split
      · exact outputsSafe_toDrain hwork
      · exact hs

/-- After a change of the view the agent is brought back to it (R122, R123, R130). -/
theorem outputsSafe_viewReaction {s : State} (hduty : s.agent.DutyHolds) (hconditions : s.ConditionsKept)
    (flowing : List (Address × GasClass)) (told : Bool) : (s.viewReaction flowing told).OutputsSafe := by
  have hsame : s.agent.dstate ≠ .flowing → s.OutputsSafe := fun h =>
    (outputsSafe_iff s).mpr ⟨hduty, hconditions, viewHolds_of_not_flowing h⟩
  unfold State.viewReaction
  split
  next hwaiting =>
    split
    · exact outputsSafe_reevaluate (hsame (by simp [hwaiting])) hwaiting
    · exact hsame (by simp [hwaiting])
  next hdrain =>
    have hsafe := hsame (by simp [hdrain])
    cases hc : s.agent.sought with
    | none => exact absurd (hduty.seeks.mpr hc) (by simp [hdrain])
    | some c =>
      have hwork := atWork_of_duty hduty hconditions (by simp [hdrain]) (by simp [hdrain]) (by simp [hdrain]) hc
      split
      · exact outputsSafe_toWaiting hwork
      · simp only
        split
        · exact outputsSafe_toListen hwork .flow
        · exact hsafe
  next hflowing =>
    split
    next hview => exact (outputsSafe_iff s).mpr ⟨hduty, hconditions, fun _ => hview⟩
    next =>
      cases hc : s.agent.sought with
      | none => exact absurd (hduty.seeks.mpr hc) (by simp [hflowing])
      | some c =>
        exact outputsSafe_endFlow hduty hflowing hc _ _ _
          fun _ => maySeek_of_conditionsKept hconditions (by simp [hflowing]) hc
  all_goals
    next h => exact hsame (by simp [h])

theorem dutyHolds_congr {a b : Agent} (h : a.DutyHolds) (hsame : a.SameButView b) : b.DutyHolds := by
  obtain ⟨hdstate, hsought, hdischH, hdischK, hpurgeV, hselH, hselK⟩ := hsame
  obtain ⟨hseeks, hselects, hflows, hpurges⟩ := h
  have hdisch : ∀ c, b.disch c = a.disch c := fun c => by cases c <;> assumption
  have hsel : ∀ c, b.sel c = a.sel c := fun c => by cases c <;> assumption
  refine ⟨by rwa [hdstate, hsought], fun c => ?_, fun c h => ?_, fun h => ?_⟩
  · rw [hsel, hdisch, hselects]
  · rw [hdstate, hsought]
    exact hflows c (by rwa [← hdisch])
  · rw [hdstate]
    exact hpurges (by rwa [← hpurgeV])

theorem conditionsKept_congr {s u : State} (h : s.ConditionsKept) (hdstate : u.agent.dstate = s.agent.dstate)
    (hsought : u.agent.sought = s.agent.sought) (hpaused : u.lc.paused = true → s.lc.paused = true)
    (hclash : u.line.clash = true → s.line.clash = true) (hinhibit : u.inhibited = true → s.inhibited = true) :
    u.ConditionsKept := by
  obtain ⟨hp, hc, hi⟩ := h
  exact ⟨fun h => by rw [hdstate]; exact hp (hpaused h), fun h => by rw [hdstate]; exact hc (hclash h),
    fun h => by rw [hsought]; exact hi (hinhibit h)⟩

/-- The outputs stay safe where the agent keeps its duty and the conditions do not tighten. -/
theorem outputsSafe_congr {s u : State} (hs : s.OutputsSafe) (hduty : s.agent.SameDuty u.agent)
    (hpaused : u.lc.paused = true → s.lc.paused = true) (hclash : u.line.clash = true → s.line.clash = true)
    (hinhibit : u.inhibited = true → s.inhibited = true) : u.OutputsSafe := by
  obtain ⟨hdstate, hsought, hview, hdischH, hdischK, hpurgeV, hselH, hselK⟩ := hduty
  obtain ⟨hholds, hconditions, hviews⟩ := (outputsSafe_iff s).mp hs
  refine (outputsSafe_iff u).mpr ⟨dutyHolds_congr hholds ⟨hdstate, hsought, hdischH, hdischK, hpurgeV, hselH, hselK⟩,
    conditionsKept_congr hconditions hdstate hsought hpaused hclash hinhibit, fun h => ?_⟩
  rw [hview, hsought]
  exact hviews (hdstate ▸ h)

theorem sameDuty_refl (a : Agent) : a.SameDuty a := ⟨rfl, rfl, rfl, rfl, rfl, rfl, rfl, rfl⟩

/-- The effect of a hold (R118). -/
theorem outputsSafe_holdEffect {s : State} (hs : s.OutputsSafe) (h : HoldClass) : (s.holdEffect h).OutputsSafe := by
  obtain ⟨hduty, hconditions, -⟩ := (outputsSafe_iff s).mp hs
  unfold State.holdEffect
  split
  next => exact hs
  next c hc =>
    split
    next =>
      have hseek : s.agent.dstate ≠ .idle → s.MaySeek c := fun h => maySeek_of_conditionsKept hconditions h hc
      split
      next => exact outputsSafe_congr hs ⟨rfl, rfl, rfl, rfl, rfl, rfl, rfl, rfl⟩ id id id
      next hpurging => exact outputsSafe_abortPurge hduty hpurging hc _ _ _ fun _ => hseek (by simp [hpurging])
      next hflowing => exact outputsSafe_endFlow hduty hflowing hc _ _ _ fun _ => hseek (by simp [hflowing])
      all_goals exact hs
    next => exact hs

theorem outputsSafe_holdEnd {s : State} (hs : s.OutputsSafe) (h : HoldClass) : (s.holdEnd h).OutputsSafe := by
  unfold State.holdEnd
  split
  next => exact outputsSafe_idleCheck hs
  next hwaiting =>
    split
    · split
      · exact outputsSafe_reevaluate hs hwaiting
      · exact hs
    · exact hs
  next => exact hs

theorem outputsSafe_requestNotice {s : State} (hs : s.OutputsSafe) (c : GasClass) (was : Bool) :
    (s.requestNotice c was).OutputsSafe := by
  obtain ⟨hduty, -, -⟩ := (outputsSafe_iff s).mp hs
  have hidle : s.agent.dstate ≠ .flowing → s.agent.dstate ≠ .purging → s.toIdle.OutputsSafe := fun hf hp =>
    outputsSafe_toIdle (allShut_of_dutyHolds hduty hf hp)
  unfold State.requestNotice
  split
  · exact hs
  · split
    · exact outputsSafe_idleCheck hs
    · split
      · split
        next h => exact hidle (by simp [h]) (by simp [h])
        next h => exact hidle (by simp [h]) (by simp [h])
        next h => exact hidle (by simp [h]) (by simp [h])
        next h => exact hidle (by simp [h]) (by simp [h])
        all_goals exact hs
      · exact hs

theorem outputsSafe_flowNotice {s : State} (hs : s.OutputsSafe) (c : GasClass) (n : NextState) :
    (s.flowNotice c n).OutputsSafe := by
  obtain ⟨hduty, hconditions, -⟩ := (outputsSafe_iff s).mp hs
  unfold State.flowNotice
  split
  next h =>
    obtain ⟨hflowing, hsought⟩ := h
    exact outputsSafe_endFlow hduty hflowing hsought _ _ _
      fun _ => maySeek_of_conditionsKept hconditions (by simp [hflowing]) hsought
  next => exact hs

/-- The onset of a selector conflict (R132). -/
theorem outputsSafe_conflictBegins {s : State} (hs : s.OutputsSafe) : s.conflictBegins.OutputsSafe := by
  obtain ⟨hduty, hconditions, -⟩ := (outputsSafe_iff s).mp hs
  obtain ⟨t, ht⟩ : ∃ t : State, t = (s.setAgent { s.agent with conflict := true, viewClass := none }).raise .headerConflict :=
    ⟨_, rfl⟩
  have hduty' : t.agent.DutyHolds := dutyHolds_congr hduty (by simp [ht, Agent.SameButView])
  have hconditions' : t.ConditionsKept := conditionsKept_congr hconditions (by simp [ht]) (by simp [ht]) (by simp [ht])
    (by simp [ht]) (by simp [ht])
  have hstops : ∀ hold : Bool, (t.conflictStops hold).agent.DutyHolds ∧ (t.conflictStops hold).ConditionsKept := by
    intro hold
    have hsafe : t.agent.dstate ≠ .flowing → t.OutputsSafe := fun h =>
      (outputsSafe_iff t).mpr ⟨hduty', hconditions', viewHolds_of_not_flowing h⟩
    have hof : (t.conflictStops hold).OutputsSafe →
        (t.conflictStops hold).agent.DutyHolds ∧ (t.conflictStops hold).ConditionsKept := fun h =>
      ⟨((outputsSafe_iff _).mp h).1, ((outputsSafe_iff _).mp h).2.1⟩
    refine hof ?_
    unfold State.conflictStops
    split
    next hflowing =>
      cases hc : t.agent.sought with
      | none => exact absurd (hduty'.seeks.mpr hc) (by simp [hflowing])
      | some c =>
        exact outputsSafe_endFlow hduty' hflowing hc _ _ _
          fun _ => maySeek_of_conditionsKept hconditions' (by simp [hflowing]) hc
    next hflowing =>
      split
      · refine outputsSafe_holdEffect (outputsSafe_congr (hsafe hflowing) ?_ (by simp) (by simp) (by simp)) _
        simp [State.offerHoldOnly, Agent.SameDuty]
      · exact hsafe hflowing
  have hrepeats : ∀ u : State, u.agent.DutyHolds ∧ u.ConditionsKept → ∀ hold : Bool,
      (if hold then u.setAgent { u.agent with conflictRepeat := .running Config.conflictRepeatMs } else u).agent.DutyHolds ∧
      (if hold then u.setAgent { u.agent with conflictRepeat := .running Config.conflictRepeatMs } else u).ConditionsKept := by
    intro u ⟨hu, huc⟩ hold
    cases hold
    · exact ⟨hu, huc⟩
    · exact ⟨dutyHolds_congr hu ⟨rfl, rfl, rfl, rfl, rfl, rfl, rfl⟩, conditionsKept_congr huc rfl rfl id id id⟩
  unfold State.conflictBegins
  dsimp only
  rw [← ht]
  obtain ⟨hfinal, hfinalc⟩ := hrepeats _ (hstops (!s.agent.conflictRepeat.isRunning)) (!s.agent.conflictRepeat.isRunning)
  exact outputsSafe_viewReaction hfinal hfinalc _ _

/-! ### The timers -/

theorem outputsSafe_flowWindowEnds {s : State} (hs : s.OutputsSafe) (hlistens : s.agent.dstate = .listenFlow) :
    s.flowWindowEnds.OutputsSafe := by
  obtain ⟨hduty, hconditions, -⟩ := (outputsSafe_iff s).mp hs
  unfold State.flowWindowEnds
  split
  next => exact hs
  next c hc =>
    have hwork := atWork_of_duty hduty hconditions (by simp [hlistens]) (by simp [hlistens]) (by simp [hlistens]) hc
    split
    · exact outputsSafe_toBackoff hwork false
    · split
      · exact outputsSafe_toBackoff hwork false
      · split
        next hview =>
          split
          · exact outputsSafe_startFlow hwork.shut hview hwork.seek
          · exact outputsSafe_toWaiting hwork
        next =>
          split
          · exact outputsSafe_toDrain hwork
          · exact outputsSafe_toWaiting hwork

theorem outputsSafe_purgeWindowEnds {s : State} (hs : s.OutputsSafe) (hlistens : s.agent.dstate = .listenPurge) :
    s.purgeWindowEnds.OutputsSafe := by
  obtain ⟨hduty, hconditions, -⟩ := (outputsSafe_iff s).mp hs
  unfold State.purgeWindowEnds
  split
  next => exact hs
  next c hc =>
    have hwork := atWork_of_duty hduty hconditions (by simp [hlistens]) (by simp [hlistens]) (by simp [hlistens]) hc
    split
    · exact outputsSafe_toBackoff hwork false
    · split
      · exact outputsSafe_toPurging hc hwork.seek
      · exact outputsSafe_reevaluate (outputsSafe_toWaiting hwork) (by simp [State.toWaiting])

theorem outputsSafe_drainEnds {s : State} (hs : s.OutputsSafe) (hdrain : s.agent.dstate = .drain) :
    s.drainEnds.OutputsSafe := by
  obtain ⟨hduty, hconditions, -⟩ := (outputsSafe_iff s).mp hs
  unfold State.drainEnds
  split
  next => exact hs
  next c hc =>
    have hwork := atWork_of_duty hduty hconditions (by simp [hdrain]) (by simp [hdrain]) (by simp [hdrain]) hc
    split
    · exact outputsSafe_toBackoff hwork false
    · split
      · exact outputsSafe_toListen hwork .flow
      · split
        · exact outputsSafe_toWaiting hwork
        · exact outputsSafe_toListen hwork .purge

theorem outputsSafe_purgeEnds {s : State} (hs : s.OutputsSafe) (hpurging : s.agent.dstate = .purging) :
    s.purgeEnds.OutputsSafe := by
  obtain ⟨hduty, hconditions, -⟩ := (outputsSafe_iff s).mp hs
  unfold State.purgeEnds
  split
  next => exact hs
  next c hc =>
    have hseek := maySeek_of_conditionsKept hconditions (by simp [hpurging]) hc
    have hshut : ((s.setAgent (s.agent.purged c)).offer (.purgeDone (some c) s.agent.purgeSerial)).agent.AllShut := by
      refine ⟨outputsShut_of_frame (outputsShut_of_not_flowing hduty (by simp [hpurging])) ?_, ?_⟩
      · simp [Agent.purged]
      · simp [Agent.purged]
    dsimp only
    split
    · exact outputsSafe_startFlow hshut (by simp [Agent.purged]) (maySeek_congr (by simp [State.SameConditions]) hseek)
    · exact outputsSafe_toIdle hshut

/-- Every act of the header agent keeps its outputs safe. -/
theorem AgentAct.outputsSafe {s u : State} (hs : s.OutputsSafe) (h : AgentAct s u) : u.OutputsSafe := by
  obtain ⟨hduty, hconditions, -⟩ := (outputsSafe_iff s).mp hs
  have hsought : s.agent.dstate ≠ .idle → ∃ c, s.agent.sought = some c ∧ s.MaySeek c := fun h => by
    obtain ⟨c, hc⟩ := Option.ne_none_iff_exists'.mp fun hnone => h (hduty.seeks.mpr hnone)
    exact ⟨c, hc, maySeek_of_conditionsKept hconditions h hc⟩
  cases h with
  | requestTold c was => exact outputsSafe_requestNotice hs c was
  | flowTold c n => exact outputsSafe_flowNotice hs c n
  | agent a hsame => exact outputsSafe_congr hs hsame id id id
  | views n a hview =>
    obtain ⟨hdstate, hsame, -⟩ := id hview
    exact outputsSafe_viewReaction (s := s.setAgent a) (dutyHolds_congr hduty hview)
      (conditionsKept_congr hconditions (by exact hdstate) (by exact hsame) id id id) _ _
  | setsTold n =>
    unfold State.tellSets
    split
    · exact outputsSafe_viewReaction hduty hconditions _ _
    · exact hs
  | purgeStartEndsFlow a hview hflows =>
    obtain ⟨c, hc, hseek⟩ := hsought (by simp [hflows])
    obtain ⟨hdstate, hsame, -⟩ := id hview
    exact outputsSafe_endFlow (s := s.setAgent a) (dutyHolds_congr hduty hview) (hdstate.trans hflows) (hsame.trans hc) _ _ _
      fun _ => maySeek_congr (s := s) ⟨rfl, rfl⟩ hseek
  | aborts conflictHold sendDone n hpurging =>
    obtain ⟨c, hc, hseek⟩ := hsought (by simp [hpurging])
    exact outputsSafe_abortPurge hduty hpurging hc _ _ _ fun _ => hseek
  | backsOff hlistens =>
    have hidle : s.agent.dstate ≠ .idle := by rcases hlistens with h | h <;> simp [h]
    obtain ⟨c, hc, -⟩ := hsought hidle
    exact outputsSafe_toBackoff (atWork_of_duty hduty hconditions hidle (by rcases hlistens with h | h <;> simp [h])
      (by rcases hlistens with h | h <;> simp [h]) hc) false
  | idles hbackoff =>
    exact outputsSafe_toIdle (allShut_of_dutyHolds hduty (by simp [hbackoff]) (by simp [hbackoff]))
  | checks => exact outputsSafe_idleCheck hs
  | held h => exact outputsSafe_holdEffect hs h
  | holdOver h => exact outputsSafe_holdEnd hs h
  | conflicts => exact outputsSafe_conflictBegins hs
  | flowWindow hlistens => exact outputsSafe_flowWindowEnds hs hlistens
  | purgeWindow hlistens => exact outputsSafe_purgeWindowEnds hs hlistens
  | drains hdrain => exact outputsSafe_drainEnds hs hdrain
  | purges hpurging => exact outputsSafe_purgeEnds hs hpurging

end Sys2Proof.Machine
end

section
/-! PROOFS. The acts of the other blocks keep the header outputs (O57): they leave the agent alone, and a pause, an inhibit or an
address clash that begins makes it stop. -/

namespace Sys2Proof.Machine

theorem agentStop_of_idle {s : State} (hidle : s.agent.dstate = .idle) (frames : Bool) : s.agentStop frames = s := by
  unfold State.agentStop
  rw [hidle]

theorem outputsSafe_enterPause {s : State} (hs : s.OutputsSafe) (c : PauseCause) : (s.enterPause c).OutputsSafe := by
  obtain ⟨hduty, -, -⟩ := (outputsSafe_iff s).mp hs
  unfold State.enterPause
  split
  next => exact outputsSafe_congr hs (sameDuty_refl _) (by cases c <;> exact id) id (by cases c <;> exact id)
  next =>
    have htold : ((s.pauseBegins c).agentStop true).OutputsSafe :=
      outputsSafe_agentStop (by simpa [State.pauseBegins, State.eachPort] using hduty) true
    exact outputsSafe_congr htold (by exact sameDuty_refl _) id id id

theorem outputsSafe_takeInhibit {s : State} (hs : s.OutputsSafe) (seconds : Nat) : (s.takeInhibit seconds).OutputsSafe := by
  obtain ⟨hduty, ⟨hpaused, hclash, -⟩, hview⟩ := (outputsSafe_iff s).mp hs
  unfold State.takeInhibit
  dsimp only
  split
  next hactive => exact outputsSafe_congr hs (sameDuty_refl _) id id fun _ => hactive
  next =>
    obtain ⟨t, ht⟩ : ∃ t : State, t = s.inhibitBegins (.running (max s.lc.inhibit.left (seconds * 1000))) := ⟨_, rfl⟩
    have hagent : t.agent = s.agent := by simp [ht, State.inhibitBegins, State.eachPort]
    have hstopped : t.agentInhibit.OutputsSafe := by
      unfold State.agentInhibit
      split
      next => exact outputsSafe_agentStop (hagent ▸ hduty) true
      next hother =>
        refine (outputsSafe_iff t).mpr ⟨hagent ▸ hduty, ⟨fun h => ?_, fun h => ?_, fun _ => hother⟩, hagent ▸ hview⟩
        · rw [hagent]
          exact hpaused (by simpa [ht, State.inhibitBegins, State.eachPort] using h)
        · rw [hagent]
          exact hclash (by simpa [ht, State.inhibitBegins, State.eachPort] using h)
    rw [ht] at hstopped
    exact hstopped

theorem outputsSafe_hydroLeak {s : State} (hs : s.OutputsSafe) : s.hydroLeak.OutputsSafe :=
  outputsSafe_congr (outputsSafe_takeInhibit hs s.cfg.header.alarmS) (by simp [State.hydroLeak, Agent.SameDuty])
    (by simp [State.hydroLeak]) (by simp [State.hydroLeak]) (by simp [State.hydroLeak])

/-! ### Address clash -/

/-- A lost INTENT of the present entry sends a listening agent to BACKOFF; the agent keeps its duty in the clash that lost it. -/
theorem dutyHolds_lostNotice {s : State} (hduty : s.agent.DutyHolds) (hclash : s.line.clash = true) (q : QueuedFrame) :
    (s.lostNotice q).agent.DutyHolds := by
  have hlc : ∀ f, (s.lcLost f).agent.DutyHolds := fun f => by
    rw [State.lcLost, if_pos hclash]
    exact hduty
  have hbackoff : s.agent.dstate = .listenFlow ∨ s.agent.dstate = .listenPurge → (s.toBackoff false).agent.DutyHolds := fun h => by
    have hidle : s.agent.dstate ≠ .idle := by rcases h with h | h <;> simp [h]
    obtain ⟨c, hc⟩ := Option.ne_none_iff_exists'.mp fun hnone => hidle (hduty.seeks.mpr hnone)
    exact dutyHolds_of_lands (lands_toBackoff (allShut_of_dutyHolds hduty (by rcases h with h | h <;> simp [h])
      (by rcases h with h | h <;> simp [h])) hc false)
  unfold State.lostNotice
  split
  next u c k _ =>
    have hcase : ∀ b : Bool, (b = true → s.agent.dstate = .listenFlow ∨ s.agent.dstate = .listenPurge) →
        (if b then s.toBackoff false else s).agent.DutyHolds := fun b hb => by
      split
      next h => exact hbackoff (hb h)
      next => exact hduty
    refine hcase _ fun h => ?_
    cases u
    · exact .inl (by simpa using (Bool.and_eq_true_iff.mp h).1)
    · exact .inr (by simpa using (Bool.and_eq_true_iff.mp h).1)
  next =>
    split
    next h =>
      obtain ⟨hpurging, -⟩ := h
      obtain ⟨c, hc⟩ := Option.ne_none_iff_exists'.mp fun hnone => by simpa [hpurging] using hduty.seeks.mpr hnone
      rw [abortPurge_eq]
      exact dutyHolds_of_lands (lands_toBackoff (purgeAborted_allShut (outputsShut_of_not_flowing hduty (by simp [hpurging])) _ _)
        ((purgeAborted_sought _ _ _).trans hc) false)
    next => exact hduty
  next => exact hlc _
  next => exact hlc _
  next => exact hlc _
  all_goals exact hduty

theorem dutyHolds_loseQueue (l : List QueuedFrame) {s : State} (hduty : s.agent.DutyHolds) (hclash : s.line.clash = true) :
    (s.loseQueue l).agent.DutyHolds := by
  unfold State.loseQueue
  induction l generalizing s with
  | nil => exact hduty
  | cons q rest ih => exact ih (dutyHolds_lostNotice hduty hclash q) ((moves_lostNotice hclash q).clash.trans hclash)

theorem outputsSafe_clash {s : State} (hs : s.OutputsSafe) : s.clash.OutputsSafe := by
  obtain ⟨hduty, -, -⟩ := (outputsSafe_iff s).mp hs
  unfold State.clash
  dsimp only
  split
  next => exact outputsSafe_congr hs (sameDuty_refl _) id id id
  next =>
    have hlost : (s.clashBegins.loseQueue s.line.queue).agent.DutyHolds :=
      dutyHolds_loseQueue _ (by exact hduty) (by simp [State.clashBegins])
    exact outputsSafe_congr (outputsSafe_agentStop hlost false) (by exact sameDuty_refl _) (by exact id) (by exact id) (by exact id)

/-! ### The analyser's results -/

theorem portClassify_agent (p : PortId) (m : Measurement) (s : State) :
    (s.portClassify p m).agent = s.agent ∧ (s.portClassify p m).lc = s.lc ∧ (s.portClassify p m).line = s.line := by
  unfold State.portClassify
  dsimp only
  split
  · split <;> simp
  · simp

theorem outputsSafe_takeSniff {s : State} (hs : s.OutputsSafe) (p : PortId) (noted : Option Nat) (halo hydro : Nat) :
    (s.takeSniff p noted halo hydro).OutputsSafe := by
  have hflagged : ∀ (b : Bool) o, (if o = SniffOutcome.leak then (if b then s.portSniff p o else s).leakFound
      else if b then s.portSniff p o else s).OutputsSafe := fun b o => by
    refine outputsSafe_congr hs ?_ ?_ ?_ ?_ <;>
      cases b <;> by_cases h : o = SniffOutcome.leak <;> simp [h, State.leakFound, Agent.SameDuty, State.inhibited]
  unfold State.takeSniff
  dsimp only
  split
  · exact outputsSafe_hydroLeak (hflagged _ _)
  · exact hflagged _ _

theorem outputsSafe_takeResult {s : State} (hs : s.OutputsSafe) (halo hydro : Word16) : (s.takeResult halo hydro).OutputsSafe := by
  have hidle : ∀ t : State, t.OutputsSafe → t.analyserIdle.OutputsSafe := fun t ht =>
    outputsSafe_congr ht (by simp [Agent.SameDuty]) (by simp) (by simp) (by simp)
  unfold State.takeResult
  dsimp only
  split
  next p w _ =>
    refine hidle _ ?_
    split
    next => exact hs
    next =>
      obtain ⟨hagent, hlc, hline⟩ := portClassify_agent p (measurementOf s.cfg.analyser halo hydro) (s.setAna s.ana.endSample)
      refine outputsSafe_congr hs ?_ ?_ ?_ ?_
      · rw [hagent]
        exact sameDuty_refl _
      · rw [hlc]
        exact id
      · rw [hline]
        exact id
      · rw [State.inhibited, hlc]
        exact id
  next => exact hidle _ (outputsSafe_takeSniff (by exact hs) _ _ _ _)
  next => exact hs

theorem takeReport_sameBut (s : State) : s.SameBut [.ports, .store, .op] s.takeReport.1 := by
  rw [sameBut_iff]
  unfold State.takeReport
  split
  · simp
  · unfold State.releaseWaiting
    split
    · simp
    · split <;> simp

theorem createCase_sameBut (p : PortId) (r : CaseRecord) (s : State) : s.SameBut [.ports, .store] (s.createCase p r) := by
  rw [sameBut_iff]
  simp [State.createCase]

theorem timedOut_sameBut (s : State) : s.SameBut [.ana, .op] s.timedOut := by
  rw [sameBut_iff]
  unfold State.timedOut State.analyserFaults
  dsimp only
  split
  · simp
  · split <;> simp

theorem sniffIsDue_sameBut (s : State) : s.SameBut [.ana] s.sniffIsDue := by
  rw [sameBut_iff]
  unfold State.sniffIsDue
  dsimp only
  split <;> simp

theorem outputsSafe_of_sameBut {s u : State} {l : List Block} (hs : s.OutputsSafe) (hsame : s.SameBut l u)
    (hagent : .agent ∉ l) (hline : .line ∉ l) (hconditions : .conditions ∉ l) : u.OutputsSafe := by
  have ha : u.agent = s.agent := hsame .agent hagent
  have hl : u.line = s.line := hsame .line hline
  have hc : u.lc = s.lc := hsame .conditions hconditions
  exact outputsSafe_congr hs (ha ▸ sameDuty_refl _) (by simp [hc]) (by simp [hl]) (by simp [State.inhibited, hc])

theorem Act.outputsSafe {s u : State} (hs : s.OutputsSafe) (h : Act s u) : u.OutputsSafe := by
  cases h with
  | resets => exact resetStateIsSafe.2.1
  | elapses n => exact outputsSafe_congr hs (by simp [Agent.SameDuty]) (by simp) (by simp) (by simp)
  | line x hclash => exact outputsSafe_congr hs (sameDuty_refl _) id hclash id
  | conditions x hpaused hinhibit => exact outputsSafe_congr hs (sameDuty_refl _) hpaused id hinhibit
  | pauses c => exact outputsSafe_enterPause hs c
  | inhibits seconds => exact outputsSafe_takeInhibit hs seconds
  | clashes => exact outputsSafe_clash hs
  | results halo hydro => exact outputsSafe_takeResult hs halo hydro
  | byAgent h => exact h.outputsSafe hs
  | portStarts p => exact hs
  | caseCreated p r => exact outputsSafe_of_sameBut hs (createCase_sameBut p r s) (by simp) (by simp) (by simp)
  | reportTaken => exact outputsSafe_of_sameBut hs (takeReport_sameBut s) (by simp) (by simp) (by simp)
  | timesOut => exact outputsSafe_of_sameBut hs (timedOut_sameBut s) (by simp) (by simp) (by simp)
  | sniffComesDue => exact outputsSafe_of_sameBut hs (sniffIsDue_sameBut s) (by simp) (by simp) (by simp)
  | readies => exact outputsSafe_of_sameBut hs (becomeReady_sameBut s) (by simp) (by simp) (by simp)
  | _ => exact outputsSafe_congr hs (by simp [Agent.SameDuty]) (by simp) (by simp) (by simp [State.inhibited])

/-- Settles O57: a step is a run of acts, and each act keeps the agent's own part of R138, what the station's conditions ask of it,
and the view that names the class that flows. -/
theorem everyStepKeepsTheHeaderOutputs : Obligations.EveryStepKeepsTheHeaderOutputs := fun _ _ hs hstep =>
  step_keeps (P := State.OutputsSafe) (fun _ _ _ h => h) (fun _ _ h hact => hact.outputsSafe h) hs hstep

end Sys2Proof.Machine
end

section
/-! PROOFS. An empty queue takes time (O2), and the end of an event (O4). -/

namespace Sys2Proof.Machine

theorem step_of_idle {s : State} (hempty : s.pending = []) (hnone : s.dueNow = []) : step s = .next (s.elapse 1) := by
  have hdue : s.nextDue = none := by simp [State.nextDue, hnone]
  simp only [step, hempty, tick, hdue]

theorem step_of_due {s : State} (hempty : s.pending = []) (hdue : s.dueNow ≠ []) :
    ∃ i ∈ s.dueNow, step s = exec i { s with free := s.free + 1 } := by
  have hlt : Config.freeOrder s.free % s.dueNow.length < s.dueNow.length :=
    Nat.mod_lt _ (List.length_pos_of_ne_nil hdue)
  refine ⟨s.dueNow[Config.freeOrder s.free % s.dueNow.length], List.getElem_mem hlt, ?_⟩
  have hnext : s.nextDue = some s.dueNow[Config.freeOrder s.free % s.dueNow.length] := List.getElem?_eq_getElem hlt
  simp only [step, hempty, tick, hnext]

theorem mem_dueIf {t : Timer} (hdue : t = .running 0) (i : Instr) : i ∈ dueIf t i := by
  simp [dueIf, hdue, Timer.isDue]

theorem portSample_mem_dueNow {s : State} {p : PortId} (hdue : s.field.sampleTs.get p = .running 0) :
    Instr.portSample p s.freeSignal ∈ s.dueNow := by
  have hmem : Instr.portSample p s.freeSignal ∈ s.dueSamples :=
    List.mem_append_left _ (List.mem_flatMap.mpr ⟨p, mem_portIds p, mem_dueIf hdue _⟩)
  exact List.mem_append_right _ hmem

theorem headerSample_mem_dueNow {s : State} (hdue : s.field.headerT = .running 0) :
    Instr.headerSample s.freeSignal ∈ s.dueNow :=
  List.mem_append_right _ (List.mem_append_right _ (mem_dueIf hdue _))

/-- Settles O2: a step on an empty queue is a tick, which takes a due event or lets a millisecond pass, and the passing of time is the
model's own equation. -/
theorem emptyQueueTakesTime : Obligations.EmptyQueueTakesTime :=
  ⟨fun _ hempty => ⟨step_of_idle hempty, step_of_due hempty⟩,
    fun _ => ⟨fun _ hdue => ⟨_, portSample_mem_dueNow hdue⟩, fun hdue => ⟨_, headerSample_mem_dueNow hdue⟩⟩,
    fun _ _ => ⟨fun _ => rfl, fun _ => rfl, rfl, rfl⟩⟩

/-! ### The end of an event -/

theorem startEvents_op (s : State) :
    s.startEvents.op =
      if s.op.tx = .idle ∧ s.op.owed = none ∧ s.op.flags ≠ 0 then
        { s.op with tx := .notifying ⟨0x87, bytes16 s.op.flags.toNat⟩, flags := 0 }
      else s.op := by
  unfold State.startEvents
  split
  next htx howed =>
    by_cases hflags : s.op.flags = 0
    · simp [htx, howed, hflags]
    · rw [if_neg hflags, if_pos ⟨htx, howed, hflags⟩]
      rfl
  next hbusy =>
    rw [if_neg fun ⟨htx, howed, _⟩ => hbusy htx howed]

theorem finish_op (s : State) :
    s.finish.op =
      if s.op.tx = .idle ∧ s.op.owed = none ∧ s.op.flags ≠ 0 then
        { s.op with tx := .notifying ⟨0x87, bytes16 s.op.flags.toNat⟩, flags := 0 }
      else s.op :=
  startEvents_op s.updateLamp.watchLines

theorem finish_lamp (s : State) : s.finish.field.lamp = s.lampLit := by
  have hevents : s.finish.field = s.updateLamp.watchLines.field := by simp [State.finish]
  rw [hevents]
  rfl

theorem quarantined_iff (x : PortState) : x.quarantined = true ↔ ∃ q, x = .quarantine q := by
  cases x <;> simp [PortState.quarantined]

theorem lampLit_iff (s : State) :
    s.lampLit = true ↔ (∃ p q, (s.port p).state = .quarantine q) ∨ s.ana.leakRecent = true ∨ s.inhibited = true := by
  have hports : s.ports.toList.any (fun x => x.state.quarantined) = true ↔ ∃ p q, (s.port p).state = .quarantine q := by
    rw [List.any_eq_true]
    constructor
    · rintro ⟨x, hx, hq⟩
      obtain ⟨q, hq⟩ := (quarantined_iff _).mp hq
      obtain ⟨p, rfl⟩ : ∃ p, x = s.port p := by
        simp only [Quad.toList, List.mem_cons, List.not_mem_nil, or_false] at hx
        rcases hx with rfl | rfl | rfl | rfl
        · exact ⟨.p0, rfl⟩
        · exact ⟨.p1, rfl⟩
        · exact ⟨.p2, rfl⟩
        · exact ⟨.p3, rfl⟩
      exact ⟨p, q, hq⟩
    · rintro ⟨p, q, hq⟩
      refine ⟨s.port p, ?_, (quarantined_iff _).mpr ⟨q, hq⟩⟩
      cases p <;> simp [Quad.toList, State.port, Quad.get]
  rw [State.lampLit, Bool.or_eq_true, Bool.or_eq_true, hports, or_assoc]

theorem watch_eq (now : Bool) (ms : Nat) (i : LineInput) :
    i.watch now ms =
      { i with
        filter :=
          (match i.level with
          | none => .stopped
          | some b =>
            if i.isPending = true ∨ b = now then .stopped
            else if i.filter.isRunning = true then i.filter
            else .running ms) } := by
  unfold LineInput.watch
  cases hlevel : i.level with
  | none => rfl
  | some b =>
    dsimp only
    split
    · rfl
    · split
      · cases i
        simp_all
      · rfl

/-- Settles O4: the end of an event is the lamp, the filters of the lines and the EVENTS message, each by its own equation. -/
theorem eventEnd : Obligations.EventEnd := fun s => by
  refine ⟨(sameBut_iff _ _ _).mpr (by simp), by simp, by simp, by simp, by simp, ?_, fun l => ?_, finish_op s⟩
  · rw [finish_lamp, lampLit_iff]
  · exact (finish_input s l).trans (watch_eq _ _ _)

end Sys2Proof.Machine
end

section
/-! PROOFS. Start-up (10): reset (O5), and loading from a bad and from a good image (O6, O7). -/

namespace Sys2Proof.Machine

/-- The state after RESET. -/
def State.afterReset (s : State) : State := { State.reset with pending := s.pending, free := s.free }

theorem afterReset_peer (s : State) (a : Address) : s.afterReset.peer a = Peer.reset := by
  simp [State.afterReset, State.peer, State.reset]

/-- Settles O5: the reset state, field by field. -/
theorem resetPutsEveryBlockInItsResetState : Obligations.ResetPutsEveryBlockInItsResetState := fun s => by
  refine ⟨s.afterReset, rfl, rfl, rfl, rfl, rfl, rfl, rfl, rfl, fun p => ?ports, rfl, rfl, rfl, rfl, rfl, rfl, rfl, rfl, rfl, rfl,
    rfl, rfl, rfl, rfl, fun p => ?paths, fun c => ?receivers, rfl, rfl, rfl, rfl, rfl, rfl, rfl, fun c => ?outputs, rfl, rfl, rfl,
    rfl, rfl, rfl, rfl, rfl, rfl, rfl, rfl, rfl, rfl, rfl, rfl, rfl, rfl, rfl, rfl, rfl, rfl, rfl, rfl, rfl, rfl, fun a => ?peers,
    rfl, rfl, rfl, rfl, rfl, rfl, rfl, fun l => ?lines, fun p => ?samples, rfl, rfl, rfl, rfl, rfl, rfl, rfl⟩
  case ports => cases p <;> exact ⟨rfl, rfl, rfl, rfl, rfl, rfl, rfl, rfl, rfl, rfl⟩
  case paths => cases p <;> exact ⟨rfl, rfl⟩
  case receivers => cases c <;> exact ⟨rfl, rfl, rfl, rfl, rfl, rfl, rfl, rfl, rfl, rfl, rfl, rfl, rfl, rfl, rfl, rfl⟩
  case outputs => cases c <;> exact ⟨rfl, rfl, rfl⟩
  case peers =>
    rw [afterReset_peer]
    exact ⟨rfl, rfl, rfl, rfl, rfl, rfl⟩
  case lines =>
    cases l with
    | clamp p => cases p <;> exact ⟨rfl, rfl, rfl, rfl⟩
    | confirm p => cases p <;> exact ⟨rfl, rfl, rfl, rfl⟩
    | release p => cases p <;> exact ⟨rfl, rfl, rfl, rfl⟩
    | estop => exact ⟨rfl, rfl, rfl, rfl⟩
    | selH => exact ⟨rfl, rfl, rfl, rfl⟩
    | selK => exact ⟨rfl, rfl, rfl, rfl⟩
  case samples => cases p <;> exact ⟨rfl, rfl⟩

/-! ### An image that fails a check (R188, R189) -/

theorem loaderAfter_of_fault {read : ReadOutcome} {cause : ConfigCause} (hfault : imageFault read = some cause) :
    (loaderAfter read).state = .configFault cause ∧ (loaderAfter read).cfg = none ∧ (loaderAfter read).warnings = .none := by
  cases read with
  | noAck =>
    obtain rfl : cause = .noAck := (Option.some.inj hfault).symm
    exact ⟨rfl, rfl, rfl⟩
  | bytes b => simp [loaderAfter, hfault]

theorem loaderAfter_of_good {b : List Byte} (hgood : imageFault (.bytes b) = none) :
    loaderAfter (.bytes b) = ⟨.loaded, some b, some (readConfig b), readWarnings b⟩ := by
  simp only [loaderAfter, hgood]

theorem finishLoading_of_loading {s : State} (hloading : s.loader.state = .loading) (read : ReadOutcome) (pins : BitVec 15) :
    s.finishLoading read pins =
      (let t := (s.setLoader (loaderAfter read)).startAlways
      if t.loaded then t.startLoaded pins else t) := by
  simp only [State.finishLoading, hloading]

theorem loaded_iff (s : State) : s.loaded = true ↔ s.loader.state = .loaded := by
  cases h : s.loader.state <;> simp [State.loaded, h]

/-- Settles O6: the three checks in their order, and a failed image starts nothing but the sampling and the operator port. -/
theorem failedImageLeavesConfigFault : Obligations.FailedImageLeavesConfigFault := by
  refine ⟨rfl, fun b => ⟨fun hcheck => ?_, fun hcheck => ?_⟩, fun read pins cause s hloading hfault => ?_⟩
  · simp only [imageFault]
    exact if_pos hcheck
  · simp only [imageFault]
    exact if_neg (not_not_intro hcheck)
  · obtain ⟨hstate, hcfg, hwarnings⟩ := loaderAfter_of_fault hfault
    have hnot : ¬(s.setLoader (loaderAfter read)).startAlways.loaded = true := by
      rw [loaded_iff]
      simp [State.startAlways, hstate]
    refine ⟨(s.setLoader (loaderAfter read)).startAlways, ?_, ?_, hstate, hcfg, hwarnings, rfl, rfl⟩
    · show Host.Outcome.next (s.finishLoading read pins).finish = _
      rw [finishLoading_of_loading hloading]
      simp only [if_neg hnot]
    · rw [sameBut_iff]
      simp [State.startAlways]

/-! ### A good image (R195, R196) -/

/-- What the start leaves of the image and the pins, whether or not the station is paused at once. -/
structure State.StartedFrom (b : List Byte) (pins : BitVec 15) (u : State) : Prop where
  loader : u.loader = ⟨.loaded, some b, some (readConfig b), readWarnings b⟩
  inputs : ∀ l, (u.field.input l).level = some (lineLevel (readConfig b).polarities pins l) ∧ (u.field.input l).isPending = false
  samples : ∀ p, u.field.sampleTs.get p = .running 50
  header : u.field.headerT = .running 50
  ports : ∀ p,
    (u.port p).state = (match (readConfig b).kinds.get p with | some _ => .vacant | none => .unused) ∧
    (u.port p).clamp = lineLevel (readConfig b).polarities pins (.clamp p) ∧
    (u.port p).confirm = lineLevel (readConfig b).polarities pins (.confirm p)
  silence : ∀ c, (u.rcv c).silence = .running 500
  listens : u.line.listenIn = true ∧ u.line.listenT = .running 1000
  operator : u.op.framer = .waitingQuiet ∧ u.op.gap = .running 11
  links : ∀ l, u.recordLink l = ⟨.waitingQuiet, .running 11⟩

theorem startPort_samePortsBut (p : PortId) (s : State) : s.SamePortsBut p (s.startPort p) := modPort_samePortsBut p _ s

/-- The ports as they start, each from the configuration and the lines. -/
theorem startPorts_port (s : State) (p : PortId) :
    ((s.eachPort State.startPort).port p).state = (match s.cfg.kinds.get p with | some _ => .vacant | none => .unused) ∧
      ((s.eachPort State.startPort).port p).clamp = (s.field.clamp.get p).isAsserted ∧
      ((s.eachPort State.startPort).port p).confirm = (s.field.confirm.get p).isAsserted := by
  obtain ⟨t, ⟨hloader, hfield⟩, -, hafter⟩ := eachPort_port (keeps := fun t => t.loader = s.loader ∧ t.field = s.field)
    (f := State.startPort) (fun _ _ ht => ht) startPort_samePortsBut (s := s) ⟨rfl, rfl⟩ p
  have hcfg : t.cfg = s.cfg := by simp [State.cfg, hloader]
  rw [hafter, State.startPort, modPort_port_self, hcfg, hfield]
  exact ⟨rfl, rfl, rfl⟩

theorem eachPort_startPort_frame (s : State) :
    (s.eachPort State.startPort).loader = s.loader ∧ (s.eachPort State.startPort).field = s.field ∧
      (s.eachPort State.startPort).op = s.op ∧ (s.eachPort State.startPort).lc = s.lc :=
  ⟨rfl, rfl, rfl, rfl⟩

/-- What the start always begins, and the image's loader. -/
structure State.ReadyToStart (b : List Byte) (t : State) : Prop where
  loader : t.loader = ⟨.loaded, some b, some (readConfig b), readWarnings b⟩
  samples : ∀ p, t.field.sampleTs.get p = .running 50
  header : t.field.headerT = .running 50
  operator : t.op.framer = .waitingQuiet ∧ t.op.gap = .running 11

theorem startAlways_readyToStart {b : List Byte} (hgood : imageFault (.bytes b) = none) (s : State) :
    (s.setLoader (loaderAfter (.bytes b))).startAlways.ReadyToStart b where
  loader := loaderAfter_of_good hgood
  samples := fun p => by cases p <;> rfl
  header := rfl
  operator := ⟨rfl, rfl⟩

/-- The ports and the lines of a station that starts. -/
abbrev State.startPorts (pins : BitVec 15) (t : State) : State :=
  (t.setField (t.field.initialise t.cfg.polarities pins)).eachPort State.startPort

theorem startedFrom_startBlocks {b : List Byte} {t : State} (h : t.ReadyToStart b) (pins : BitVec 15) :
    (t.startPorts pins).startBlocks.StartedFrom b pins where
  loader := h.loader
  inputs := fun l => by
    have hcfg : t.cfg = readConfig b := by simp [State.cfg, h.loader]
    have hinput : ((t.startPorts pins).startBlocks.field.input l) = initInput t.cfg.polarities pins l :=
      mapLines_input _ _ l
    rw [hinput, hcfg]
    exact ⟨rfl, rfl⟩
  samples := h.samples
  header := h.header
  ports := fun p => by
    have hcfg : t.cfg = readConfig b := by simp [State.cfg, h.loader]
    obtain ⟨hstate, hclamp, hconfirm⟩ :=
      startPorts_port (t.setField (t.field.initialise t.cfg.polarities pins)) p
    have hline : ∀ l, ((t.field.initialise t.cfg.polarities pins).input l).isAsserted =
        lineLevel (readConfig b).polarities pins l := fun l => by
      rw [FieldUnit.initialise, mapLines_input, hcfg]
      rfl
    refine ⟨?_, ?_, ?_⟩
    · rw [← hcfg]
      exact hstate
    · rw [← hline]
      exact hclamp
    · rw [← hline]
      exact hconfirm
  silence := fun c => by cases c <;> rfl
  listens := ⟨rfl, rfl⟩
  operator := h.operator
  links := fun l => by cases l <;> rfl

theorem startedFrom_raise {b : List Byte} {pins : BitVec 15} {u : State} (h : u.StartedFrom b pins) (e : EventKind) :
    (u.raise e).StartedFrom b pins := by
  obtain ⟨hloader, hinputs, hsamples, hheader, hports, hsilence, hlistens, hoperator, hlinks⟩ := h
  exact ⟨by simpa using hloader, by simpa using hinputs, by simpa using hsamples, by simpa using hheader, by simpa using hports,
    by simpa using hsilence, by simpa using hlistens, by simpa using hoperator, by simpa using hlinks⟩

/-- A warning of the loader raises its event (R194). -/
theorem startWarned_cases {b : List Byte} {s : State} (hloader : s.startBlocks.loader.warnings = readWarnings b) :
    s.startWarned = s.startBlocks.raise .configWarning ∨ s.startWarned = s.startBlocks ∧ (readWarnings b).any = false := by
  unfold State.startWarned
  rw [hloader]
  split
  next => exact .inl rfl
  next h => exact .inr ⟨rfl, Bool.eq_false_of_not_eq_true h⟩

theorem startedFrom_startWarned {b : List Byte} {t : State} (h : t.ReadyToStart b) (pins : BitVec 15) :
    (t.startPorts pins).startWarned.StartedFrom b pins ∧
      ((readWarnings b).any = true → (t.startPorts pins).startWarned.op.flag .configWarning = true) ∧
      (t.startPorts pins).startWarned.lc.paused = t.lc.paused := by
  have hblocks := startedFrom_startBlocks h pins
  rcases startWarned_cases (b := b) (s := t.startPorts pins) (by rw [hblocks.loader]) with hraised | ⟨hsame, hnone⟩
  · rw [hraised]
    exact ⟨startedFrom_raise hblocks _, fun _ => raise_flag_self _ _, rfl⟩
  · rw [hsame]
    exact ⟨hblocks, by simp [hnone], rfl⟩

/-! ### The pause a pressed ESTOP begins (R146) -/

theorem pauseStart_of_rests {x : Port} (hrests : x.state = .vacant ∨ x.state = .unused) : x.pauseStart = x := by
  rcases hrests with h | h <;> simp [Port.pauseStart, h]

theorem mapPortLines_line (f : LineInput → LineInput) (x : FieldUnit) (l : InputLine) :
    (x.mapPortLines f).input l = f (x.input l) ∨ (x.mapPortLines f).input l = x.input l := by
  cases l with
  | clamp p => exact .inl (mapPortLines_input f x (p := p) (by simp [portLines]))
  | confirm p => exact .inl (mapPortLines_input f x (p := p) (by simp [portLines]))
  | release p => exact .inl (mapPortLines_input f x (p := p) (by simp [portLines]))
  | estop => exact .inr rfl
  | selH => exact .inr rfl
  | selK => exact .inr rfl

theorem tellPause_line (s : State) (l : InputLine) :
    (s.tellPause.field.input l).level = (s.field.input l).level ∧
      ((s.field.input l).isPending = false → (s.tellPause.field.input l).isPending = false) := by
  obtain ⟨-, -, -, hfield⟩ := tellPause_parts s
  rw [hfield]
  rcases mapPortLines_line LineInput.pauseStart s.field l with h | h <;> rw [h]
  · exact ⟨rfl, fun _ => rfl⟩
  · exact ⟨rfl, id⟩

/-- The start of a pause leaves what the start of the station began. -/
theorem startedFrom_tellPause {b : List Byte} {pins : BitVec 15} {u : State} (h : u.StartedFrom b pins)
    (hpaused : u.lc.paused = true) : u.tellPause.StartedFrom b pins := by
  obtain ⟨hloader, hinputs, hsamples, hheader, hports, hsilence, hlistens, hoperator, hlinks⟩ := h
  refine ⟨by simpa using hloader, fun l => ?_, by simpa using hsamples, by simpa using hheader, fun p => ?_, fun c => ?_,
    by simpa using hlistens, by simpa using hoperator, by simpa using hlinks⟩
  · obtain ⟨hlevel, hpending⟩ := tellPause_line u l
    exact ⟨hlevel.trans (hinputs l).1, hpending (hinputs l).2⟩
  · have hrests : (u.port p).state = .vacant ∨ (u.port p).state = .unused := by
      rw [(hports p).1]
      split
      · exact .inl rfl
      · exact .inr rfl
    rw [tellPause_port hpaused fun ⟨hextract, _⟩ => by simp [hextract] at hrests, pauseStart_of_rests hrests]
    exact hports p
  · have := hsilence c
    cases c <;> simpa [rcv_eq] using this

theorem startedFrom_estop {b : List Byte} {pins : BitVec 15} {u : State} (h : u.StartedFrom b pins) :
    (u.enterPause .estop).estopPause.StartedFrom b pins := by
  have hentered : (u.enterPause .estop).StartedFrom b pins := by
    unfold State.enterPause
    split
    next => exact { h with }
    next =>
      have hcauses : (u.setLc { u.lc.addCause .estop with paused := true }).StartedFrom b pins := { h with }
      exact startedFrom_tellPause (startedFrom_raise hcauses _) (by simp)
  obtain ⟨hloader, hinputs, hsamples, hheader, hports, hsilence, hlistens, hoperator, hlinks⟩ := hentered
  exact ⟨by simpa using hloader, by simpa using hinputs, by simpa using hsamples, by simpa using hheader, by simpa using hports,
    by simpa using hsilence, by simpa using hlistens, by simpa using hoperator, by simpa using hlinks⟩

theorem enterPause_estop_conditions (u : State) :
    (u.enterPause .estop).estopPause.lc.paused = true ∧ (u.enterPause .estop).estopPause.lc.causeEstop = true ∧
      (u.enterPause .estop).estopPause.lc.estopRepeat = .running 1000 := by
  have hrepeat : ∀ t : State, t.estopPause.lc.estopRepeat = .running 1000 := fun t => by
    simp [State.estopPause, Config.estopRepeatMs]
  refine ⟨?_, ?_, hrepeat _⟩
  · by_cases hpaused : u.lc.paused = true <;> simp [State.enterPause, hpaused, LineConditions.addCause]
  · by_cases hpaused : u.lc.paused = true <;> simp [State.enterPause, hpaused, LineConditions.addCause]

theorem isAsserted_of_level {i : LineInput} {b : Bool} (hlevel : i.level = some b) : i.isAsserted = b := by
  unfold LineInput.isAsserted
  rw [hlevel]

/-- A station that starts from a good image: what it begins, its warning, and the pause where ESTOP is pressed. -/
theorem startLoaded_started {b : List Byte} {t : State} (hready : t.ReadyToStart b) (pins : BitVec 15) :
    (t.startLoaded pins).StartedFrom b pins ∧
      ((readWarnings b).any = true → (t.startLoaded pins).op.flag .configWarning = true) ∧
      (lineLevel (readConfig b).polarities pins .estop = true →
        (t.startLoaded pins).lc.paused = true ∧ (t.startLoaded pins).lc.causeEstop = true ∧
          (t.startLoaded pins).lc.estopRepeat = .running 1000) ∧
      (lineLevel (readConfig b).polarities pins .estop = false → (t.startLoaded pins).lc.paused = t.lc.paused) := by
  obtain ⟨hstarted, hwarned, hpaused⟩ := startedFrom_startWarned hready pins
  have hestop : (t.startPorts pins).startWarned.field.estop.isAsserted = lineLevel (readConfig b).polarities pins .estop :=
    isAsserted_of_level (hstarted.inputs .estop).1
  rw [startLoaded_eq]
  dsimp only
  split
  next h =>
    rw [hestop] at h
    exact ⟨startedFrom_estop hstarted, fun hany => by simp [hwarned hany], fun _ => enterPause_estop_conditions _, by simp [h]⟩
  next h =>
    rw [hestop] at h
    exact ⟨hstarted, hwarned, fun hl => absurd hl h, fun _ => hpaused⟩

/-- Settles O7: a good image starts every block, and where ESTOP is pressed the pause begins at once and leaves what was begun. -/
theorem goodImageStartsTheStation : Obligations.GoodImageStartsTheStation := fun b pins s hloading hgood => by
  obtain ⟨t, ht⟩ : ∃ t : State, t = (s.setLoader (loaderAfter (.bytes b))).startAlways := ⟨_, rfl⟩
  have hready : t.ReadyToStart b := ht ▸ startAlways_readyToStart hgood s
  have hexec : exec (.loadingFinishes (.bytes b) pins) s = .next (t.startLoaded pins).finish := by
    show Host.Outcome.next (s.finishLoading (.bytes b) pins).finish = _
    have hloaded : t.loaded = true := by simp [loaded_iff, hready.loader]
    rw [finishLoading_of_loading hloading, ← ht]
    simp only [hloaded, if_true]
  obtain ⟨h, hwarned, hestop, hrun⟩ := startLoaded_started hready pins
  refine ⟨t.startLoaded pins, hexec, h.loader, h.inputs, h.samples, h.header, h.ports, h.silence, h.listens.1, h.listens.2,
    h.operator.1, h.operator.2, h.links, hwarned, hestop, fun hl => (hrun hl).trans ?_⟩
  rw [ht]
  rfl

end Sys2Proof.Machine
end

section
/-! PROOFS. The loaded image (O8): each field as the value its bytes hold, clamped; the profiles cut; the thresholds in order. -/

namespace Sys2Proof.Machine

/-! ### One field (R190) -/

theorem value_eq_clampTo {f : ImageField} (hrange : f.lo ≤ f.hi) (b : List Byte) : f.value b = clampTo f.lo f.hi (f.raw b) := by
  unfold ImageField.value clampTo
  split
  · omega
  · split <;> omega

theorem value_le_hi {f : ImageField} (hrange : f.lo ≤ f.hi) (b : List Byte) : f.value b ≤ f.hi := by
  unfold ImageField.value
  omega

/-- A field of one byte. -/
theorem value_byte (first lo hi : Nat) (hrange : lo ≤ hi) (b : List Byte) :
    (⟨first, 1, lo, hi⟩ : ImageField).value b = clampTo lo hi (byteAt b first) :=
  value_eq_clampTo hrange b

/-- A field of two bytes. -/
theorem value_word (first lo hi : Nat) (hrange : lo ≤ hi) (b : List Byte) :
    (⟨first, 2, lo, hi⟩ : ImageField).value b = clampTo lo hi (wordAt b first) :=
  value_eq_clampTo hrange b

theorem byteAt_le (b : List Byte) (i : Nat) : byteAt b i ≤ 255 := Nat.le_of_lt_succ (b.getD i 0).isLt

/-- A field whose range is every value of its byte. -/
theorem value_whole_byte (first : Nat) (b : List Byte) : (⟨first, 1, 0, 255⟩ : ImageField).value b = byteAt b first := by
  have hle := byteAt_le b first
  rw [value_byte _ _ _ (by decide)]
  unfold clampTo
  rw [if_neg (by omega), if_neg (by omega)]

/-! ### Profiles (R191) -/

/-- The steps that are kept after one that stands are the first few, up to one that does not fall. -/
theorem fallingFrom_eq_take (prev : Step) (l : List Step) :
    ∃ m ≤ l.length, fallingFrom prev.target l = l.take m ∧
      ∀ x y, m < l.length → (prev :: l)[m]? = some x → l[m]? = some y → x.target ≤ y.target := by
  induction l generalizing prev with
  | nil => exact ⟨0, Nat.le_refl _, rfl, fun _ _ h => absurd h (Nat.lt_irrefl _)⟩
  | cons a rest ih =>
    by_cases hfalls : a.target < prev.target
    · obtain ⟨m, hm, htake, hstop⟩ := ih a
      refine ⟨m + 1, Nat.succ_le_succ hm, ?_, fun x y hlt hx hy => hstop x y (Nat.lt_of_succ_lt_succ hlt) hx hy⟩
      rw [fallingFrom, if_pos hfalls, htake, List.take_succ_cons]
    · refine ⟨0, Nat.zero_le _, if_neg hfalls, fun x y _ hx hy => ?_⟩
      rw [← Option.some.inj hx, ← Option.some.inj hy]
      exact Nat.le_of_not_lt hfalls

/-- A profile that has a step is cut at a step that does not fall, or not at all. -/
theorem truncate_eq_take {l : List Step} (hne : l ≠ []) :
    ∃ m, 1 ≤ m ∧ m ≤ l.length ∧ truncate l = l.take m ∧
      ∀ x y, m < l.length → l[m - 1]? = some x → l[m]? = some y → x.target ≤ y.target := by
  cases l with
  | nil => exact absurd rfl hne
  | cons a rest =>
    obtain ⟨m, hm, htake, hstop⟩ := fallingFrom_eq_take a rest
    refine ⟨m + 1, Nat.succ_pos _, Nat.succ_le_succ hm, ?_, fun x y hlt hx hy => ?_⟩
    · rw [truncate, htake, List.take_succ_cons]
    · exact hstop x y (Nat.lt_of_succ_lt_succ hlt) hx hy

/-- The targets that are kept fall. -/
theorem fallingFrom_falls (prev : Nat) (l : List Step) :
    ((fallingFrom prev l).map Step.target).Pairwise (fun x y => y < x) ∧ ∀ x ∈ fallingFrom prev l, x.target < prev := by
  induction l generalizing prev with
  | nil => exact ⟨.nil, by simp [fallingFrom]⟩
  | cons a rest ih =>
    obtain ⟨hpairs, hbelow⟩ := ih a.target
    unfold fallingFrom
    split
    next hfalls =>
      refine ⟨List.pairwise_cons.mpr ⟨fun y hy => ?_, hpairs⟩, fun x hx => ?_⟩
      · obtain ⟨x, hx, rfl⟩ := List.mem_map.mp hy
        exact hbelow x hx
      · rcases List.mem_cons.mp hx with rfl | hx
        · exact hfalls
        · exact (hbelow x hx).trans hfalls
    next => exact ⟨.nil, by simp⟩

theorem truncate_falls (l : List Step) : ((truncate l).map Step.target).Pairwise (fun x y => y < x) := by
  cases l with
  | nil => exact .nil
  | cons a rest =>
    obtain ⟨hpairs, hbelow⟩ := fallingFrom_falls a.target rest
    refine List.pairwise_cons.mpr ⟨fun y hy => ?_, hpairs⟩
    obtain ⟨x, hx, rfl⟩ := List.mem_map.mp hy
    exact hbelow x hx

/-! ### The steps of a kind -/

/-- A step of a profile as its bytes hold it, clamped. -/
def stepAt (b : List Byte) (profile i : Nat) : Step :=
  ⟨clampTo 0 9999 (wordAt b (profile + 1 + 3 * i)), clampTo 1 255 (byteAt b (profile + 3 + 3 * i))⟩

theorem clampedSteps_eq (k : Kind) (b : List Byte) :
    clampedSteps k b = (List.range (clampTo 1 6 (byteAt b (profileBase k)))).map (stepAt b (profileBase k)) := by
  unfold clampedSteps
  dsimp only
  rw [countField, value_byte _ _ _ (by decide)]
  refine List.map_congr_left fun i _ => ?_
  rw [targetField, dwellField, value_word _ _ _ (by decide), value_byte _ _ _ (by decide)]
  rfl

theorem clampTo_le {lo hi : Nat} (hrange : lo ≤ hi) (n : Nat) : lo ≤ clampTo lo hi n ∧ clampTo lo hi n ≤ hi := by
  unfold clampTo
  split
  · omega
  · split <;> omega

theorem clampedSteps_length (k : Kind) (b : List Byte) :
    (clampedSteps k b).length = clampTo 1 6 (byteAt b (profileBase k)) := by
  rw [clampedSteps_eq, List.length_map, List.length_range]

theorem clampedSteps_getElem? {k : Kind} {b : List Byte} {i : Nat} (hi : i < clampTo 1 6 (byteAt b (profileBase k))) :
    (clampedSteps k b)[i]? = some (stepAt b (profileBase k) i) := by
  rw [clampedSteps_eq, List.getElem?_map, List.getElem?_range hi]
  rfl

theorem steps_cut (k : Kind) (b : List Byte) :
    ∃ m, 1 ≤ m ∧ m ≤ clampTo 1 6 (byteAt b (profileBase k)) ∧
      (readKindSet k b).steps = (List.range m).map (stepAt b (profileBase k)) ∧
      (m < clampTo 1 6 (byteAt b (profileBase k)) →
        (stepAt b (profileBase k) (m - 1)).target ≤ (stepAt b (profileBase k) m).target) ∧
      (wasTruncated k b = true ↔ m < clampTo 1 6 (byteAt b (profileBase k))) := by
  have hlength := clampedSteps_length k b
  have hcount := clampTo_le (show 1 ≤ 6 by decide) (byteAt b (profileBase k))
  have hne : clampedSteps k b ≠ [] := fun h => by simp [h] at hlength; omega
  obtain ⟨m, hpos, hm, htake, hstop⟩ := truncate_eq_take hne
  rw [hlength] at hm hstop
  refine ⟨m, hpos, hm, ?_, fun hlt => ?_, ?_⟩
  · show truncate (clampedSteps k b) = _
    rw [htake, clampedSteps_eq, ← List.map_take, List.take_range, Nat.min_eq_left hm]
  · exact hstop _ _ hlt (clampedSteps_getElem? (by omega)) (clampedSteps_getElem? hlt)
  · rw [wasTruncated, htake, hlength, List.length_take, hlength]
    simp only [decide_eq_true_eq]
    omega

/-! ### Kinds (R192) -/

theorem isDisabled_iff {g : KindSet} {t : Nat} (htarget : g.target 1 = some t) : isDisabled g = true ↔ g.emptyThreshold ≤ t := by
  simp [isDisabled, htarget]

theorem kinds_get (b : List Byte) (p : PortId) :
    (readConfig b).kinds.get p =
      runKind (readKindSet .circuit b) (readKindSet .foam b) (readKind (byteAt b (1 + p.num))) := by
  cases p <;> rfl

theorem kindSet_eq (k : Kind) (b : List Byte) : (readConfig b).kindSet k = readKindSet k b := by cases k <;> rfl

/-- A port whose byte names a kind runs as it, unless the kind is disabled. -/
theorem kinds_of_kindCode {b : List Byte} {p : PortId} {k : Kind} (hbyte : byteAt b (1 + p.num) = kindCode (some k)) :
    (readConfig b).kinds.get p = if isDisabled (readKindSet k b) then none else some k := by
  rw [kinds_get, hbyte]
  cases k <;> rfl

theorem readKind_eq_some {n : Nat} {k : Kind} (h : readKind n = some k) : n = kindCode (some k) := by
  unfold readKind at h
  split at h
  · rw [← Option.some.inj h]
    rfl
  · rw [← Option.some.inj h]
    rfl
  · cases h

theorem readKind_eq_none {n : Nat} (hcircuit : n ≠ 1) (hfoam : n ≠ 2) : readKind n = none := by
  unfold readKind
  split
  · exact absurd rfl hcircuit
  · exact absurd rfl hfoam
  · rfl

/-- A port that runs as a kind has a profile whose first target is below the empty threshold. -/
theorem enabled_of_kinds {b : List Byte} {p : PortId} {k : Kind} (h : (readConfig b).kinds.get p = some k) {t : Nat}
    (htarget : (readKindSet k b).target 1 = some t) : t < (readKindSet k b).emptyThreshold := by
  have hbyte : byteAt b (1 + p.num) = kindCode (some k) := by
    rw [kinds_get] at h
    cases hread : readKind (byteAt b (1 + p.num)) with
    | none => simp [hread, runKind] at h
    | some j =>
      obtain rfl : j = k := by
        rw [hread] at h
        cases j <;> simp only [runKind] at h <;> split at h <;> simp_all
      exact readKind_eq_some hread
  rw [kinds_of_kindCode hbyte] at h
  split at h
  · cases h
  next hnot => exact Nat.lt_of_not_le fun hle => hnot ((isDisabled_iff htarget).mpr hle)

/-! ### Thresholds (R193) -/

theorem orderReceiver_full (g : ReceiverSet) : (orderReceiver g).full = g.full ∧ (orderReceiver g).tare = g.tare ∧
    (orderReceiver g).noise = g.noise := by
  unfold orderReceiver
  dsimp only
  split <;> split <;> exact ⟨rfl, rfl, rfl⟩

theorem orderReceiver_dOn (g : ReceiverSet) : (orderReceiver g).dOn = if g.full ≤ g.dOn then g.full - 1 else g.dOn := by
  unfold orderReceiver
  dsimp only
  split <;> split <;> rfl

theorem orderReceiver_dOff (g : ReceiverSet) :
    (orderReceiver g).dOff = if (orderReceiver g).dOn ≤ g.dOff then (orderReceiver g).dOn - 1 else g.dOff := by
  rw [orderReceiver_dOn]
  unfold orderReceiver
  dsimp only
  split
  · split <;> rfl
  · split <;> rfl

theorem receiverSet_ext {g h : ReceiverSet} (htare : g.tare = h.tare) (hfull : g.full = h.full) (hdOn : g.dOn = h.dOn)
    (hdOff : g.dOff = h.dOff) (hnoise : g.noise = h.noise) : g = h := by
  cases g
  cases h
  simp_all

/-- The receiver was adjusted exactly where one of its two lower thresholds moved. -/
theorem orderReceiver_ne_iff (g : ReceiverSet) :
    orderReceiver g ≠ g ↔ (orderReceiver g).dOn ≠ g.dOn ∨ (orderReceiver g).dOff ≠ g.dOff := by
  obtain ⟨hfull, htare, hnoise⟩ := orderReceiver_full g
  constructor
  · intro hne
    by_contra hboth
    push Not at hboth
    exact hne (receiverSet_ext htare hfull hboth.1 hboth.2 hnoise)
  · intro hmoved hsame
    rw [hsame] at hmoved
    rcases hmoved with h | h <;> exact h rfl

theorem orderReceiver_order {g : ReceiverSet} (hfull : 2 ≤ g.full) (hdOn : 1 ≤ g.dOn) :
    (orderReceiver g).dOff < (orderReceiver g).dOn ∧ (orderReceiver g).dOn < (orderReceiver g).full := by
  have hon : (orderReceiver g).dOn < (orderReceiver g).full ∧ 1 ≤ (orderReceiver g).dOn := by
    rw [orderReceiver_dOn, (orderReceiver_full g).1]
    split <;> omega
  refine ⟨?_, hon.1⟩
  rw [orderReceiver_dOff]
  split <;> omega

theorem rcvSet_eq (c : GasClass) (b : List Byte) : (readConfig b).rcvSet c = orderReceiver (clampedReceiver c b) := by
  cases c <;> rfl

theorem clampedReceiver_eq (c : GasClass) (b : List Byte) :
    clampedReceiver c b =
      ⟨clampTo 0 60000 (wordAt b (receiverBase c)), clampTo 2 60000 (wordAt b (receiverBase c + 2)),
        clampTo 1 59999 (wordAt b (receiverBase c + 4)), clampTo 0 59998 (wordAt b (receiverBase c + 6)),
        clampTo 0 15 (byteAt b (receiverBase c + 8))⟩ := by
  unfold clampedReceiver
  dsimp only
  rw [tareField, fullField, dOnField, dOffField, noiseField, value_word _ _ _ (by decide), value_word _ _ _ (by decide),
    value_word _ _ _ (by decide), value_word _ _ _ (by decide), value_byte _ _ _ (by decide)]

theorem orderAnalyser_ne_iff (g : AnalyserSet) : orderAnalyser g ≠ g ↔ (orderAnalyser g).ti ≠ g.ti := by
  unfold orderAnalyser
  split
  · refine ⟨fun hne hsame => hne ?_, fun hne hsame => hne (congrArg AnalyserSet.ti hsame)⟩
    cases g
    simp_all
  · simp

/-! ### The kind sets -/

/-- The fields of a kind set but its steps, as their bytes hold them. -/
theorem readKindSet_fields (k : Kind) (b : List Byte) :
    (readKindSet k b).settleTenths = clampTo 1 255 (byteAt b (kindSetBase k)) ∧
      (readKindSet k b).connectS = clampTo 5 255 (byteAt b (kindSetBase k + 1)) ∧
      (readKindSet k b).holdS = clampTo 5 255 (byteAt b (kindSetBase k + 2)) ∧
      (readKindSet k b).riseLimit = clampTo 1 999 (wordAt b (kindSetBase k + 3)) ∧
      (readKindSet k b).maxRecycles = clampTo 0 7 (byteAt b (kindSetBase k + 5)) ∧
      (readKindSet k b).emptyThreshold = clampTo 1 9999 (wordAt b (kindSetBase k + 6)) ∧
      (readKindSet k b).lowYield = byteAt b (kindSetBase k + 8) :=
  ⟨value_byte _ _ _ (by decide) b, value_byte _ _ _ (by decide) b, value_byte _ _ _ (by decide) b,
    value_word _ _ _ (by decide) b, value_byte _ _ _ (by decide) b, value_word _ _ _ (by decide) b, value_whole_byte _ b⟩

/-- Every step that is kept is in its range, and there are one to six. -/
theorem steps_inRange (k : Kind) (b : List Byte) :
    1 ≤ (readKindSet k b).steps.length ∧ (readKindSet k b).steps.length ≤ 6 ∧
      ((readKindSet k b).steps.map Step.target).Pairwise (fun x y => y < x) ∧
      ∀ x ∈ (readKindSet k b).steps, x.target ≤ 9999 ∧ 1 ≤ x.dwellS ∧ x.dwellS ≤ 255 := by
  obtain ⟨m, hpos, hm, hsteps, -, -⟩ := steps_cut k b
  have hcount := clampTo_le (show 1 ≤ 6 by decide) (byteAt b (profileBase k))
  have hlength : (readKindSet k b).steps.length = m := by rw [hsteps, List.length_map, List.length_range]
  refine ⟨by omega, by omega, truncate_falls _, fun x hx => ?_⟩
  rw [hsteps] at hx
  obtain ⟨i, -, rfl⟩ := List.mem_map.mp hx
  exact ⟨(clampTo_le (lo := 0) (by decide) _).2, clampTo_le (by decide) _⟩

theorem kindSet_inRange (k : Kind) (b : List Byte) :
    1 ≤ (readKindSet k b).settleTenths ∧ (readKindSet k b).settleTenths ≤ 255 ∧
      5 ≤ (readKindSet k b).connectS ∧ (readKindSet k b).connectS ≤ 255 ∧
      5 ≤ (readKindSet k b).holdS ∧ (readKindSet k b).holdS ≤ 255 ∧
      1 ≤ (readKindSet k b).riseLimit ∧ (readKindSet k b).riseLimit ≤ 999 ∧
      (readKindSet k b).maxRecycles ≤ 7 ∧ 1 ≤ (readKindSet k b).emptyThreshold ∧
      (readKindSet k b).emptyThreshold ≤ 9999 ∧ (readKindSet k b).lowYield ≤ 255 := by
  obtain ⟨hsettle, hconnect, hhold, hrise, hrecycles, hempty, hyield⟩ := readKindSet_fields k b
  rw [hsettle, hconnect, hhold, hrise, hrecycles, hempty, hyield]
  have hrange : ∀ lo hi n, lo ≤ hi → lo ≤ clampTo lo hi n ∧ clampTo lo hi n ≤ hi := fun _ _ n h => clampTo_le h n
  obtain ⟨hs1, hs2⟩ := hrange 1 255 (byteAt b (kindSetBase k)) (by decide)
  obtain ⟨hc1, hc2⟩ := hrange 5 255 (byteAt b (kindSetBase k + 1)) (by decide)
  obtain ⟨hh1, hh2⟩ := hrange 5 255 (byteAt b (kindSetBase k + 2)) (by decide)
  obtain ⟨hr1, hr2⟩ := hrange 1 999 (wordAt b (kindSetBase k + 3)) (by decide)
  obtain ⟨he1, he2⟩ := hrange 1 9999 (wordAt b (kindSetBase k + 6)) (by decide)
  exact ⟨hs1, hs2, hc1, hc2, hh1, hh2, hr1, hr2, (hrange 0 7 _ (by decide)).2, he1, he2, byteAt_le b _⟩

/-- Every base of the map at once: the kind, its profile and its set. -/
theorem bases_of_kind {k : Kind} {profile set : Nat}
    (h : k = .circuit ∧ profile = 8 ∧ set = 46 ∨ k = .foam ∧ profile = 27 ∧ set = 55) :
    profile = profileBase k ∧ set = kindSetBase k := by
  rcases h with ⟨rfl, rfl, rfl⟩ | ⟨rfl, rfl, rfl⟩ <;> exact ⟨rfl, rfl⟩

theorem truncated_warning (k : Kind) (b : List Byte) :
    (if k = .circuit then (readWarnings b).truncatedCircuit else (readWarnings b).truncatedFoam) = wasTruncated k b := by
  cases k <;> rfl

theorem disabled_warning (k : Kind) (b : List Byte) :
    (if k = .circuit then (readWarnings b).disabledCircuit else (readWarnings b).disabledFoam) =
      isDisabled (readKindSet k b) := by
  cases k <;> rfl

/-! ### The receivers, the analyser and the header -/

theorem adjusted_warning (c : GasClass) (b : List Byte) :
    (if c = .halo then (readWarnings b).adjustedHalo else (readWarnings b).adjustedHydro) =
      decide (orderReceiver (clampedReceiver c b) ≠ clampedReceiver c b) := by
  cases c <;> rfl

theorem rcvSet_fields (c : GasClass) (b : List Byte) :
    ((readConfig b).rcvSet c).tare = clampTo 0 60000 (wordAt b (receiverBase c)) ∧
      ((readConfig b).rcvSet c).full = clampTo 2 60000 (wordAt b (receiverBase c + 2)) ∧
      ((readConfig b).rcvSet c).dOn =
        (if ((readConfig b).rcvSet c).full ≤ clampTo 1 59999 (wordAt b (receiverBase c + 4)) then
          ((readConfig b).rcvSet c).full - 1
        else clampTo 1 59999 (wordAt b (receiverBase c + 4))) ∧
      ((readConfig b).rcvSet c).dOff =
        (if ((readConfig b).rcvSet c).dOn ≤ clampTo 0 59998 (wordAt b (receiverBase c + 6)) then
          ((readConfig b).rcvSet c).dOn - 1
        else clampTo 0 59998 (wordAt b (receiverBase c + 6))) ∧
      ((readConfig b).rcvSet c).noise = clampTo 0 15 (byteAt b (receiverBase c + 8)) ∧
      ((if c = .halo then (readWarnings b).adjustedHalo else (readWarnings b).adjustedHydro) = true ↔
        ((readConfig b).rcvSet c).dOn ≠ clampTo 1 59999 (wordAt b (receiverBase c + 4)) ∨
          ((readConfig b).rcvSet c).dOff ≠ clampTo 0 59998 (wordAt b (receiverBase c + 6))) := by
  obtain ⟨hfull, htare, hnoise⟩ := orderReceiver_full (clampedReceiver c b)
  have hdOn := orderReceiver_dOn (clampedReceiver c b)
  have hdOff := orderReceiver_dOff (clampedReceiver c b)
  have hne := orderReceiver_ne_iff (clampedReceiver c b)
  rw [adjusted_warning, rcvSet_eq, decide_eq_true_eq, hne, hfull]
  rw [clampedReceiver_eq] at hfull htare hnoise hdOn hdOff ⊢
  exact ⟨htare, rfl, hdOn, hdOff, hnoise, Iff.rfl⟩

theorem rcvSet_inRange (c : GasClass) (b : List Byte) :
    ((readConfig b).rcvSet c).dOff < ((readConfig b).rcvSet c).dOn ∧
      ((readConfig b).rcvSet c).dOn < ((readConfig b).rcvSet c).full ∧ 2 ≤ ((readConfig b).rcvSet c).full ∧
      ((readConfig b).rcvSet c).full ≤ 60000 ∧ ((readConfig b).rcvSet c).tare ≤ 60000 ∧
      ((readConfig b).rcvSet c).noise ≤ 15 := by
  obtain ⟨htare, hfull, -, -, hnoise, -⟩ := rcvSet_fields c b
  have hrange := clampTo_le (show 2 ≤ 60000 by decide) (wordAt b (receiverBase c + 2))
  have hclamped := clampedReceiver_eq c b
  obtain ⟨hoff, hon⟩ := orderReceiver_order (g := clampedReceiver c b) (by rw [hclamped]; exact hrange.1)
    (by rw [hclamped]; exact (clampTo_le (by decide) _).1)
  rw [← rcvSet_eq] at hoff hon
  refine ⟨hoff, hon, hfull ▸ hrange.1, hfull ▸ hrange.2, ?_, ?_⟩
  · exact htare ▸ (clampTo_le (by decide) _).2
  · exact hnoise ▸ (clampTo_le (by decide) _).2

theorem clampedAnalyser_eq (b : List Byte) :
    clampedAnalyser b =
      ⟨clampTo 1 10 (byteAt b 64), clampTo 2 1000 (wordAt b 65), clampTo 1 999 (wordAt b 67), clampTo 1 65535 (wordAt b 69),
        clampTo 1 65535 (wordAt b 71), clampTo 1 65535 (wordAt b 73), clampTo 0 7 (byteAt b 75), clampTo 0 15 (byteAt b 76),
        clampTo 10 255 (byteAt b 77)⟩ := by
  unfold clampedAnalyser
  rw [sampleField, tpField, tiField, traceField, haloLeakField, hydroLeakField, periodField, leadField, classifyWaitField,
    value_byte _ _ _ (by decide), value_word _ _ _ (by decide), value_word _ _ _ (by decide), value_word _ _ _ (by decide),
    value_word _ _ _ (by decide), value_word _ _ _ (by decide), value_byte _ _ _ (by decide), value_byte _ _ _ (by decide),
    value_byte _ _ _ (by decide)]

/-- The adjustment moves Ti alone. -/
theorem orderAnalyser_eq (g : AnalyserSet) :
    orderAnalyser g = { g with ti := if g.tp ≤ g.ti then g.tp - 1 else g.ti } := by
  unfold orderAnalyser
  split <;> rfl

theorem analyser_eq (b : List Byte) :
    (readConfig b).analyser =
      ⟨clampTo 1 10 (byteAt b 64), clampTo 2 1000 (wordAt b 65),
        if clampTo 2 1000 (wordAt b 65) ≤ clampTo 1 999 (wordAt b 67) then clampTo 2 1000 (wordAt b 65) - 1
        else clampTo 1 999 (wordAt b 67),
        clampTo 1 65535 (wordAt b 69), clampTo 1 65535 (wordAt b 71), clampTo 1 65535 (wordAt b 73), clampTo 0 7 (byteAt b 75),
        clampTo 0 15 (byteAt b 76), clampTo 10 255 (byteAt b 77)⟩ := by
  show orderAnalyser (clampedAnalyser b) = _
  rw [orderAnalyser_eq, clampedAnalyser_eq]

theorem header_eq (b : List Byte) :
    (readConfig b).header =
      ⟨clampTo 1 60 (byteAt b 96), clampTo 5 120 (byteAt b 97), clampTo 1000 9000 (wordAt b 98),
        clampTo 10 120 (byteAt b 100), clampTo 10 600 (wordAt b 101)⟩ := by
  show (⟨drainField.value b, purgeField.value b, overLimitField.value b, stallField.value b, alarmField.value b⟩ : HeaderSet) = _
  rw [drainField, purgeField, overLimitField, stallField, alarmField, value_byte _ _ _ (by decide), value_byte _ _ _ (by decide),
    value_word _ _ _ (by decide), value_byte _ _ _ (by decide), value_word _ _ _ (by decide)]

theorem adjustedAnalyser_iff (b : List Byte) :
    (readWarnings b).adjustedAnalyser = true ↔ (readConfig b).analyser.ti ≠ clampTo 1 999 (wordAt b 67) := by
  have hti : (clampedAnalyser b).ti = clampTo 1 999 (wordAt b 67) := by rw [clampedAnalyser_eq]
  show decide (orderAnalyser (clampedAnalyser b) ≠ clampedAnalyser b) = true ↔ _
  rw [decide_eq_true_eq, orderAnalyser_ne_iff, hti]
  rfl

/-- The ranges of the analyser's and the header's fields. -/
theorem analyser_header_inRange (b : List Byte) :
    1 ≤ (readConfig b).analyser.ti ∧ (readConfig b).analyser.ti < (readConfig b).analyser.tp ∧
    2 ≤ (readConfig b).analyser.tp ∧ (readConfig b).analyser.tp ≤ 1000 ∧
    1 ≤ (readConfig b).analyser.sampleS ∧ (readConfig b).analyser.sampleS ≤ 10 ∧
    1 ≤ (readConfig b).analyser.traceLimit ∧ (readConfig b).analyser.traceLimit ≤ 65535 ∧
    1 ≤ (readConfig b).analyser.haloLeak ∧ (readConfig b).analyser.haloLeak ≤ 65535 ∧
    1 ≤ (readConfig b).analyser.hydroLeak ∧ (readConfig b).analyser.hydroLeak ≤ 65535 ∧
    (readConfig b).analyser.periodCode ≤ 7 ∧ (readConfig b).analyser.leadCode ≤ 15 ∧
    10 ≤ (readConfig b).analyser.classifyWaitS ∧ (readConfig b).analyser.classifyWaitS ≤ 255 ∧
    1 ≤ (readConfig b).header.drainS ∧ (readConfig b).header.drainS ≤ 60 ∧ 5 ≤ (readConfig b).header.purgeS ∧
    (readConfig b).header.purgeS ≤ 120 ∧ 1000 ≤ (readConfig b).header.overLimit ∧
    (readConfig b).header.overLimit ≤ 9000 ∧ 10 ≤ (readConfig b).header.stallS ∧ (readConfig b).header.stallS ≤ 120 ∧
    10 ≤ (readConfig b).header.alarmS ∧ (readConfig b).header.alarmS ≤ 600 := by
  have hrange : ∀ lo hi n, lo ≤ hi → lo ≤ clampTo lo hi n ∧ clampTo lo hi n ≤ hi := fun _ _ n h => clampTo_le h n
  have hti := hrange 1 999 (wordAt b 67) (by decide)
  have htp := hrange 2 1000 (wordAt b 65) (by decide)
  have horder : 1 ≤ (readConfig b).analyser.ti ∧ (readConfig b).analyser.ti < (readConfig b).analyser.tp := by
    rw [analyser_eq]
    dsimp only
    split <;> omega
  refine ⟨horder.1, horder.2, ?_⟩
  rw [analyser_eq, header_eq]
  exact ⟨htp.1, htp.2, (hrange 1 10 _ (by decide)).1, (hrange 1 10 _ (by decide)).2, (hrange 1 65535 _ (by decide)).1,
    (hrange 1 65535 _ (by decide)).2, (hrange 1 65535 _ (by decide)).1, (hrange 1 65535 _ (by decide)).2,
    (hrange 1 65535 _ (by decide)).1, (hrange 1 65535 _ (by decide)).2, (hrange 0 7 _ (by decide)).2,
    (hrange 0 15 _ (by decide)).2, (hrange 10 255 _ (by decide)).1, (hrange 10 255 _ (by decide)).2,
    (hrange 1 60 _ (by decide)).1, (hrange 1 60 _ (by decide)).2, (hrange 5 120 _ (by decide)).1,
    (hrange 5 120 _ (by decide)).2, (hrange 1000 9000 _ (by decide)).1, (hrange 1000 9000 _ (by decide)).2,
    (hrange 10 120 _ (by decide)).1, (hrange 10 120 _ (by decide)).2, (hrange 10 600 _ (by decide)).1,
    (hrange 10 600 _ (by decide)).2⟩

/-- Settles O8: each field is its bytes' value clamped, by the two shapes a field has; the rest is the cut of the profiles and the order
of the thresholds. -/
theorem loadedImageIsInRange : Obligations.LoadedImageIsInRange := fun b => by
  have hana := analyser_eq b
  refine ⟨fun h => Nat.mod_eq_of_lt (Nat.lt_of_le_of_lt h (by decide)), rfl, value_whole_byte 7 b, ?kinds, ?unknown, by rw [hana],
    by rw [hana], by rw [hana], adjustedAnalyser_iff b, by rw [hana], by rw [hana], by rw [hana], by rw [hana], by rw [hana],
    by rw [hana], ?receivers, header_eq b, fun k => ?steps, fun p k hp t ht => ?enabled, fun c => rcvSet_inRange c b, ?debounce,
    analyser_header_inRange b⟩
  case kinds =>
    intro k profile set h
    obtain ⟨rfl, rfl⟩ := bases_of_kind h
    obtain ⟨hsettle, hconnect, hhold, hrise, hrecycles, hempty, hyield⟩ := readKindSet_fields k b
    obtain ⟨m, hpos, hm, hsteps, hstop, hwarned⟩ := steps_cut k b
    rw [kindSet_eq, truncated_warning, disabled_warning]
    refine ⟨hsettle, hconnect, hhold, hrise, hrecycles, hempty, hyield, ⟨m, hpos, hm, hsteps, hstop, hwarned⟩, fun t ht => ?_⟩
    refine ⟨isDisabled_iff ht, fun p hp => ?_⟩
    rw [kinds_of_kindCode hp]
    simp only [isDisabled_iff ht]
  case unknown =>
    intro p hcircuit hfoam
    rw [kinds_get, readKind_eq_none hcircuit hfoam]
    rfl
  case receivers =>
    intro c base h
    obtain rfl : base = receiverBase c := by rcases h with ⟨rfl, rfl⟩ | ⟨rfl, rfl⟩ <;> rfl
    exact rcvSet_fields c b
  case steps =>
    rw [kindSet_eq]
    obtain ⟨hmin, hmax, hfalls, hsteps⟩ := steps_inRange k b
    exact ⟨hmin, hmax, hfalls, hsteps, kindSet_inRange k b⟩
  case enabled =>
    rw [kindSet_eq] at ht ⊢
    exact enabled_of_kinds hp ht
  case debounce =>
    show debounceField.value b ≤ 255
    exact value_le_hi (by decide) b

end Sys2Proof.Machine
end

section
/-! PROOFS. Messages of the terminal (09): what becomes of one that is judged, owed a refusal or ignored (O9), the station-wide checks
(O10), and the link's timers (O20). -/

namespace Sys2Proof.Machine

/-! ### The three fates of a message (R175 to R177) -/

/-- A message at an IDLE transmitter is answered at once. -/
theorem takeMessage_of_free {s : State} (hfree : s.portFree) {after : OperatorPort → OperatorPort}
    (hafter : (after s.op).tx = s.op.tx) (owed : Owed) (answer : State → State × List Message) :
    s.takeMessage after owed answer =
      (answer (s.setOp (after s.op))).1.respond (answer (s.setOp (after s.op))).2 := by
  obtain ⟨hactive, hidle⟩ := hfree
  have htx : (s.setOp (after s.op)).op.tx = .idle := hafter.trans hidle
  simp only [State.takeMessage, hactive, if_true, htx]

/-- While the transmitter sends, a message is owed a refusal, unless one is owed already. -/
theorem takeMessage_of_busy {s : State} (hactive : s.op.framer.active = true) (hbusy : s.op.tx ≠ .idle)
    {after : OperatorPort → OperatorPort} (hafter : (after s.op).tx = s.op.tx ∧ (after s.op).owed = s.op.owed) (owed : Owed)
    (answer : State → State × List Message) :
    s.takeMessage after owed answer =
      s.setOp (if s.op.owed = none then { after s.op with owed := some owed } else after s.op) := by
  obtain ⟨htx, howed⟩ := hafter
  unfold State.takeMessage
  rw [if_pos hactive]
  dsimp only
  split
  next hidle => exact absurd (htx.symm.trans hidle) hbusy
  next =>
    split
    next hnone =>
      rw [if_pos (howed.symm.trans hnone)]
      rfl
    next o hsome =>
      have hne : s.op.owed ≠ none := by
        rw [← howed]
        exact fun h => by simp [h] at hsome
      rw [if_neg hne]

/-- A framer that waits for quiet ignores a message and waits again. -/
theorem takeMessage_of_waiting {s : State} (hwaits : s.op.framer.active = false) (after : OperatorPort → OperatorPort) (owed : Owed)
    (answer : State → State × List Message) :
    s.takeMessage after owed answer = s.setOp { s.op with gap := s.op.gap.restart Config.quietMs } := by
  simp only [State.takeMessage, hwaits, Bool.false_eq_true, if_false]

theorem setOp_sameBut (x : OperatorPort) (s : State) : s.SameBut [.op] (s.setOp x) := by
  rw [sameBut_iff]
  simp

/-- Every message that a refusal can be owed for is taken by `takeMessage`. -/
theorem exec_of_owedFor {i : Instr} {o : Owed} (howed : owedFor i = some o) (hgap : i ≠ .operatorGapExpiry) :
    ∃ answer : State → State × List Message, ∀ s, exec i s = .next (s.takeMessage (framerAfter i) o answer).finish := by
  cases i <;> cases howed
  case operatorGapExpiry.refl => exact absurd rfl hgap
  all_goals exact ⟨_, fun _ => rfl⟩

theorem framerAfter_tx_owed (i : Instr) (x : OperatorPort) :
    (framerAfter i x).tx = x.tx ∧ (framerAfter i x).owed = x.owed := by
  unfold framerAfter
  split <;> exact ⟨rfl, rfl⟩

theorem exec_operatorGapExpiry_of_active {s : State} (hactive : s.op.framer.active = true) :
    exec .operatorGapExpiry s =
      .next ((s.elapse s.messageGap).takeMessage OperatorPort.hunt .malformed fun t => (t, [refuseMalformed])).finish := by
  show Host.Outcome.next s.bytesStop.finish = _
  rw [State.bytesStop, if_pos hactive]

theorem portFree_elapse {s : State} (hfree : s.portFree) (n : Nat) : (s.elapse n).portFree := hfree

/-- A message that is no request is refused at once at an IDLE transmitter, in the state in which it is judged. -/
theorem refusedAtOnce {i : Instr} {t : State} (hfree : t.portFree) {after : OperatorPort → OperatorPort}
    (hafter : (after t.op).tx = t.op.tx) (owed : Owed) (m : Message)
    (hexec : exec i = fun s => .next (s.takeMessage after owed fun t => (t, [m])).finish) :
    ∃ u : State, exec i t = .next u.finish ∧ t.SameBut [.op] u ∧ u.op = { after t.op with tx := .responding [m] } := by
  refine ⟨t.setOp { after t.op with tx := .responding [m] }, ?_, setOp_sameBut _ t, rfl⟩
  rw [hexec]
  simp only [takeMessage_of_free hfree hafter]
  rfl

theorem elapse_hunt (n : Nat) (s : State) : (s.elapse n).op.hunt = s.op.hunt := rfl

/-- Settles O9: the three fates of a message, for each message a refusal can be owed for. -/
theorem unreadableMessageIsRefused : Obligations.UnreadableMessageIsRefused := fun s => by
  refine ⟨fun hfree i hi => ?free, fun hfree type => ?unknown, fun i o howed hactive hbusy => ?busy, fun n hwaits hgap => ⟨?gap, ?ignored⟩⟩
  case free =>
    simp only [List.mem_cons, List.not_mem_nil, or_false] at hi
    rcases hi with rfl | rfl | rfl
    · exact refusedAtOnce hfree rfl .malformed _ rfl
    · exact refusedAtOnce hfree rfl .malformed _ rfl
    · refine ⟨(s.elapse s.messageGap).setOp { s.op.hunt with tx := .responding [refuseMalformed] }, ?_, setOp_sameBut _ _, rfl⟩
      rw [exec_operatorGapExpiry_of_active hfree.1, takeMessage_of_free (portFree_elapse hfree _) rfl]
      rfl
  case unknown =>
    obtain ⟨u, hexec, hsame, hop⟩ := refusedAtOnce hfree (i := .unknownRequest type) (after := OperatorPort.hunt) rfl
      (.busy type) (refuse .unknownRequest type) rfl
    exact ⟨u, hexec, hsame, hop⟩
  case busy =>
    by_cases hi : i = .operatorGapExpiry
    · subst hi
      obtain rfl : o = .malformed := (Option.some.inj howed).symm
      refine ⟨_, exec_operatorGapExpiry_of_active hactive, ?_, ?_⟩ <;>
        rw [takeMessage_of_busy (s := s.elapse s.messageGap) hactive hbusy ⟨rfl, rfl⟩]
      · exact setOp_sameBut _ _
      · rfl
    · obtain ⟨answer, hexec⟩ := exec_of_owedFor howed hi
      have hjudged : s.whenJudged i = s := by
        unfold State.whenJudged
        split
        · exact absurd rfl hi
        · rfl
      rw [hjudged]
      refine ⟨_, hexec s, ?_, ?_⟩ <;> rw [takeMessage_of_busy hactive hbusy (framerAfter_tx_owed i s.op)]
      · exact setOp_sameBut _ _
      · rfl
  case gap =>
    refine ⟨(s.elapse 11).setOp { s.op with framer := .hunting, gap := .stopped }, ?_, setOp_sameBut _ _, rfl⟩
    show Host.Outcome.next s.bytesStop.finish = _
    rw [State.bytesStop, if_neg (by simp [hwaits]), hgap]
    rfl
  case ignored =>
    intro i o howed hi
    obtain ⟨answer, hexec⟩ := exec_of_owedFor howed hi
    refine ⟨_, hexec s, ?_, ?_⟩ <;> rw [takeMessage_of_waiting hwaits, hgap]
    · exact setOp_sameBut _ _
    · rfl

/-! ### The station-wide checks (R178) -/

/-- Every request but STATION_STATUS makes the station-wide checks before its own. -/
theorem exec_of_requestType {i : Instr} {type : Byte} (htype : requestType i = some type) (hstatus : i ≠ .stationStatus) :
    ∃ act : State → State × List Message, ∀ s, exec i s = .next (s.request type act).finish := by
  cases i <;> cases htype
  case stationStatus.refl => exact absurd rfl hstatus
  all_goals exact ⟨_, fun _ => rfl⟩

/-- A refusal is an answer with no other effect. -/
theorem refused_respond (code : RefusalCode) (type : Byte) (s : State) :
    Refused (byteOf code.code) type s (s.hunts.respond [refuse code type]) :=
  ⟨respond_sameBut_of_act _ (sameBut_refl [] s.hunts) (by simp) (by simp), rfl⟩

/-- A request at an IDLE transmitter makes the station-wide checks on the state whose framer hunts. -/
theorem request_of_free {s : State} (hfree : s.portFree) (type : Byte) (act : State → State × List Message) :
    s.request type act =
      (State.stationChecks type act s.hunts).1.respond (State.stationChecks type act s.hunts).2 :=
  takeMessage_of_free hfree rfl _ _

/-- Settles O10: the checks precede the request's own act, in their order. -/
theorem stationWideChecksComeFirst : Obligations.StationWideChecksComeFirst := fun i type s htype hstatus hfree => by
  obtain ⟨act, hexec⟩ := exec_of_requestType htype hstatus
  refine ⟨fun hfault => ?_, fun hfault hlisten => ?_⟩
  · have hchecks : State.stationChecks type act s.hunts = (s.hunts, [refuse .configFault type]) := if_pos hfault
    refine ⟨_, hexec s, ?_⟩
    rw [request_of_free hfree, hchecks]
    exact refused_respond .configFault type s
  · have hchecks : State.stationChecks type act s.hunts = (s.hunts, [refuse .notReady type]) :=
      (if_neg (by simp [show s.hunts.configFault = false from hfault])).trans (if_pos hlisten)
    refine ⟨_, hexec s, ?_⟩
    rw [request_of_free hfree, hchecks]
    exact refused_respond .notReady type s

/-! ### The timers of the operator link (R175, R177) -/

theorem txDone_of_none {s : State} (hbusy : s.op.tx ≠ .idle) (hnone : s.op.owed = none) :
    s.txDone = s.setOp { s.op with tx := .idle } := by
  unfold State.txDone
  split
  next hidle => exact absurd hidle hbusy
  next => simp only [hnone]

theorem txDone_of_owed {s : State} {o : Owed} (hbusy : s.op.tx ≠ .idle) (howed : s.op.owed = some o) :
    s.txDone = s.setOp { s.op with tx := .responding [o.message], owed := none } := by
  unfold State.txDone
  split
  next hidle => exact absurd hidle hbusy
  next => simp only [howed]

/-- Settles O20: the quiet's expiry, and the transmitter's next message by what is owed. -/
theorem operatorLinkTimesOut : Obligations.OperatorLinkTimesOut := fun s => by
  refine ⟨fun n hwaits hgap => ⟨(s.elapse n).setOp (s.elapse n).op.hunt, ?_, setOp_sameBut _ _, rfl⟩, fun hbusy => ?_⟩
  · show Host.Outcome.next (if s.op.framer.active then s else s.onExpiry s.op.gap fun t => t.setOp t.op.hunt).finish = _
    rw [if_neg (by simp [hwaits]), hgap]
    rfl
  · cases howed : s.op.owed with
    | none =>
      have hdone : s.txDone = s.setOp { s.op with tx := .idle } := txDone_of_none hbusy howed
      exact ⟨_, rfl, hdone ▸ setOp_sameBut _ s, hdone ▸ rfl⟩
    | some o =>
      have hdone : s.txDone = s.setOp { s.op with tx := .responding [o.message], owed := none } := txDone_of_owed hbusy howed
      exact ⟨_, rfl, hdone ▸ setOp_sameBut _ s, hdone ▸ (by cases o <;> rfl)⟩

end Sys2Proof.Machine
end

section
/-! PROOFS. The requests of the terminal that open, close and show a case (09): OPEN_CASE (O11, O12), ABANDON_CASE (O13) and PORT_STATUS
(O15); and what the close of a case leaves (R29, R87, R88). -/

namespace Sys2Proof.Machine

/-! ### A request that is served, and one that is refused -/

/-- A refusal among a request's own checks is an answer with no other effect. -/
theorem refused_request {s : State} {type : Byte} {act : State → State × List Message} {code : RefusalCode} (hserves : s.serves)
    (hact : act s.hunts = (s.hunts, [refuse code type])) : Refused (byteOf code.code) type s (s.request type act) := by
  rw [request_of_serves hserves, hact]
  exact refused_respond code type s

/-- What a served request leaves, from what its act leaves. -/
theorem request_of_act {s t : State} {type : Byte} {act : State → State × List Message} {messages : List Message} (hserves : s.serves)
    (hact : act s.hunts = (t, messages)) : s.request type act = t.respond messages := by
  rw [request_of_serves hserves, hact]

theorem readPort_eq_none {b : Byte} (hb : 3 < b.toNat) : readPort b = none := by
  obtain ⟨n, hn⟩ : ∃ n, b.toNat = n + 4 := ⟨b.toNat - 4, by omega⟩
  unfold readPort
  rw [hn]
  rfl

theorem readPort_eq_some {b : Byte} {p : PortId} (hb : b.toNat = p.num) : readPort b = some p := by
  unfold readPort
  rw [hb]
  cases p <;> rfl

/-! ### The field checks of OPEN_CASE (R85) -/

theorem readClassOrNone_isSome (n : Nat) : (readClassOrNone n).isSome = true ↔ n ≤ 2 := by
  match n with
  | 0 | 1 | 2 => simp [readClassOrNone]
  | n + 3 => simp [readClassOrNone]

theorem tagOk_iff (tag : List Byte) :
    tagOk tag = true ↔ 1 ≤ tag.length ∧ tag.length ≤ 16 ∧ ∀ c ∈ tag, 0x20 ≤ c.toNat ∧ c.toNat ≤ 0x7E := by
  simp [tagOk, and_assoc]

theorem chargeOk_iff (kind : Kind) (charge : Option Word16) :
    chargeOk kind charge = true ↔ ∀ w, charge = some w → kind = .circuit ∧ 1 ≤ w.toNat := by
  cases charge <;> simp [chargeOk]

theorem foamOk_iff (kind : Kind) (foam : Option Word16) :
    foamOk kind foam = true ↔ ∀ w, foam = some w → kind = .foam ∧ 1 ≤ w.toNat ∧ w.toNat ≤ 999 := by
  cases foam <;> simp [foamOk, and_assoc]

theorem openFieldsOk_iff (kind : Kind) (cls : Byte) (charge foam : Option Word16) (tag : List Byte) :
    openFieldsOk kind cls charge foam tag = true ↔
      1 ≤ tag.length ∧ tag.length ≤ 16 ∧ (∀ c ∈ tag, 0x20 ≤ c.toNat ∧ c.toNat ≤ 0x7E) ∧ cls.toNat ≤ 2 ∧
        (∀ w, charge = some w → kind = .circuit ∧ 1 ≤ w.toNat) ∧
        (∀ w, foam = some w → kind = .foam ∧ 1 ≤ w.toNat ∧ w.toNat ≤ 999) := by
  unfold openFieldsOk
  rw [Bool.and_eq_true, Bool.and_eq_true, Bool.and_eq_true, tagOk_iff, readClassOrNone_isSome, chargeOk_iff, foamOk_iff]
  simp only [and_assoc]

/-! ### OPEN_CASE (R84) -/

theorem openCase_of_paused {s : State} (hpaused : s.lc.paused = true) (port cls : Byte) (charge foam : Option Word16) (tag : List Byte) :
    s.openCase port cls charge foam tag = (s, [refuse .paused 0x01]) := if_pos hpaused

theorem openCase_of_badPort {s : State} (hrun : s.lc.paused = false) {port : Byte} (hport : readPort port = none) (cls : Byte)
    (charge foam : Option Word16) (tag : List Byte) :
    s.openCase port cls charge foam tag = (s, [refuse .badPort 0x01]) := by
  simp [State.openCase, hrun, hport]

section
variable {s : State} (hrun : s.lc.paused = false) {port : Byte} {p : PortId} (hport : readPort port = some p) (cls : Byte)
  (charge foam : Option Word16) (tag : List Byte)
include hrun hport

theorem openCase_of_unused (hunused : (s.port p).state = .unused) :
    s.openCase port cls charge foam tag = (s, [refuse .portUnused 0x01]) := by
  simp [State.openCase, hrun, hport, hunused]

theorem openCase_of_busy (hunused : (s.port p).state ≠ .unused) (hvacant : (s.port p).state ≠ .vacant) :
    s.openCase port cls charge foam tag = (s, [refuse .portBusy 0x01]) := by
  cases hstate : (s.port p).state
  case unused => exact absurd hstate hunused
  case vacant => exact absurd hstate hvacant
  all_goals simp [State.openCase, hrun, hport, hstate]

theorem openCase_of_badField {kind : Kind} (hvacant : (s.port p).state = .vacant) (hkind : s.cfg.kinds.get p = some kind)
    (hfields : openFieldsOk kind cls charge foam tag = false) :
    s.openCase port cls charge foam tag = (s, [refuse .badField 0x01]) := by
  simp [State.openCase, hrun, hport, hvacant, hkind, hfields]

theorem openCase_of_good {kind : Kind} (hvacant : (s.port p).state = .vacant) (hkind : s.cfg.kinds.get p = some kind)
    (hfields : openFieldsOk kind cls charge foam tag = true) :
    s.openCase port cls charge foam tag =
      (s.createCase p (newRecord s p kind cls charge foam tag), [acceptCase 0x01 s.store.nextNo]) := by
  simp [State.openCase, hrun, hport, hvacant, hkind, hfields]

end

/-- Settles O11: each of OPEN_CASE's checks, in their order. -/
theorem openCaseChecksInOrder : Obligations.OpenCaseChecksInOrder := fun port cls charge foam tag s hserves => by
  refine ⟨fun hpaused => ⟨_, rfl, ?paused⟩, fun hrun hport => ⟨_, rfl, ?badPort⟩, fun p hrun hport hunused => ⟨_, rfl, ?unused⟩,
    fun p hrun hport hunused hvacant => ⟨_, rfl, ?busy⟩, fun p kind hrun hport hvacant hkind hbad => ⟨_, rfl, ?badField⟩⟩
  case paused => exact refused_request (code := .paused) hserves (openCase_of_paused (s := s.hunts) hpaused ..)
  case badPort => exact refused_request (code := .badPort) hserves (openCase_of_badPort (s := s.hunts) hrun (readPort_eq_none hport) ..)
  case unused => exact refused_request (code := .portUnused) hserves (openCase_of_unused (s := s.hunts) hrun (readPort_eq_some hport) _ _ _ _ hunused)
  case busy =>
    exact refused_request (code := .portBusy) hserves (openCase_of_busy (s := s.hunts) hrun (readPort_eq_some hport) _ _ _ _ hunused hvacant)
  case badField =>
    have hfields : openFieldsOk kind cls charge foam tag = false := by
      rw [Bool.eq_false_iff]
      exact fun hgood => hbad ((openFieldsOk_iff ..).mp hgood)
    exact refused_request (code := .badField) hserves (openCase_of_badField (s := s.hunts) hrun (readPort_eq_some hport) _ _ _ _ hvacant hkind hfields)

/-! ### The case that is created (R6, R82, R86) -/

/-- The connection test at one port: SETTLE where CLAMP and CONFIRM are asserted (R7). -/
def Port.connected (g : KindSet) (x : Port) : Port :=
  if x.clamp = true ∧ x.confirm = true then
    { x with state := .settle, connect := .stopped, settle := .running (g.settleTenths * 100) }
  else x

theorem connected_slot (g : KindSet) (x : Port) : (x.connected g).slot = x.slot := by
  unfold Port.connected
  split <;> rfl

theorem connected_of_both {g : KindSet} {x : Port} (h : x.clamp = true ∧ x.confirm = true) :
    (x.connected g).state = .settle ∧ (x.connected g).connect = .stopped ∧
      (x.connected g).settle = .running (g.settleTenths * 100) := by
  rw [Port.connected, if_pos h]
  exact ⟨rfl, rfl, rfl⟩

theorem connected_of_not {g : KindSet} {x : Port} (h : ¬(x.clamp = true ∧ x.confirm = true)) : x.connected g = x := if_neg h

theorem tryConnect_port_self (p : PortId) (s : State) : (s.tryConnect p).port p = (s.port p).connected (s.portSet (s.port p)) := by
  unfold State.tryConnect Port.connected
  dsimp only
  split
  · exact State.port_setPort_self ..
  · rfl

theorem tryConnect_samePortsBut (p : PortId) (s : State) : s.SamePortsBut p (s.tryConnect p) := fun q hq => by
  unfold State.tryConnect
  dsimp only
  split
  · exact State.port_setPort_ne hq _ s
  · rfl

theorem samePortsBut_trans {p : PortId} {s t u : State} (hst : s.SamePortsBut p t) (htu : t.SamePortsBut p u) : s.SamePortsBut p u :=
  fun q hq => (htu q hq).trans (hst q hq)

theorem createCase_store (p : PortId) (r : CaseRecord) (s : State) :
    (s.createCase p r).store = { s.store with nextNo := nextCaseNo s.store.nextNo } := by
  simp [State.createCase]

theorem createCase_samePortsBut (p : PortId) (r : CaseRecord) (s : State) : s.SamePortsBut p (s.createCase p r) :=
  fun q hq => (tryConnect_samePortsBut p _ q hq).trans (modPort_samePortsBut p _ (s.setStore _) q hq)

theorem createCase_port_self (p : PortId) (r : CaseRecord) (s : State) :
    (s.createCase p r).port p =
      ({ s.port p with
          slot := some r, state := .opened,
          connect := .running ((s.cfg.kindSet r.kind).connectS * 1000) } : Port).connected (s.cfg.kindSet r.kind) := by
  refine (tryConnect_port_self p _).trans ?_
  simp [State.portSet]

theorem readClass_eq_ite (n : Nat) : readClass n = if n = 1 then some .halo else if n = 2 then some .hydro else none := by
  unfold readClass
  split <;> simp_all

/-- Settles O12: the record, its number and the port's way to OPENED or SETTLE. -/
theorem openCaseOpensACase : Obligations.OpenCaseOpensACase :=
    fun port cls charge foam tag p kind s hserves hrun hport hvacant hkind hne hlen hchars hcls hcharge hfoam => by
  have hfields := (openFieldsOk_iff kind cls charge foam tag).mpr ⟨hne, hlen, hchars, hcls, hcharge, hfoam⟩
  have hact := openCase_of_good (s := s.hunts) hrun (readPort_eq_some hport) cls charge foam tag hvacant hkind hfields
  have hslot := createCase_port_self p (newRecord s.hunts p kind cls charge foam tag) s.hunts
  refine ⟨_, rfl, ?_⟩
  rw [request_of_act hserves hact]
  refine ⟨respond_sameBut_of_act _ (createCase_sameBut p _ s.hunts) (by simp) (by simp), createCase_samePortsBut p _ s.hunts, ?answered,
    createCase_store p _ s.hunts, ?slot, ?port⟩
  case answered => simp [Answered, State.respond, State.createCase, OperatorPort.hunt, acceptCase]
  case slot =>
    refine (congrArg Port.slot hslot).trans ?_
    rw [connected_slot, newRecord, readClass_eq_ite]
    rfl
  case port =>
    show if (s.port p).clamp = true ∧ (s.port p).confirm = true then
        ((s.hunts.createCase p _).port p).state = .settle ∧ ((s.hunts.createCase p _).port p).connect = .stopped ∧
          ((s.hunts.createCase p _).port p).settle = .running ((s.cfg.kindSet kind).settleTenths * 100)
      else ((s.hunts.createCase p _).port p).state = .opened ∧
        ((s.hunts.createCase p _).port p).connect = .running ((s.cfg.kindSet kind).connectS * 1000)
    rw [hslot]
    split
    next h => exact connected_of_both h
    next h => exact ⟨congrArg Port.state (connected_of_not (by exact h)), congrArg Port.connect (connected_of_not (by exact h))⟩

/-! ### How a case closes (R29, R87, R88) -/

/-- The port whose case has closed, its record still in the slot. -/
def Port.closing (r : CaseRecord) (x : Port) : Port :=
  { x.closeValves.stopTimers with k := none, pStart := none, slot := some r, state := .closing }

/-- The close up to the offer of the record: any classify request is withdrawn, and the port holds its completed record. -/
def State.caseShut (p : PortId) (r : CaseRecord) (s : State) : State :=
  (if (s.port p).state = .classify then s.withdraw p else s).setPort p ((s.port p).closing r)

theorem closeCase_eq {p : PortId} {r : CaseRecord} {s : State} (hslot : (s.port p).slot = some r) (res : CaseResult) :
    s.closeCase p res =
      if s.store.queue.length < Config.reportRoom then
        (s.caseShut p (closedRecord s r res)).enqueueRecord p (closedRecord s r res)
      else s.caseShut p (closedRecord s r res) := by
  simp only [State.closeCase, hslot]
  rfl

theorem withdraw_sameBut (p : PortId) (s : State) : s.SameBut [.ana] (s.withdraw p) := by
  rw [sameBut_iff]
  simp [State.withdraw]

@[simp] theorem caseShut_port_self (p : PortId) (r : CaseRecord) (s : State) : (s.caseShut p r).port p = (s.port p).closing r :=
  State.port_setPort_self ..

theorem caseShut_samePortsBut (p : PortId) (r : CaseRecord) (s : State) : s.SamePortsBut p (s.caseShut p r) := fun q hq => by
  refine (State.port_setPort_ne hq _ _).trans ?_
  split <;> rfl

theorem setPort_sameBut (p : PortId) (x : Port) (s : State) : s.SameBut [.ports] (s.setPort p x) := by
  rw [sameBut_iff]
  simp

theorem caseShut_sameBut (p : PortId) (r : CaseRecord) (s : State) : s.SameBut [.ports, .ana] (s.caseShut p r) := by
  have hwithdraw : s.SameBut [.ana] (if (s.port p).state = .classify then s.withdraw p else s) := by
    split
    · exact withdraw_sameBut p s
    · exact sameBut_refl _ s
  exact sameBut_trans hwithdraw (setPort_sameBut p _ _) (by simp) (by simp)

theorem caseShut_sameBut_of_not_classify {p : PortId} {s : State} (hstate : (s.port p).state ≠ .classify) (r : CaseRecord) :
    s.SameBut [.ports] (s.caseShut p r) := by
  unfold State.caseShut
  rw [if_neg hstate]
  exact setPort_sameBut p _ s

/-- A case that closes: the valves, the timers, k and P_start of its port, and where its record and its port go. -/
theorem closeCase_caseClosed {p : PortId} {r : CaseRecord} {s : State} (hslot : (s.port p).slot = some r) (res : CaseResult) :
    s.CaseClosed p r res (s.closeCase p res) := by
  have hstore : (s.caseShut p (closedRecord s r res)).store = s.store := caseShut_sameBut p _ s .store (by simp)
  have hclamp : ((s.caseShut p (closedRecord s r res)).port p).afterClose = (s.port p).afterClose := by simp [Port.afterClose]; rfl
  rw [closeCase_eq hslot]
  by_cases hroom : s.store.queue.length < Config.reportRoom
  · rw [if_pos hroom]
    have hport := enqueueRecord_port_self p (closedRecord s r res) (s.caseShut p (closedRecord s r res))
    have hqueue := enqueueRecord_store p (closedRecord s r res) (s.caseShut p (closedRecord s r res))
    rw [hstore] at hqueue
    rw [caseShut_port_self] at hport
    unfold State.CaseClosed
    rw [hport, if_pos hroom]
    exact ⟨rfl, rfl, rfl, rfl, rfl, rfl, rfl, rfl, rfl, hqueue, rfl, rfl, enqueueRecord_caseReport ..⟩
  · rw [if_neg hroom]
    unfold State.CaseClosed
    rw [caseShut_port_self, if_neg hroom]
    exact ⟨rfl, rfl, rfl, rfl, rfl, rfl, rfl, rfl, rfl, hstore, rfl, rfl⟩

theorem closeCase_samePortsBut (p : PortId) (res : CaseResult) (s : State) : s.SamePortsBut p (s.closeCase p res) := by
  cases hslot : (s.port p).slot with
  | none => simp only [State.closeCase, hslot]; exact samePortsBut_refl p s
  | some r =>
    rw [closeCase_eq hslot]
    split
    · exact samePortsBut_trans (caseShut_samePortsBut p _ s) (enqueueRecord_samePortsBut p _ _)
    · exact caseShut_samePortsBut p _ s

theorem closeCase_sameBut (p : PortId) (res : CaseResult) (s : State) : s.SameBut [.ports, .store, .ana, .op] (s.closeCase p res) := by
  cases hslot : (s.port p).slot with
  | none => simp only [State.closeCase, hslot]; exact sameBut_refl _ s
  | some r =>
    rw [closeCase_eq hslot]
    split
    · exact sameBut_trans (caseShut_sameBut p _ s) (enqueueRecord_sameBut p _ _) (by simp) (by simp)
    · exact sameBut_trans (caseShut_sameBut p _ s) (sameBut_refl [] _) (by simp) (by simp)

/-- Outside CLASSIFY no request is withdrawn. -/
theorem closeCase_sameBut_of_not_classify {p : PortId} {s : State} (hstate : (s.port p).state ≠ .classify) (res : CaseResult) :
    s.SameBut [.ports, .store, .op] (s.closeCase p res) := by
  cases hslot : (s.port p).slot with
  | none => simp only [State.closeCase, hslot]; exact sameBut_refl _ s
  | some r =>
    rw [closeCase_eq hslot]
    split
    · exact sameBut_trans (caseShut_sameBut_of_not_classify hstate _) (enqueueRecord_sameBut p _ _) (by simp) (by simp)
    · exact sameBut_trans (caseShut_sameBut_of_not_classify hstate _) (sameBut_refl [] _) (by simp) (by simp)

/-! ### ABANDON_CASE (R25) -/

theorem abandonCase_of_badPort {port : Byte} (hport : readPort port = none) (s : State) :
    s.abandonCase port = (s, [refuse .badPort 0x02]) := by
  simp [State.abandonCase, hport]

theorem abandonCase_of_unused {port : Byte} {p : PortId} {s : State} (hport : readPort port = some p)
    (hunused : (s.port p).state = .unused) : s.abandonCase port = (s, [refuse .portUnused 0x02]) := by
  simp [State.abandonCase, hport, hunused]

theorem abandonCase_of_noCase {port : Byte} {p : PortId} {s : State} (hport : readPort port = some p)
    (hunused : (s.port p).state ≠ .unused) (hnone : (s.port p).openCase = none) :
    s.abandonCase port = (s, [refuse .noOpenCase 0x02]) := by
  cases hstate : (s.port p).state
  case unused => exact absurd hstate hunused
  all_goals simp [State.abandonCase, hport, hstate, hnone]

theorem abandonCase_of_openCase {port : Byte} {p : PortId} {n : Nat} {s : State} (hport : readPort port = some p)
    (hunused : (s.port p).state ≠ .unused) (hopen : (s.port p).openCase = some n) :
    s.abandonCase port = (s.closeCase p .abandoned, [acceptCase 0x02 n]) := by
  cases hstate : (s.port p).state
  case unused => exact absurd hstate hunused
  all_goals simp [State.abandonCase, hport, hstate, hopen]

/-- Settles O13: an open case closes ABANDONED, and the three refusals. -/
theorem abandonCaseClosesTheCase : Obligations.AbandonCaseClosesTheCase := fun port s hserves => by
  refine ⟨fun p r hport hactive hslot => ⟨_, rfl, ?closes⟩, fun hport => ⟨_, rfl, ?badPort⟩, fun p hport hunused => ⟨_, rfl, ?unused⟩,
    fun p hport hnone => ⟨_, rfl, ?noCase⟩⟩
  case closes =>
    have hunused : (s.port p).state ≠ .unused := fun h => by simp [h, PortState.active] at hactive
    have hopen : (s.port p).openCase = some r.caseNo := by simp [Port.openCase, hactive, hslot]
    have hact := abandonCase_of_openCase (s := s.hunts) (readPort_eq_some hport) hunused hopen
    rw [request_of_act hserves hact]
    exact ⟨respond_sameBut_of_act _ (closeCase_sameBut p .abandoned s.hunts) (by simp) (by simp),
      closeCase_samePortsBut p .abandoned s.hunts, closeCase_caseClosed (s := s.hunts) hslot .abandoned, rfl⟩
  case badPort => exact refused_request (code := .badPort) hserves (abandonCase_of_badPort (readPort_eq_none hport) s.hunts)
  case unused => exact refused_request (code := .portUnused) hserves (abandonCase_of_unused (s := s.hunts) (readPort_eq_some hport) hunused)
  case noCase =>
    have hunused : (s.port p).state ≠ .unused := fun h => by simp [h] at hnone
    have hnoCase : (s.port p).openCase = none := by
      simp only [List.mem_cons, List.not_mem_nil, or_false] at hnone
      rcases hnone with h | h | h <;> simp [Port.openCase, h, PortState.active]
    exact refused_request (code := .noOpenCase) hserves (abandonCase_of_noCase (s := s.hunts) (readPort_eq_some hport) hunused hnoCase)

/-! ### PORT_STATUS (R180) -/

theorem answered_respond (l : List Message) (s : State) : Answered l s (s.hunts.respond l) := rfl

/-- Settles O15: the PORT_STATE message, and the refusal of a port above 3. -/
theorem portStatusAnswersPortState : Obligations.PortStatusAnswersPortState := fun port s hserves => by
  refine ⟨fun hport => ⟨_, rfl, ?badPort⟩, fun p hport => ⟨_, rfl, ?shown⟩⟩
  case badPort =>
    have hact : s.hunts.portStatus port = (s.hunts, [refuse .badPort 0x04]) := by simp [State.portStatus, readPort_eq_none hport]
    exact refused_request (code := .badPort) hserves hact
  case shown =>
    have hact : s.hunts.portStatus port = (s.hunts, [s.hunts.portState p]) := by simp [State.portStatus, readPort_eq_some hport]
    rw [request_of_act hserves hact]
    refine ⟨respond_sameBut_of_act _ (sameBut_refl [] s.hunts) (by simp) (by simp), (answered_respond _ s).trans ?_⟩
    cases h : ((s.port p).slot.map CaseRecord.massSat).getD false <;> simp [State.portState, h, Sample.shown, flagBit, byteOf]

end Sys2Proof.Machine
end

section
/-! PROOFS. STATION_STATUS (09): the run of messages, part by part (O16). -/

namespace Sys2Proof.Machine

/-! ### What the parts are made of (R181, 11.4) -/

theorem holdLeft_eq (t : Timer) : t.holdLeft = match t with | .running n => n | _ => 0 := by
  match t with
  | .running 0 => rfl
  | .running (_ + 1) => rfl
  | .frozen _ => rfl
  | .stopped => rfl

theorem reasonCode_eq (r : Option HoldReason) : reasonCode r = (r.map HoldReason.code).getD 0 := by cases r <;> rfl

theorem ownerCode_eq (a : Option Address) : ownerCode a = (a.map Fin.val).getD 0xFF := by cases a <;> rfl

/-- The port waits for room in the report queue with a record in its slot. -/
def State.waits (s : State) (p : PortId) : Bool := decide ((s.port p).state = .closing) && (s.port p).slot.isSome

/-- The closing time of a port's record. -/
def State.closedTime (s : State) (p : PortId) : Nat := ((s.port p).slot.bind CaseRecord.closedS).getD 0

theorem waitingEntry_eq (s : State) (p : PortId) : s.waitingEntry p = if s.waits p then some (p, s.closedTime p) else none := by
  unfold State.waitingEntry State.waits State.closedTime
  cases hslot : (s.port p).slot <;> by_cases hstate : (s.port p).state = .closing <;> simp [hstate]

theorem waitingSet_mask (s : State) :
    (s.waitingSet.map fun m => 2 ^ m.1.num).sum = (PortId.all.map fun p => flagBit (s.waits p) p.num).sum := by
  rw [waitingSet_eq_filterMap, funext (waitingEntry_eq s)]
  generalize PortId.all = l
  induction l with
  | nil => rfl
  | cons p rest ih => cases h : s.waits p <;> simp [h, ih, flagBit]

theorem waitingSet_time (s : State) (p : PortId) :
    ((s.waitingSet.find? fun m => decide (m.1 = p)).map Prod.snd).getD 0 = if s.waits p then s.closedTime p else 0 := by
  cases hfind : s.waitingSet.find? fun m => decide (m.1 = p) with
  | some m =>
    have hp : m.1 = p := by simpa using List.find?_some hfind
    obtain ⟨q, hq⟩ := List.mem_filterMap.mp (waitingSet_eq_filterMap s ▸ List.mem_of_find?_eq_some hfind)
    rw [waitingEntry_eq] at hq
    split at hq
    next hwaits =>
      obtain rfl := Option.some.inj hq.2
      obtain rfl : q = p := hp
      simp [hwaits]
    next => cases hq.2
  | none =>
    have hnot : s.waits p = false := by
      by_contra hwaits
      have hmem : (p, s.closedTime p) ∈ s.waitingSet := by
        rw [waitingSet_eq_filterMap]
        exact List.mem_filterMap.mpr ⟨p, mem_portIds p, by rw [waitingEntry_eq, if_pos (by simpa using hwaits)]⟩
      simpa using List.find?_eq_none.mp hfind _ hmem
    simp [hnot]

theorem lineBits_eq (s : State) (f : LineInput → Bool) : s.lineBits f = lineMask fun l => f (s.field.input l) := by
  simp [State.lineBits, allLines, lineMask, PortId.all, lineNumber]
  omega

theorem isAsserted_eq (i : LineInput) : i.isAsserted = decide (i.level = some true) := by
  unfold LineInput.isAsserted
  cases i.level with
  | none => rfl
  | some b => cases b <;> rfl

theorem getD_false_eq (r : Option Bool) : r.getD false = decide (r = some true) := by
  cases r with
  | none => rfl
  | some b => cases b <;> rfl

theorem samples_toList (q : Quad Sample) : q.toList = PortId.all.map q.get := rfl

theorem positionCodes_eq (x : Option (DState × Option GasClass)) :
    [byteOf (positionCode x), byteOf (positionClass x)] =
      match x with | some (d, c) => [byteOf d.code, byteOf (classCode c)] | none => [8, 0] := by
  cases x <;> rfl

theorem beaconFields_eq (x : Option Beacon) :
    beaconFields x = match x with
      | some b =>
        [byteOf (classCode b.viewClass), b.viewSerial] ++ bytes16 b.inhibitS ++
          [byteOf (b.bandH * 16 + b.bandK),
            byteOf (flagBit b.warned 0 + flagBit b.analyserFault 1 + flagBit b.haloFault 2 + flagBit b.hydroFault 3)]
      | none => [0, 0, 0, 0, 0, 0] := by
  cases x <;> rfl

/-! ### The run of messages -/

theorem exec_stationStatus_of_free {s : State} (hfree : s.portFree) :
    exec .stationStatus s = .next (s.hunts.respond s.hunts.status).finish :=
  congrArg (fun t => Host.Outcome.next (State.finish t)) (takeMessage_of_free hfree rfl _ _)

theorem status_length (s : State) : s.status.length = s.statusParts.length := statusMessages_length 0 _

/-- Settles O16: the codes of 11.1, the order of the parts, their indices, and their fields. -/
theorem stationStatusAnswersEveryPart : Obligations.StationStatusAnswersEveryPart := by
  refine ⟨rfl, rfl, rfl, rfl, rfl, rfl, rfl, fun s hfree => ⟨_, s.hunts.status, exec_stationStatus_of_free hfree,
    respond_sameBut_of_act _ (sameBut_refl [] s.hunts) (by simp) (by simp), answered_respond _ s, ?codes, ?index, ?fields⟩⟩
  case codes =>
    have hcodes := congrArg (List.map fun n => some (byteOf n)) (statusParts_codes s.hunts)
    rw [List.map_map] at hcodes
    refine (statusMessages_codes 0 _).trans (hcodes.trans ?_)
    rw [List.map_append, List.map_replicate]
    rfl
  case index =>
    intro i m hm
    obtain ⟨htype, hindex⟩ := statusMessages_get 0 i _ m hm
    rw [status_length]
    exact ⟨htype, by simpa [byteOf] using hindex⟩
  case fields =>
    intro hloading
    refine (statusMessages_fields 0 _).trans ?_
    rw [State.statusParts, List.map_append, List.map_map]
    refine congrArg₂ (· ++ ·) ?_ (List.map_congr_left fun a _ => ?peer)
    case peer =>
      simp only [Function.comp_apply, State.peerPart, positionCodes_eq, beaconFields_eq]
      rfl
    simp only [List.map_cons, List.map_nil, List.cons.injEq, and_true]
    refine ⟨?station, rfl, rfl, ?analyser, ?cases, ?header, rfl, ?field⟩
    case station =>
      cases hstate : s.loader.state with
      | loading => exact absurd hstate hloading
      | loaded =>
        cases hwarned : s.loader.warnings.any <;>
          simp only [State.stationPart, State.shownAddress, State.setOp_loader, hstate, hwarned] <;> rfl
      | configFault cause =>
        cases cause <;> simp only [State.stationPart, State.shownAddress, State.setOp_loader, hstate] <;> rfl
    case analyser =>
      cases hstate : s.ana.state
      case classifying p phase w => cases phase <;> simp only [State.analyserPart, State.setOp_ana, hstate] <;> rfl
      case sniffing p phase n => cases phase <;> simp only [State.analyserPart, State.setOp_ana, hstate] <;> rfl
      all_goals
        simp only [State.analyserPart, State.setOp_ana, hstate]
        rfl
    case cases =>
      simp only [State.casesPart, waitingSet_mask, waitingSet_time]
      rfl
    case header =>
      simp only [State.headerPart, holdLeft_eq, reasonCode_eq, ownerCode_eq]
      rfl
    case field =>
      simp only [State.fieldPart, lineBits_eq, isAsserted_eq, getD_false_eq, samples_toList, List.flatMap_map]
      rfl

end Sys2Proof.Machine
end

section
/-! PROOFS. The blocks that an operation of the agent, a receiver or line conditions can change, as `SameBut`; and CLEAR_RECEIVER
(O17). -/

namespace Sys2Proof.Machine

/-! ### What the operations leave as it is -/

theorem sameBut_mono {l m : List Block} {s u : State} (hsame : s.SameBut l u) (hl : l ⊆ m) : s.SameBut m u :=
  fun b hb => hsame b fun h => hb (hl h)

theorem sameBut_ite {b : Prop} [Decidable b] {l : List Block} {s t u : State} (ht : s.SameBut l t) (hu : s.SameBut l u) :
    s.SameBut l (if b then t else u) := by
  split
  · exact ht
  · exact hu

theorem tellPorts_sameBut (c : GasClass) (s : State) : s.SameBut [.ports] (s.tellPorts c) := by
  rw [sameBut_iff]
  simp

theorem setRcv_sameBut (c : GasClass) (r : Receiver) (s : State) : s.SameBut [.receiver c] (s.setRcv c r) := by
  rw [sameBut_iff]
  cases c <;> simp [State.setRcv]

theorem modRcv_sameBut (c : GasClass) (f : Receiver → Receiver) (s : State) : s.SameBut [.receiver c] (s.modRcv c f) :=
  setRcv_sameBut c _ s

theorem setAgent_sameBut (a : Agent) (s : State) : s.SameBut [.agent] (s.setAgent a) := by
  rw [sameBut_iff]
  simp

theorem raise_sameBut (e : EventKind) (s : State) : s.SameBut [.op] (s.raise e) := by
  rw [sameBut_iff]
  simp

theorem offer_sameBut (f : Frame) (s : State) : s.SameBut [.line, .op] (s.offer f) := by
  rw [sameBut_iff]
  simp

theorem lcOffer_sameBut (f : Frame) (s : State) : s.SameBut [.line, .conditions, .op] (s.lcOffer f) := by
  rw [sameBut_iff]
  simp

theorem noticeChange_sameBut (before : DState) (s : State) : s.SameBut [.line, .op] (s.noticeChange before) := by
  rw [sameBut_iff]
  simp

theorem toBackoff_sameBut (long : Bool) (s : State) : s.SameBut [.agent, .line, .op] (s.toBackoff long) := by
  rw [sameBut_iff]
  simp

theorem toListen_sameBut (u : Purpose) (c : GasClass) (s : State) : s.SameBut [.agent, .line, .op] (s.toListen u c) := by
  rw [sameBut_iff]
  simp

theorem toWaiting_sameBut (s : State) : s.SameBut [.agent, .line, .op] s.toWaiting := by
  rw [sameBut_iff]
  simp

theorem toDrain_sameBut (s : State) : s.SameBut [.agent, .line, .op] s.toDrain := by
  rw [sameBut_iff]
  simp

theorem idleCheck_sameBut (s : State) : s.SameBut [.agent, .line, .op] s.idleCheck := by
  rw [sameBut_iff]
  simp

theorem toIdle_sameBut (s : State) : s.SameBut [.agent, .line, .op] s.toIdle := by
  rw [sameBut_iff]
  simp

theorem goNext_sameBut (n : NextState) (s : State) : s.SameBut [.agent, .line, .op] (s.goNext n) := by
  rw [sameBut_iff]
  simp

theorem reevaluate_sameBut (s : State) : s.SameBut [.agent, .line, .op] s.reevaluate := by
  rw [sameBut_iff]
  simp

theorem requestNotice_sameBut (c : GasClass) (was : Bool) (s : State) : s.SameBut [.agent, .line, .op] (s.requestNotice c was) := by
  rw [sameBut_iff]
  simp

theorem offerHoldOnly_sameBut (h : HoldClass) (reason : HoldReason) (s : State) :
    s.SameBut [.agent, .line, .op] (s.offerHoldOnly h reason) := by
  rw [sameBut_iff]
  simp

theorem abortPurge_sameBut (conflictHold sendDone : Bool) (n : NextState) (s : State) :
    s.SameBut [.agent, .line, .op] (s.abortPurge conflictHold sendDone n) := by
  rw [sameBut_iff]
  simp

theorem toPurging_sameBut (s : State) : s.SameBut [.agent, .line, .op] s.toPurging := by
  rw [sameBut_iff]
  simp

theorem receiverFlowEnd_sameBut (c : GasClass) (s : State) : s.SameBut [.ports, .receiver c] (s.receiverFlowEnd c) := by
  unfold State.receiverFlowEnd
  dsimp only
  split
  · exact sameBut_trans (setRcv_sameBut c _ s) (tellPorts_sameBut c _) (by simp) (by simp)
  · exact sameBut_refl _ s

theorem receiverFlowStart_sameBut (c : GasClass) (s : State) : s.SameBut [.ports, .receiver c] (s.receiverFlowStart c).1 := by
  have htold : ∀ r, s.SameBut [.ports, .receiver c] ((s.setRcv c r).tellPorts c) := fun r =>
    sameBut_trans (setRcv_sameBut c r s) (tellPorts_sameBut c _) (by simp) (by simp)
  unfold State.receiverFlowStart
  dsimp only
  split
  · exact sameBut_refl _ s
  · exact sameBut_refl _ s
  · exact sameBut_refl _ s
  · exact htold _
  · exact htold _

/-- The blocks that the flow of a class reaches. -/
abbrev flowBlocks (c : GasClass) : List Block := [.ports, .receiver c, .agent, .line, .op]

theorem flowEnded_sameBut (conflictHold sendOff : Bool) (c : GasClass) (s : State) :
    s.SameBut (flowBlocks c) (s.flowEnded conflictHold sendOff c) := by
  unfold State.flowEnded
  have hshut : s.SameBut (flowBlocks c) (s.setAgent s.agent.shut) := sameBut_mono (setAgent_sameBut _ s) (by simp)
  have hheld : s.SameBut (flowBlocks c)
      (if conflictHold then (s.setAgent s.agent.shut).offerHoldOnly .all .conflict else s.setAgent s.agent.shut) :=
    sameBut_ite (sameBut_trans hshut (offerHoldOnly_sameBut _ _ _) (by simp) (by simp)) hshut
  have hended := sameBut_trans hheld (receiverFlowEnd_sameBut c _) (n := flowBlocks c) (by simp) (by simp)
  exact sameBut_ite (sameBut_trans hended (offer_sameBut _ _) (by simp) (by simp)) hended

theorem endFlow_sameBut {c : GasClass} {s : State} (hsought : s.agent.sought = some c) (conflictHold sendOff : Bool) (n : NextState) :
    s.SameBut (flowBlocks c) (s.endFlow conflictHold sendOff n) := by
  rw [endFlow_eq hsought]
  exact sameBut_trans (flowEnded_sameBut conflictHold sendOff c s) (goNext_sameBut n _) (by simp) (by simp)

theorem flowNotice_sameBut (c : GasClass) (n : NextState) (s : State) : s.SameBut (flowBlocks c) (s.flowNotice c n) := by
  unfold State.flowNotice
  split
  next h => exact endFlow_sameBut h.2 false true n
  next => exact sameBut_refl _ s

theorem flowBegun_sameBut (c : GasClass) (s : State) : s.SameBut (flowBlocks c) (s.flowBegun c) := by
  unfold State.flowBegun
  refine sameBut_trans (m := [.line, .op]) (sameBut_trans (m := [.line, .op]) (n := flowBlocks c) (l := flowBlocks c)
    (sameBut_trans (m := [.agent]) (n := flowBlocks c) (l := flowBlocks c)
      (sameBut_trans (m := [.agent]) (receiverFlowStart_sameBut c s) (setAgent_sameBut _ _) ?_ ?_)
      (setAgent_sameBut _ _) ?_ ?_)
    (offer_sameBut _ _) ?_ ?_) (noticeChange_sameBut _ _) ?_ ?_ <;> simp

theorem startFlow_sameBut (c : GasClass) (s : State) : s.SameBut (flowBlocks c) (s.startFlow c) := by
  rcases startFlow_cases c s with h | h | h <;> rw [h]
  · exact sameBut_mono (toIdle_sameBut s) (by simp)
  · exact flowBegun_sameBut c s
  · exact sameBut_trans (flowBegun_sameBut c s) (endFlow_sameBut (c := c) (by simp) false true .idle) (by simp) (by simp)

/-! ### CLEAR_RECEIVER (R54) -/

theorem readReceiver_eq_some {b : Byte} {c : GasClass} (hb : b.toNat = classCode (some c)) : readReceiver b = some c := by
  unfold readReceiver
  rw [hb]
  cases c <;> rfl

theorem readReceiver_eq_none {b : Byte} (hhalo : b.toNat ≠ 1) (hhydro : b.toNat ≠ 2) : readReceiver b = none := by
  unfold readReceiver
  rw [readClass_eq_ite, if_neg hhalo, if_neg hhydro]

/-- The receiver whose fault is cleared, before its request is looked at. -/
def Receiver.cleared (g : ReceiverSet) (r : Receiver) : Receiver :=
  { r with state := if r.first then r.restState g else .starting, silence := .running Config.silenceMs }

theorem cleared_state (g : ReceiverSet) (r : Receiver) :
    (r.cleared g).state = if r.first = false then .starting else if r.level g < g.full then .accepting else .full := by
  cases hfirst : r.first <;> simp [Receiver.cleared, hfirst, Receiver.restState]

theorem wantsDischarge_of_state {g : ReceiverSet} {r : Receiver}
    (hstate : r.state = .accepting ∨ r.state = .full ∨ r.state = .discharging) :
    r.wantsDischarge g = decide (g.dOn ≤ r.level g) := by
  rcases hstate with h | h | h <;> simp only [Receiver.wantsDischarge, h]

theorem cleared_wantsDischarge (g : ReceiverSet) (r : Receiver) :
    (r.cleared g).wantsDischarge g = (r.first && decide (g.dOn ≤ r.level g)) := by
  have hstate := cleared_state g r
  cases hfirst : r.first with
  | false =>
    rw [if_pos hfirst] at hstate
    simp only [Receiver.wantsDischarge, hstate, Bool.false_and]
  | true =>
    have hrests : (r.cleared g).state = .accepting ∨ (r.cleared g).state = .full := by
      rw [hstate, if_neg (by simp [hfirst])]
      split
      · exact .inl rfl
      · exact .inr rfl
    rw [wantsDischarge_of_state (hrests.imp_right .inl), Bool.true_and]
    rfl

theorem clearFault_rcv_self (c : GasClass) (s : State) :
    (s.clearFault c).rcv c = ((s.rcv c).cleared (s.cfg.rcvSet c)).checkRequest (s.cfg.rcvSet c) := by
  simp [State.clearFault, Receiver.cleared]

theorem clearFault_sameBut (c : GasClass) (s : State) : s.SameBut (flowBlocks c) (s.clearFault c) :=
  sameBut_trans (l := flowBlocks c)
    (sameBut_trans (setRcv_sameBut c _ s) (tellPorts_sameBut c _) (by simp) (by simp)) (requestNotice_sameBut c _ _) (by simp) (by simp)

theorem clearReceiver_of_fault {b : Byte} {c : GasClass} {s : State} (hb : readReceiver b = some c)
    (hfault : (s.rcv c).state.isFault = true) : s.clearReceiver b = (s.clearFault c, [accept 0x06]) := by
  simp [State.clearReceiver, hb, hfault]

/-- Settles O17: a receiver in FAULT is cleared by its content; the other two requests are refused. -/
theorem clearReceiverClearsTheFault : Obligations.ClearReceiverClearsTheFault := fun b s hserves => by
  refine ⟨fun c hb hfault => ⟨_, rfl, ?clears⟩, fun c hb hfault => ⟨_, rfl, ?notInFault⟩, fun hhalo hhydro => ⟨_, rfl, ?badField⟩⟩
  case clears =>
    have hrcv : s.hunts.rcv c = s.rcv c := State.rcv_setOp ..
    rw [request_of_act hserves (clearReceiver_of_fault (s := s.hunts) (readReceiver_eq_some hb) (hrcv ▸ hfault))]
    refine ⟨respond_sameBut_of_act _ (clearFault_sameBut c s.hunts) (by simp) (by simp), ?_, rfl⟩
    have hcleared := clearFault_rcv_self c s.hunts
    rw [hrcv, Receiver.checkRequest, cleared_wantsDischarge] at hcleared
    refine (State.rcv_setOp ..).trans (hcleared.trans ?_)
    exact congrArg (fun st => ({ s.rcv c with silence := .running 500, state := st, request := _ } : Receiver)) (cleared_state _ _)
  case notInFault =>
    have hact : s.hunts.clearReceiver b = (s.hunts, [refuse .notInFault 0x06]) := by
      simp [State.clearReceiver, readReceiver_eq_some hb, hfault]
    exact refused_request (code := .notInFault) hserves hact
  case badField =>
    have hact : s.hunts.clearReceiver b = (s.hunts, [refuse .badField 0x06]) := by
      simp [State.clearReceiver, readReceiver_eq_none hhalo hhydro]
    exact refused_request (code := .badField) hserves hact

end Sys2Proof.Machine
end

section
/-! PROOFS. The pause and its end (07): PAUSE_LINE (O18), RESUME_LINE (O19), a RESUME heard (O28) and the emergency stop (O37); with
what every pause start and every RESUME does to the ports, the lines and the agent (R26, R27, R135, R153, R163, R164). -/

namespace Sys2Proof.Machine

/-! ### Frames of line conditions -/

theorem lcOffer_lc (f : Frame) (s : State) : (s.lcOffer f).lc = { s.lc with owed := (s.lcOffer f).lc.owed } := by
  unfold State.lcOffer
  dsimp only
  split <;> simp

/-- A frame of line conditions waits on as long as no operation between touches the conditions' frames or what is owed. -/
theorem willSend_congr {f : Frame} {s u : State} (hcondition : f.isCondition = true)
    (hframes : conditionFrames u.line.queue = conditionFrames s.line.queue) (howed : u.lc.owed = s.lc.owed) (h : s.willSend f) :
    u.willSend f := by
  obtain ⟨q, hq, rfl⟩ | h := h
  · exact .inl ⟨q, mem_of_conditionFrames_eq hframes.symm hq hcondition, rfl⟩
  · exact .inr (howed ▸ h)

/-! ### A pause start (R26, R135, R153, R163) -/

/-- What every block has taken once a pause has begun. -/
structure State.PauseTaken (s u : State) : Prop where
  shut : ∀ p, (s.port p).state = .extract → (u.port p).valveH = false ∧ (u.port p).valveK = false
  ports : s.PortsPaused u
  lines : s.LinesSuspended u
  agent : u.agent.dstate = .idle

theorem portsPaused_congr {s u v : State} (hports : ∀ p, v.port p = u.port p) (h : s.PortsPaused u) : s.PortsPaused v := fun p => by
  have hp := h p
  rw [← hports p] at hp
  exact hp

theorem pauseTaken_congr {s u v : State} (hports : v.ports = u.ports) (hfield : v.field = u.field) (hagent : v.agent = u.agent)
    (h : s.PauseTaken u) : s.PauseTaken v := by
  have hport : ∀ p, v.port p = u.port p := fun p => congrArg (fun q => q.get p) hports
  refine ⟨fun p hp => ?_, portsPaused_congr hport h.ports, fun p l hl => ?_, ?_⟩
  · rw [hport]
    exact h.shut p hp
  · rw [hfield]
    exact h.lines p l hl
  · rw [hagent]
    exact h.agent

/-- A pause start is told by the ports, the receivers and the port lines it finds. -/
theorem pauseTaken_of_same {s t u : State} (hports : ∀ p, t.port p = s.port p) (hrcv : ∀ c, t.rcv c = s.rcv c)
    (hlines : ∀ p, ∀ l ∈ portLines p, t.field.input l = s.field.input l) (h : t.PauseTaken u) : s.PauseTaken u := by
  obtain ⟨hshut, hpaused, hsuspended, hagent⟩ := h
  refine ⟨fun p hp => hshut p (by rw [hports, hp]), fun p => ?_, fun p l hl => ?_, hagent⟩
  · have hp := hpaused p
    simp only [hports, hrcv] at hp
    exact hp
  · rw [hsuspended p l hl, hlines p l hl]

/-- The station is PAUSED with a cause and its event raised; no block has been told. -/
abbrev State.pausedWith (c : PauseCause) (s : State) : State :=
  (s.setLc { s.lc.addCause c with paused := true }).raise .pause

theorem enterPause_of_run {s : State} (hrun : s.lc.paused = false) (c : PauseCause) : s.enterPause c = (s.pausedWith c).tellPause :=
  if_neg (by simp [hrun])

theorem enterPause_of_paused {s : State} (hpaused : s.lc.paused = true) (c : PauseCause) :
    s.enterPause c = s.setLc (s.lc.addCause c) := if_pos hpaused

theorem enterPause_pauseTaken {s : State} (hrun : s.lc.paused = false) (hclass : s.agent.dstate = .flowing → s.agent.sought ≠ none)
    (c : PauseCause) : s.PauseTaken (s.enterPause c) := by
  rw [enterPause_of_run hrun]
  have hport : ∀ p, (s.pausedWith c).port p = s.port p := fun p => by simp
  have hrcv : ∀ d, (s.pausedWith c).rcv d = s.rcv d := fun d => by simp
  refine ⟨fun p hextract => ?_, portsPaused_of_pauseStart fun p hrests => ?_, linesSuspended_of_field ?_, ?_⟩
  · exact tellPause_port_shut_of_extract (by rw [hport, hextract])
  · have hrests' : ¬(s.pausedWith c).ExtractsFromDischarging p := by
      simpa only [State.ExtractsFromDischarging, hport, hrcv] using hrests
    rw [tellPause_port (by simp) hrests', hport]
  · obtain ⟨-, -, -, hfield⟩ := tellPause_parts (s.pausedWith c)
    simpa using hfield
  · exact tellPause_dstate (by simp) (by simpa using hclass)

theorem enterPause_lc {s : State} (hrun : s.lc.paused = false) (c : PauseCause) :
    (s.enterPause c).lc = { s.lc.addCause c with paused := true } := by
  rw [enterPause_of_run hrun]
  simp

theorem enterPause_flag_of_run {s : State} (hrun : s.lc.paused = false) (c : PauseCause) : (s.enterPause c).op.flag .pause = true := by
  rw [enterPause_of_run hrun]
  exact tellPause_flag _ .pause (raise_flag_self .pause _)

/-- The blocks a pause start reaches. -/
abbrev pauseBlocks : List Block :=
  [.ports, .receiver .halo, .receiver .hydro, .agent, .line, .conditions, .field, .op]

theorem enterPause_sameBut (c : PauseCause) (s : State) : s.SameBut pauseBlocks (s.enterPause c) := by
  rw [sameBut_iff]
  simp

/-! ### PAUSE_LINE (R149) -/

theorem setLc_sameBut (x : LineConditions) (s : State) : s.SameBut [.conditions] (s.setLc x) := by
  rw [sameBut_iff]
  simp

/-- Settles O18: the pause from RUN, and the cause added in a pause. -/
theorem pauseLinePausesTheStation : Obligations.PauseLinePausesTheStation := fun s hserves => by
  have hact : s.hunts.pauseLine = ((s.hunts.enterPause .operator).lcOffer (.pause .operator), [accept 0x07]) := rfl
  have hsends : s.loaded = true → s.line.clash = false →
      (((s.hunts.enterPause .operator).lcOffer (.pause .operator)).respond [accept 0x07]).willSend (.pause .operator) :=
    fun hloaded hclash => lcOffer_willSend (.pause .operator) (s.hunts.enterPause .operator) (by simpa using hloaded) (by simpa using hclash)
  refine ⟨fun hrun hclass => ⟨_, rfl, ?_⟩, fun hpaused => ⟨_, rfl, ?_⟩⟩ <;> rw [request_of_act hserves hact]
  · have hlc := enterPause_lc (s := s.hunts) hrun .operator
    have htaken : s.PauseTaken (((s.hunts.enterPause .operator).lcOffer (.pause .operator)).respond [accept 0x07]) :=
      pauseTaken_congr (by simp [State.respond]) (by simp [State.respond]) (by simp [State.respond])
        (pauseTaken_of_same (t := s.hunts) (fun _ => rfl) (fun _ => State.rcv_setOp ..) (fun _ _ _ => rfl)
          (enterPause_pauseTaken (s := s.hunts) hrun hclass .operator))
    refine ⟨?paused, ?cause, ?flag, rfl, htaken.shut, htaken.ports, htaken.lines, htaken.agent, hsends, ?same⟩
    case paused => simp [State.respond, hlc]
    case cause => simp [State.respond, hlc, LineConditions.addCause]
    case flag => exact lcOffer_flag _ _ .pause (enterPause_flag_of_run (s := s.hunts) hrun .operator)
    case same =>
      exact respond_sameBut_of_act _ (sameBut_trans (n := pauseBlocks) (enterPause_sameBut .operator s.hunts) (lcOffer_sameBut _ _)
        (by simp) (by simp)) (by simp) (by simp)
  · rw [enterPause_of_paused (s := s.hunts) hpaused] at hsends ⊢
    refine ⟨?same, ?lc, rfl, hsends⟩
    case same =>
      exact respond_sameBut_of_act (l := [.line, .conditions, .op]) _
        (sameBut_trans (setLc_sameBut _ s.hunts) (lcOffer_sameBut _ _) (by simp) (by simp)) (by simp) (by simp)
    case lc => exact lcOffer_lc _ _

/-! ### A RESUME (R27, R150, R151, R164) -/

theorem route_port {p : PortId} {c : GasClass} {s : State} (hgas : (s.port p).gas = some c) :
    (s.route p).port p =
      if c = .hydro ∧ s.inhibited = true then (s.port p).toWait .inhibit
      else if s.accepting c = false then (s.port p).toWait .receiver
      else (s.port p).toExtract s.lc.paused c := by
  simp only [State.route, hgas]
  (repeat' split) <;> exact modPort_port_self ..

theorem toExtract_run (c : GasClass) (x : Port) :
    x.toExtract false c =
      { x with state := .extract, valveH := decide (c = .halo), valveK := decide (c = .hydro), dwell := x.dwell.thaw } := by
  cases c <;> rfl

/-- What a RESUME at a port reads beside the port itself. -/
def State.SameRouting (s t : State) : Prop :=
  t.cfg = s.cfg ∧ t.inhibited = s.inhibited ∧ ∀ c, t.accepting c = s.accepting c

theorem routed_of_route {p : PortId} {c : GasClass} {s t u : State} (hsame : s.SameRouting t) (hrun : t.lc.paused = false)
    (hport : t.port p = s.port p) (hgas : (s.port p).gas = some c) (hu : u.port p = (t.route p).port p) : s.Routed p c u := by
  obtain ⟨-, hinhibited, haccepting⟩ := hsame
  unfold State.Routed
  rw [hu, route_port (hport.symm ▸ hgas), hrun, hport, hinhibited, haccepting, toExtract_run]
  rfl

theorem portResume_samePortsBut (p : PortId) (s : State) : s.SamePortsBut p (s.portResume p) := by
  unfold State.portResume
  dsimp only
  split
  · exact samePortsBut_trans (fun q hq => State.port_setPort_ne hq _ s) (tryConnect_samePortsBut p _)
  · exact fun q hq => State.port_setPort_ne hq _ s
  · exact fun q hq => State.port_setPort_ne hq _ s
  · exact route_samePortsBut p s
  · exact recheck_samePortsBut p s
  · exact fun q hq => State.port_setPort_ne hq _ s
  all_goals exact samePortsBut_refl p s

/-- Each port takes the RESUME as R27 has it. -/
theorem portsResumed_of_portResume {s u : State}
    (hports : ∀ p, ∃ t : State, s.SameRouting t ∧ t.lc.paused = false ∧ t.port p = s.port p ∧ u.port p = (t.portResume p).port p) :
    s.PortsResumed u := fun p => by
  obtain ⟨t, hsame, hrun, hport, hu⟩ := hports p
  have hset : t.portSet (s.port p) = s.portSet (s.port p) := by simp only [State.portSet, hsame.1]
  cases hstate : (s.port p).state with
  | opened =>
    have hresume : t.portResume p = (t.setPort p { s.port p with connect := (s.port p).connect.thaw }).tryConnect p := by
      simp only [State.portResume, hport, hstate]
    have hconnected := tryConnect_port_self p (t.setPort p { s.port p with connect := (s.port p).connect.thaw })
    rw [← hresume, ← hu, State.port_setPort_self] at hconnected
    refine hconnected.trans ?_
    rw [← hset]
    rfl
  | extract =>
    intro c hgas
    have hresume : t.portResume p = t.route p := by simp only [State.portResume, hport, hstate]
    exact routed_of_route hsame hrun hport hgas (hresume ▸ hu)
  | wait r =>
    intro c hgas
    have hresume : t.portResume p = t.route p := by simp [State.portResume, hport, hstate, State.recheck, hrun]
    exact routed_of_route hsame hrun hport hgas (hresume ▸ hu)
  | _ =>
    dsimp only
    rw [hu]
    simp [State.portResume, hport, hstate, hset]

theorem tellResume_port (s : State) (p : PortId) : s.tellResume.port p = (s.eachPort State.portResume).port p := by
  simp [State.tellResume]

theorem tellResume_field (s : State) : s.tellResume.field = s.field.mapPortLines LineInput.resume := by
  simp [State.tellResume, State.eachPort]

theorem tellResume_portsResumed {s t : State} (hsame : s.SameRouting t) (hrun : t.lc.paused = false) (hports : ∀ p, t.port p = s.port p) :
    s.PortsResumed t.tellResume :=
  portsResumed_of_portResume fun p => by
    obtain ⟨v, ⟨hv, hvrun⟩, hvport, heach⟩ := eachPort_port (f := State.portResume)
      (keeps := fun v => s.SameRouting v ∧ v.lc.paused = false)
      (fun q v hv => by simpa [State.SameRouting] using hv) portResume_samePortsBut (s := t) ⟨hsame, hrun⟩ p
    exact ⟨v, hv, hvrun, hvport.trans (hports p), (tellResume_port t p).trans heach⟩

theorem linesResumed_of_field {s u : State} (hfield : u.field = s.field.mapPortLines LineInput.resume) : s.LinesResumed u := by
  intro p l hl
  rw [hfield, mapPortLines_input _ _ hl]
  generalize s.field.input l = i
  obtain ⟨level, _, _, record, _, _⟩ := i
  cases level with
  | none => rfl
  | some b => cases record with
    | none => rfl
    | some r => rfl

theorem resume_pauseRec (i : LineInput) : i.resume.pauseRec = none := by
  unfold LineInput.resume
  (repeat' split) <;> rfl

theorem mem_portLines_or (l : InputLine) : (∃ p, l ∈ portLines p) ∨ l ∈ [InputLine.estop, .selH, .selK] := by
  cases l with
  | clamp p => exact .inl ⟨p, by simp [portLines]⟩
  | confirm p => exact .inl ⟨p, by simp [portLines]⟩
  | release p => exact .inl ⟨p, by simp [portLines]⟩
  | _ => exact .inr (by simp)

theorem tellResume_pauseRec (s : State) (l : InputLine) :
    (s.tellResume.field.input l).pauseRec = none ∨ l ∈ [InputLine.estop, .selH, .selK] := by
  obtain ⟨p, hl⟩ | hl := mem_portLines_or l
  · rw [tellResume_field, mapPortLines_input _ _ hl]
    exact .inl (resume_pauseRec _)
  · exact .inr hl

theorem conditionFrames_tellResume (s : State) : conditionFrames s.tellResume.line.queue = conditionFrames s.line.queue := by
  simp [State.tellResume, State.eachPort]

/-- The blocks a RESUME reaches once the pause state has changed. -/
abbrev resumeBlocks : List Block := [.ports, .ana, .agent, .line, .field, .op]

theorem tellResume_sameBut (s : State) : s.SameBut resumeBlocks s.tellResume := by
  rw [sameBut_iff]
  simp

/-- The pause is over and its event raised; no block has been told. -/
abbrev State.pauseCleared (s : State) : State := (s.setLc s.lc.clearPause).raise .resume

theorem pauseCleared_sameBut (s : State) : s.SameBut [.conditions, .op] s.pauseCleared :=
  sameBut_trans (setLc_sameBut _ s) (raise_sameBut _ _) (by simp) (by simp)

theorem sameRouting_of_frame {s t : State} (hloader : t.loader = s.loader) (hinhibit : t.lc.inhibit = s.lc.inhibit)
    (hhalo : t.halo = s.halo) (hhydro : t.hydro = s.hydro) : s.SameRouting t := by
  refine ⟨by simp only [State.cfg, hloader], by simp only [State.inhibited, hinhibit], fun c => ?_⟩
  cases c
  · simp only [State.accepting, State.rcv, hhalo]
  · simp only [State.accepting, State.rcv, hhydro]

theorem resumeLine_of_estop {s : State} (hestop : s.field.estop.level = some true) :
    s.resumeLine = (s, [refuse .estopActive 0x08]) := if_pos (by rw [isAsserted_eq, hestop]; rfl)

theorem not_isAsserted {i : LineInput} (hlevel : i.level ≠ some true) : i.isAsserted = false := by
  rw [isAsserted_eq]
  exact decide_eq_false hlevel

theorem resumeLine_of_paused {s : State} (hestop : s.field.estop.level ≠ some true) (hpaused : s.lc.paused = true) :
    s.resumeLine = ((s.pauseCleared.lcOffer .resume).tellResume, [accept 0x08]) := by
  simp [State.resumeLine, not_isAsserted hestop, hpaused]

theorem resumeLine_of_run {s : State} (hestop : s.field.estop.level ≠ some true) (hrun : s.lc.paused = false) :
    s.resumeLine = (s.lcOffer .resume, [accept 0x08]) := by
  simp [State.resumeLine, not_isAsserted hestop, hrun]

/-- Settles O19: refused under ESTOP; a PAUSED station leaves the pause; in RUN the frame alone. -/
theorem resumeLineEndsThePause : Obligations.ResumeLineEndsThePause := fun s hserves => by
  refine ⟨fun hestop => ⟨_, rfl, refused_request (code := .estopActive) hserves (resumeLine_of_estop (s := s.hunts) hestop)⟩,
    fun hestop hpaused => ⟨_, rfl, ?_⟩, fun hestop hrun => ⟨_, rfl, ?_⟩⟩
  · rw [request_of_act hserves (resumeLine_of_paused (s := s.hunts) hestop hpaused)]
    let t := s.hunts.pauseCleared.lcOffer .resume
    have hroute : s.SameRouting t := sameRouting_of_frame (by simp [t]) (by simp [t, LineConditions.clearPause]) (by simp [t]) (by simp [t])
    have hrun : t.lc.paused = false := by simp [t, LineConditions.clearPause]
    have hports : ∀ p, t.port p = s.port p := fun p => by simp [t]
    have hlines : t.tellResume.field = s.field.mapPortLines LineInput.resume := by simp [tellResume_field, t]
    refine ⟨?same, ?lc, ?flag, rfl, tellResume_pauseRec t, tellResume_portsResumed hroute hrun hports, linesResumed_of_field hlines,
      fun hloaded hclash => ?sends⟩
    case same =>
      refine respond_sameBut_of_act (l := [.ports, .ana, .agent, .line, .conditions, .field, .op]) _ ?_ (by simp) (by simp)
      have hoffered : s.hunts.SameBut [.line, .conditions, .op] t :=
        sameBut_trans (pauseCleared_sameBut s.hunts) (lcOffer_sameBut _ _) (by simp) (by simp)
      exact sameBut_trans hoffered (tellResume_sameBut t) (by simp) (by simp)
    case lc =>
      have hlc : t.tellResume.lc = t.lc := by simp
      show t.tellResume.lc = { s.lc.clearPause with owed := t.tellResume.lc.owed }
      rw [hlc]
      exact lcOffer_lc ..
    case flag => exact tellResume_flag _ .resume (lcOffer_flag _ _ .resume (raise_flag_self .resume _))
    case sends =>
      have hsends : t.willSend .resume := lcOffer_willSend .resume s.hunts.pauseCleared (by simpa using hloaded) (by simpa using hclash)
      exact willSend_congr (u := t.tellResume.respond _) rfl (conditionFrames_tellResume t) (by simp [State.respond]) hsends
  · rw [request_of_act hserves (resumeLine_of_run (s := s.hunts) hestop hrun)]
    exact ⟨respond_sameBut_of_act _ (lcOffer_sameBut _ s.hunts) (by simp) (by simp), lcOffer_lc _ s.hunts, rfl,
      fun hloaded hclash => lcOffer_willSend .resume s.hunts hloaded hclash⟩

/-! ### A RESUME heard (R150) -/

theorem heard_sameBut (src : Address) (f : Frame) (s : State) : s.SameBut [.line, .peers] (s.heard src f) := by
  rw [sameBut_iff]
  simp

/-- The answer to a RESUME against an asserted ESTOP level. -/
theorem estopPause_lc (s : State) :
    s.estopPause.lc = { s.lc with estopRepeat := .running 1000, owed := s.estopPause.lc.owed } :=
  lcOffer_lc _ _

theorem estopPause_sameBut (s : State) : s.SameBut [.line, .conditions, .op] s.estopPause :=
  sameBut_trans (setLc_sameBut _ s) (lcOffer_sameBut _ _) (by simp) (by simp)

theorem estopPause_willSend {s : State} (hloaded : s.loaded = true) (hclash : s.line.clash = false) :
    s.estopPause.willSend (.pause .estop) :=
  lcOffer_willSend (.pause .estop) _ hloaded hclash

theorem exec_resume_of_idle {src : Address} {s : State} (hhears : s.hears (.resume src) src .resume) (hidle : s.agent.dstate = .idle) :
    exec (.resume src) s = .next (s.heard src .resume).lcResume.finish := by
  obtain ⟨-, hloaded, hpeer⟩ := hhears
  show Host.Outcome.next (s.onFrame src (some .resume) fun n t => (t.tellSets n).lcResume).finish = _
  rw [onFrame_of_heard _ hloaded hpeer, tellSets_eq_self_of_idle (s := s.heard src .resume) hidle]

theorem lcResume_of_paused {s : State} (hpaused : s.lc.paused = true) (hestop : s.field.estop.level ≠ some true) :
    s.lcResume = s.pauseCleared.tellResume := by
  rw [State.lcResume, if_pos hpaused, if_neg (by simp [not_isAsserted hestop])]

/-- Settles O28: the answer under ESTOP, the end of the pause, and nothing in RUN. -/
theorem resumeFrameEndsThePause : Obligations.ResumeFrameEndsThePause := fun src s hhears hidle => by
  have hheard := heard_sameBut src .resume s
  refine ⟨fun hpaused hestop => ⟨_, exec_resume_of_idle hhears hidle, ?_⟩, fun hpaused hestop => ⟨_, exec_resume_of_idle hhears hidle, ?_⟩,
    fun hrun => ⟨_, exec_resume_of_idle hhears hidle, ?_⟩⟩
  · have hanswer : (s.heard src .resume).lcResume = (s.heard src .resume).estopPause := by
      simp [State.lcResume, hpaused, isAsserted_eq, hestop]
    rw [hanswer]
    exact ⟨sameBut_trans hheard (estopPause_sameBut _) (by simp) (by simp), estopPause_lc _,
      fun hclash => estopPause_willSend hhears.2.1 hclash⟩
  · have hends : (s.heard src .resume).lcResume = (s.heard src .resume).pauseCleared.tellResume :=
      lcResume_of_paused hpaused hestop
    rw [hends]
    let t := (s.heard src .resume).pauseCleared
    have hroute : s.SameRouting t := sameRouting_of_frame (by simp [t]) (by simp [t, LineConditions.clearPause]) (by simp [t]) (by simp [t])
    have hlines : t.tellResume.field = s.field.mapPortLines LineInput.resume := by simp [tellResume_field, t]
    refine ⟨?same, by simp [LineConditions.clearPause], tellResume_flag _ .resume (raise_flag_self .resume _),
      tellResume_portsResumed hroute rfl fun p => by simp, linesResumed_of_field hlines, fun q hq hcondition => ?frames⟩
    case same =>
      have hcleared := sameBut_trans hheard (pauseCleared_sameBut (s.heard src .resume)) (n := [.line, .peers, .conditions, .op])
        (by simp) (by simp)
      exact sameBut_trans hcleared (tellResume_sameBut t) (by simp) (by simp)
    case frames =>
      refine mem_of_conditionFrames_eq (l := t.tellResume.line.queue) ((conditionFrames_tellResume t).trans rfl) hq ?_
      rcases hcondition with ⟨c, h⟩ | h | ⟨n, h⟩ <;> rw [h] <;> rfl
  · have hnothing : (s.heard src .resume).lcResume = s.heard src .resume := by simp [State.lcResume, hrun]
    rw [hnothing]
    exact ⟨hheard, rfl⟩

/-! ### The emergency stop (R148) -/

/-- The latches of a line are cleared: its owner has the edge. -/
abbrev State.edgeTaken (l : InputLine) (s : State) : State := s.setInput l (s.field.input l).clearLatches

theorem takeEdge_of_latch {l : InputLine} {b : Bool} {s : State} (hlatch : (s.field.input l).latch b = true) (act : State → State) :
    s.takeEdge l b act = act (s.edgeTaken l) := if_pos hlatch

theorem edgeTaken_sameBut (l : InputLine) (s : State) : s.SameBut [.field] (s.edgeTaken l) := by
  rw [sameBut_iff]
  simp [State.setInput]

theorem exec_estopAssert_of_latch {s : State} (hlatch : s.field.estop.assertLatch = true) :
    exec .estopAssert s =
      .next (((s.edgeTaken .estop).setLc { s.lc with estop := true }).enterPause .estop).estopPause.finish :=
  congrArg (fun t => Host.Outcome.next (State.finish t)) (takeEdge_of_latch (l := .estop) (b := true) hlatch State.estopPressed)

theorem exec_estopRepeatExpiry_of_running {n : Nat} {s : State} (hrunning : s.lc.estopRepeat = .running n) :
    exec .estopRepeatExpiry s = .next (s.elapse n).estopRepeats.finish := by
  show Host.Outcome.next (s.onExpiry s.lc.estopRepeat State.estopRepeats).finish = _
  rw [hrunning, State.onExpiry_running]

/-- Settles O37: the assert edge in RUN and in a pause, and the repeat timer. -/
theorem emergencyStopPausesTheLine : Obligations.EmergencyStopPausesTheLine := fun s hloaded => by
  let t := (s.edgeTaken .estop).setLc { s.lc with estop := true }
  have hpressed : s.SameBut [.field, .conditions] t := sameBut_trans (edgeTaken_sameBut _ s) (setLc_sameBut _ _) (by simp) (by simp)
  have hsends : s.line.clash = false → (t.enterPause .estop).estopPause.willSend (.pause .estop) :=
    fun hclash => estopPause_willSend (by simpa [t, State.setInput] using hloaded) (by simpa [t, State.setInput] using hclash)
  refine ⟨fun hlatch hrun hclass => ⟨_, exec_estopAssert_of_latch hlatch, ?_⟩, fun hlatch hpaused => ⟨_, exec_estopAssert_of_latch hlatch, ?_⟩,
    fun n e hrunning he => ⟨fun hestop hpaused => ⟨_, exec_estopRepeatExpiry_of_running hrunning, ?_⟩,
      fun hover => ⟨_, exec_estopRepeatExpiry_of_running hrunning, ?_⟩⟩⟩
  · have htaken : s.PauseTaken (t.enterPause .estop).estopPause :=
      pauseTaken_congr (by simp) (by simp) (by simp)
        (pauseTaken_of_same (t := t) (fun _ => rfl) (fun c => by simp [t, State.setInput])
          (fun p l hl => by
            simp only [portLines, List.mem_cons, List.not_mem_nil, or_false] at hl
            rcases hl with rfl | rfl | rfl <;> rfl)
          (enterPause_pauseTaken (s := t) hrun hclass .estop))
    refine ⟨?same, ?lc, ?flag, htaken.agent, htaken.shut, htaken.ports, htaken.lines, hsends⟩
    case same =>
      have hentered := sameBut_trans hpressed (enterPause_sameBut .estop t) (n := pauseBlocks) (by simp) (by simp)
      exact sameBut_trans hentered (estopPause_sameBut _) (by simp) (by simp)
    case lc =>
      refine (estopPause_lc (t.enterPause .estop)).trans ?_
      rw [enterPause_lc (s := t) hrun]
      rfl
    case flag => exact estopPause_flag _ .pause (enterPause_flag_of_run (s := t) hrun .estop)
  · rw [enterPause_of_paused (s := t) hpaused] at hsends ⊢
    refine ⟨?same, ?taken, estopPause_lc _, hsends⟩
    case same =>
      have hcause := sameBut_trans hpressed (setLc_sameBut (t.lc.addCause .estop) t) (n := [.field, .conditions]) (by simp) (by simp)
      exact sameBut_trans hcause (estopPause_sameBut _) (by simp) (by simp)
    case taken => simp [State.EdgeTaken, t, State.setInput, LineInput.clearLatches]
  · subst he
    have hrepeats : (s.elapse n).estopRepeats = (s.elapse n).estopPause := by simp [State.estopRepeats, hestop, hpaused]
    rw [hrepeats]
    exact ⟨estopPause_sameBut _, estopPause_lc _, fun hclash => estopPause_willSend hloaded hclash⟩
  · subst he
    have hstops : (s.elapse n).estopRepeats = (s.elapse n).setLc { (s.elapse n).lc with estopRepeat := .stopped } := by
      unfold State.estopRepeats
      rw [if_neg]
      rintro ⟨hestop, hpaused⟩
      rcases hover with h | h
      · exact absurd (h.symm.trans hestop) (by simp)
      · exact absurd (h.symm.trans hpaused) (by simp)
    rw [hstops]
    exact ⟨setLc_sameBut _ _, rfl⟩

end Sys2Proof.Machine
end

section
/-! PROOFS. The transmit queue under the agent's operations (R104): which frames an offer leaves where they are, that a frame offered
with room is taken, and by how much an operation can lengthen the queue; and what a run of the agent's moves leaves as it is. -/

namespace Sys2Proof.Machine

/-! ### One offer -/

theorem replaceIn_sublist {q : QueuedFrame} {kept l w : List QueuedFrame} (hkept : kept.Sublist l)
    (hstands : ∀ x ∈ kept, replaces q.frame x.frame = false) (hw : replaceIn q l = some w) : kept.Sublist w := by
  induction l generalizing kept w with
  | nil => cases hw
  | cons x rest ih =>
    simp only [replaceIn] at hw
    split at hw
    next hreplaces =>
      obtain rfl := Option.some.inj hw
      cases hkept with
      | cons _ h => exact h.cons q
      | cons_cons _ h => exact absurd hreplaces (by simp [hstands x])
    next =>
      obtain ⟨v, hv, rfl⟩ := Option.map_eq_some_iff.mp hw
      cases hkept with
      | cons _ h => exact (ih h hstands hv).cons x
      | cons_cons _ h => exact (ih h (fun y hy => hstands y (List.mem_cons_of_mem x hy)) hv).cons_cons x

theorem dropBeacon_sublist {kept l w : List QueuedFrame} (hkept : kept.Sublist l) (hstands : ∀ x ∈ kept, x.frame.isBeacon = false)
    (hw : dropBeacon l = some w) : kept.Sublist w := by
  induction l generalizing kept w with
  | nil => cases hw
  | cons x rest ih =>
    simp only [dropBeacon] at hw
    split at hw
    next hbeacon =>
      obtain rfl := Option.some.inj hw
      cases hkept with
      | cons _ h => exact h
      | cons_cons _ h => exact absurd hbeacon (by simp [hstands x])
    next =>
      obtain ⟨v, hv, rfl⟩ := Option.map_eq_some_iff.mp hw
      cases hkept with
      | cons _ h => exact (ih h hstands hv).cons x
      | cons_cons _ h => exact (ih h (fun y hy => hstands y (List.mem_cons_of_mem x hy)) hv).cons_cons x

/-- An offer leaves the other frames in their order, but for a BEACON that is dropped for room and one the new frame replaces. -/
theorem offer_sublist {q : QueuedFrame} {kept : List QueuedFrame} {l : LineIf} (hkept : kept.Sublist l.queue)
    (hstands : ∀ x ∈ kept, x.frame.isBeacon = false ∧ replaces q.frame x.frame = false) : kept.Sublist (l.offer q).1.queue := by
  have hparts := hkept
  rw [← sendingPart_append_waitingPart] at hparts
  obtain ⟨k, m, rfl, hk, hm⟩ := List.sublist_append_iff.mp hparts
  have hmStands : ∀ x ∈ m, x.frame.isBeacon = false ∧ replaces q.frame x.frame = false := fun x hx =>
    hstands x (List.mem_append_right k hx)
  unfold LineIf.offer
  split
  · exact hkept
  · split
    next w hw => exact hk.append (replaceIn_sublist hm (fun x hx => (hmStands x hx).2) hw)
    next =>
      split
      · rw [wake_queue]
        exact hkept.trans (List.sublist_append_left ..)
      · split
        next w hw =>
          exact (hk.append (dropBeacon_sublist hm (fun x hx => (hmStands x hx).1) hw)).trans (List.sublist_append_left ..)
        next => exact hkept

theorem replaceIn_eq_none {q : QueuedFrame} {l : List QueuedFrame} (hnone : ∀ x ∈ l, replaces q.frame x.frame = false) :
    replaceIn q l = none := by
  induction l with
  | nil => rfl
  | cons x rest ih =>
    have hrest := ih fun y hy => hnone y (List.mem_cons_of_mem x hy)
    simp [replaceIn, hrest, hnone x List.mem_cons_self]

/-- A frame that replaces none goes to the tail, where there is room. -/
theorem offer_queue_of_room {q : QueuedFrame} {l : LineIf} (hnone : ∀ f, replaces q.frame f = false) (hclash : l.clash = false)
    (hroom : l.queue.length < Config.frameRoom) : (l.offer q).1.queue = l.queue ++ [q] := by
  unfold LineIf.offer
  rw [if_neg (by simp [hclash]), replaceIn_eq_none fun x _ => hnone x.frame]
  dsimp only
  rw [if_pos hroom, wake_queue]

theorem offer_length_succ (q : QueuedFrame) (l : LineIf) : (l.offer q).1.queue.length ≤ l.queue.length + 1 := by
  have hparts := parts_length l
  unfold LineIf.offer
  split
  · exact Nat.le_succ _
  · split
    next w hw =>
      have := replaceIn_length hw
      simp
      omega
    next =>
      split
      · simp
      · split
        next w hw =>
          have := dropBeacon_length hw
          simp
          omega
        next => exact Nat.le_succ _

theorem offer_eq_self_of_clash {q : QueuedFrame} {l : LineIf} (hclash : l.clash = true) : l.offer q = (l, .lostClash) := if_pos hclash

/-- Neither a BEACON nor a HOLD: no later offer displaces it. -/
def Frame.isPlain : Frame → Bool
  | .beacon _ => false
  | .hold _ _ => false
  | _ => true

theorem isBeacon_of_plain {f : Frame} (hplain : f.isPlain = true) : f.isBeacon = false := by
  cases f <;> simp_all [Frame.isPlain, Frame.isBeacon]

theorem replaces_old_of_plain {old : Frame} (hplain : old.isPlain = true) (new : Frame) : replaces new old = false := by
  cases old with
  | beacon b => cases hplain
  | hold c r => cases hplain
  | _ => cases new <;> rfl

theorem replaces_new_of_plain {new : Frame} (hplain : new.isPlain = true) (old : Frame) : replaces new old = false := by
  cases new with
  | beacon b => cases hplain
  | hold c r => cases hplain
  | _ => rfl

/-! ### An offer of the station -/

theorem offerEntry_line (f : Frame) (entry : Nat) (s : State) :
    (s.offerEntry f entry).1.line = if s.loaded then (s.line.offer ⟨f, entry⟩).1 else s.line := by
  unfold State.offerEntry
  split
  · dsimp only
    split <;> rfl
  · rfl

theorem offerEntry_fate {s : State} (hloaded : s.loaded = true) (f : Frame) (entry : Nat) :
    (s.offerEntry f entry).2 = (s.line.offer ⟨f, entry⟩).2 := by
  unfold State.offerEntry
  rw [if_pos hloaded]
  dsimp only
  split <;> simp [*]

theorem offerEntry_sublist {f : Frame} {entry : Nat} {kept : List QueuedFrame} {s : State} (hkept : kept.Sublist s.line.queue)
    (hstands : ∀ x ∈ kept, x.frame.isBeacon = false ∧ replaces f x.frame = false) :
    kept.Sublist (s.offerEntry f entry).1.line.queue := by
  rw [offerEntry_line]
  split
  · exact offer_sublist hkept hstands
  · exact hkept

/-- A frame is offered where it is heard of by its block: the station is in LOADED, without address clash, with room. -/
structure State.HasRoom (s : State) (n : Nat) : Prop where
  loaded : s.loaded = true
  clash : s.line.clash = false
  room : s.line.queue.length + n ≤ Config.frameRoom

theorem offerEntry_taken {s : State} (hroom : s.HasRoom 1) (f : Frame) (entry : Nat) : (s.offerEntry f entry).2 = .taken := by
  rw [offerEntry_fate hroom.loaded]
  exact offer_room _ _ hroom.clash hroom.room

theorem mem_offerEntry {s : State} (hroom : s.HasRoom 1) (f : Frame) (entry : Nat) :
    (⟨f, entry⟩ : QueuedFrame) ∈ (s.offerEntry f entry).1.line.queue := by
  rw [offerEntry_line, if_pos hroom.loaded]
  exact offer_taken _ _ (offer_room _ _ hroom.clash hroom.room)

theorem mem_offer {s : State} (hroom : s.HasRoom 1) (f : Frame) : (⟨f, 0⟩ : QueuedFrame) ∈ (s.offer f).line.queue :=
  mem_offerEntry hroom f 0

theorem offer_queue_append {s : State} (hroom : s.HasRoom 1) {f : Frame} (hplain : f.isPlain = true) :
    (s.offer f).line.queue = s.line.queue ++ [⟨f, 0⟩] := by
  unfold State.offer
  rw [offerEntry_line, if_pos hroom.loaded]
  exact offer_queue_of_room (replaces_new_of_plain hplain) hroom.clash hroom.room

/-! ### How many frames an operation can add -/

theorem length_offerEntry (f : Frame) (entry : Nat) (s : State) :
    (s.offerEntry f entry).1.line.queue.length ≤ s.line.queue.length + 1 := by
  rw [offerEntry_line]
  split
  · exact offer_length_succ ..
  · omega

theorem length_offer (f : Frame) (s : State) : (s.offer f).line.queue.length ≤ s.line.queue.length + 1 := length_offerEntry f 0 s

theorem length_noticeChange (before : DState) (s : State) : (s.noticeChange before).line.queue.length ≤ s.line.queue.length + 1 := by
  unfold State.noticeChange
  split
  · omega
  · exact length_offer _ s

theorem length_toBackoff (long : Bool) (s : State) : (s.toBackoff long).line.queue.length ≤ s.line.queue.length + 1 :=
  length_noticeChange _ _

theorem length_toWaiting (s : State) : s.toWaiting.line.queue.length ≤ s.line.queue.length + 1 := length_noticeChange _ _

theorem length_toDrain (s : State) : s.toDrain.line.queue.length ≤ s.line.queue.length + 1 := by
  unfold State.toDrain
  split
  · exact length_toWaiting s
  · exact length_noticeChange _ _

theorem length_listenTold (u : Purpose) (c : GasClass) (s : State) :
    (s.listenTold u c).line.queue.length ≤ s.line.queue.length + 2 := by
  have hnotice := length_noticeChange s.agent.dstate
    ((s.setAgent (s.agent.listens u c (s.band c))).offerEntry (.intent u c (s.band c)) (s.agent.entry + 1)).1
  have hoffer := length_offerEntry (.intent u c (s.band c)) (s.agent.entry + 1) (s.setAgent (s.agent.listens u c (s.band c)))
  have hline : (s.setAgent (s.agent.listens u c (s.band c))).line = s.line := rfl
  rw [hline] at hoffer
  unfold State.listenTold
  omega

theorem length_toListen (u : Purpose) (c : GasClass) (s : State) : (s.toListen u c).line.queue.length ≤ s.line.queue.length + 3 := by
  have htold := length_listenTold u c s
  rcases toListen_cases u c s with h | h <;> rw [h]
  · omega
  · have := length_toBackoff false (s.listenTold u c)
    omega

theorem length_idleCheck (s : State) : s.idleCheck.line.queue.length ≤ s.line.queue.length + 3 := by
  unfold State.idleCheck
  split
  · split
    · exact length_toListen ..
    · omega
  · omega

theorem length_toIdle (s : State) : s.toIdle.line.queue.length ≤ s.line.queue.length + 4 := by
  have hcheck := length_idleCheck ((s.setAgent { s.agent.goTo .idle with sought := none }).noticeChange s.agent.dstate)
  have hnotice := length_noticeChange s.agent.dstate (s.setAgent { s.agent.goTo .idle with sought := none })
  have hline : (s.setAgent { s.agent.goTo .idle with sought := none }).line = s.line := rfl
  rw [hline] at hnotice
  unfold State.toIdle
  omega

theorem length_reevaluate (s : State) : s.reevaluate.line.queue.length ≤ s.line.queue.length + 3 := by
  unfold State.reevaluate
  split
  · omega
  · split
    · exact length_toListen ..
    · split
      · have := length_toDrain s
        omega
      · omega

theorem length_offerHoldOnly (h : HoldClass) (reason : HoldReason) (s : State) :
    (s.offerHoldOnly h reason).line.queue.length ≤ s.line.queue.length + 1 :=
  length_offer _ _

/-! ### With room the agent arrives where it goes -/

theorem toListen_of_room {s : State} (hroom : s.HasRoom 1) (u : Purpose) (c : GasClass) : s.toListen u c = s.listenTold u c := by
  have htaken := offerEntry_taken (s := s.setAgent (s.agent.listens u c (s.band c))) ⟨hroom.loaded, hroom.clash, hroom.room⟩
    (.intent u c (s.band c)) (s.agent.entry + 1)
  unfold State.toListen
  dsimp only
  split
  next => rfl
  next h => exact absurd (h.symm.trans htaken) (by simp)
  next h => exact absurd (h.symm.trans htaken) (by simp)

theorem toPurging_of_room {s : State} {c : GasClass} (hroom : s.HasRoom 1) (hsought : s.agent.sought = some c) :
    s.toPurging = s.purgeTold c := by
  have htaken := offerEntry_taken (s := s.setAgent (s.agent.purgesFor s.cfg.address (s.cfg.header.purgeS * 1000)))
    ⟨hroom.loaded, hroom.clash, hroom.room⟩ (.purgeStart c (s.agent.viewSerial + 1)) 0
  unfold State.toPurging
  simp only [hsought]
  split
  next => rfl
  next h => exact absurd (h.symm.trans htaken) (by simp)
  next h => exact absurd (h.symm.trans htaken) (by simp)

/-! ### A run of the agent's moves -/

/-- The blocks the agent's moves reach. -/
abbrev agentBlocks : List Block := [.ports, .receiver .halo, .receiver .hydro, .agent, .line, .op]

theorem Move.sameBut {s u : State} (h : Move s u) : s.SameBut agentBlocks u := by
  cases h with
  | agent a => exact sameBut_mono (setAgent_sameBut a s) (by simp)
  | offers f entry =>
    rw [sameBut_iff]
    simp
  | raises e => exact sameBut_mono (raise_sameBut e s) (by simp)
  | receiverTold c r _ =>
    exact sameBut_trans (setRcv_sameBut c r s) (tellPorts_sameBut c _) (by cases c <;> simp) (by simp)

theorem Moves.sameBut {s u : State} (h : Moves s u) : s.SameBut agentBlocks u :=
  moves_keep (P := fun u => s.SameBut agentBlocks u)
    (fun _ _ hs hmove => sameBut_trans hs hmove.sameBut (List.Subset.refl _) (List.Subset.refl _)) (sameBut_refl _ s) h

/-- The line interface but for its transmit side. -/
def LineIf.SameReceiver (l m : LineIf) : Prop :=
  m.framer = l.framer ∧ m.rxErrors = l.rxErrors ∧ m.collisions = l.collisions ∧ m.listenIn = l.listenIn ∧ m.clash = l.clash ∧
    m.listenT = l.listenT ∧ m.clashT = l.clashT ∧ m.beaconT = l.beaconT

theorem Move.sameReceiver {s u : State} (h : Move s u) : s.line.SameReceiver u.line := by
  cases h with
  | offers f entry =>
    unfold LineIf.SameReceiver
    simp
  | _ =>
    unfold LineIf.SameReceiver
    simp

theorem Moves.sameReceiver {s u : State} (h : Moves s u) : s.line.SameReceiver u.line :=
  moves_keep (P := fun u => s.line.SameReceiver u.line)
    (fun _ _ hs hmove => by
      have hm := hmove.sameReceiver
      unfold LineIf.SameReceiver at hs hm ⊢
      obtain ⟨h1, h2, h3, h4, h5, h6, h7, h8⟩ := hs
      rwa [h1, h2, h3, h4, h5, h6, h7, h8] at hm) ⟨rfl, rfl, rfl, rfl, rfl, rfl, rfl, rfl⟩ h

theorem Move.sublist {s u : State} {kept : List QueuedFrame} (hkept : kept.Sublist s.line.queue)
    (hplain : ∀ x ∈ kept, x.frame.isPlain = true) (h : Move s u) : kept.Sublist u.line.queue := by
  cases h with
  | agent a => exact hkept
  | offers f entry =>
    exact offerEntry_sublist hkept fun x hx => ⟨isBeacon_of_plain (hplain x hx), replaces_old_of_plain (hplain x hx) f⟩
  | raises e => exact hkept
  | receiverTold c r _ => simpa using hkept

/-- What waits and is neither BEACON nor HOLD waits on, in its order, whatever the agent does. -/
theorem Moves.sublist {s u : State} {kept : List QueuedFrame} (hkept : kept.Sublist s.line.queue)
    (hplain : ∀ x ∈ kept, x.frame.isPlain = true) (h : Moves s u) : kept.Sublist u.line.queue :=
  moves_keep (P := fun u => kept.Sublist u.line.queue) (fun _ _ hs hmove => hmove.sublist hs hplain) hkept h

theorem Moves.mem_queue {s u : State} {q : QueuedFrame} (hq : q ∈ s.line.queue) (hplain : q.frame.isPlain = true) (h : Moves s u) :
    q ∈ u.line.queue :=
  List.singleton_sublist.mp (h.sublist (List.singleton_sublist.mpr hq) (by simpa using hplain))

theorem Move.line_of_clash {s u : State} (hclash : s.line.clash = true) (h : Move s u) : u.line = s.line := by
  cases h with
  | agent a => rfl
  | offers f entry =>
    rw [offerEntry_line, offer_eq_self_of_clash hclash]
    split <;> rfl
  | raises e => rfl
  | receiverTold c r _ => simp

/-- Within address clash no frame is taken (R107). -/
theorem Moves.line_of_clash {s u : State} (hclash : s.line.clash = true) (h : Moves s u) : u.line = s.line :=
  moves_keep (P := fun u => u.line = s.line) (fun _ _ hs hmove => (hmove.line_of_clash (hs ▸ hclash)).trans hs) rfl h

end Sys2Proof.Machine
end

section
/-! PROOFS. Where the agent's operations leave the agent and its receiver: the end of a flow and the abort of a purge (R127, R130), the
entry to BACKOFF (R133), the reaction to a changed view (R122, R123, R130) and the effect of a hold (R118). -/

namespace Sys2Proof.Machine

/-! ### BACKOFF (R133) -/

theorem toBackoff_agent (long : Bool) (s : State) :
    (s.toBackoff long).agent =
      { s.agent.goTo .backoff with
        backoff := .running (if long then 10 * (100 + 10 * s.cfg.address.val) else 100 + 10 * s.cfg.address.val) } := by
  simp [State.toBackoff, State.noticeChange, State.offerBeacon]
  split <;> simp [State.offer]

theorem offer_agent (f : Frame) (s : State) : (s.offer f).agent = s.agent := by simp

/-! ### The end of a flow (R51, R130) -/

/-- The receiver after the flow-end notice (R51). -/
def Receiver.flowOver (g : ReceiverSet) (r : Receiver) : Receiver :=
  match r.state with
  | .discharging => ({ r.dropFlow with state := r.restState g } : Receiver).checkRequest g
  | _ => r

theorem receiverFlowEnd_rcv_self (c : GasClass) (s : State) :
    (s.receiverFlowEnd c).rcv c = (s.rcv c).flowOver (s.cfg.rcvSet c) := by
  unfold State.receiverFlowEnd Receiver.flowOver
  dsimp only
  split <;> simp [*]

theorem flowOver_of_discharging {g : ReceiverSet} {r : Receiver} (hstate : r.state = .discharging) :
    (r.flowOver g).state = (if r.level g < g.full then .accepting else .full) ∧ (r.flowOver g).stall = .stopped ∧
      (r.flowOver g).lowest = none := by
  simp only [Receiver.flowOver, hstate]
  exact ⟨rfl, rfl, rfl⟩

theorem flowEnded_rcv_self (conflictHold sendOff : Bool) (c : GasClass) (s : State) :
    (s.flowEnded conflictHold sendOff c).rcv c = (s.rcv c).flowOver (s.cfg.rcvSet c) := by
  cases conflictHold <;> cases sendOff <;> simp [State.flowEnded, receiverFlowEnd_rcv_self]

theorem goNext_rcv (n : NextState) (s : State) (c : GasClass) : (s.goNext n).rcv c = s.rcv c := by simp

/-- What the end of a flow leaves at its receiver. -/
theorem endFlow_rcv_self {c : GasClass} {s : State} (hsought : s.agent.sought = some c) (conflictHold sendOff : Bool) (n : NextState) :
    (s.endFlow conflictHold sendOff n).rcv c = (s.rcv c).flowOver (s.cfg.rcvSet c) := by
  rw [endFlow_eq hsought, goNext_rcv, flowEnded_rcv_self]

/-- A flow that ends into BACKOFF: the outputs shut, held where the table puts the conflict HOLD, and the view left alone. -/
theorem endFlow_backoff_agent {c : GasClass} {s : State} (hsought : s.agent.sought = some c) (conflictHold sendOff : Bool) :
    (s.endFlow conflictHold sendOff .backoff).agent =
      { (if conflictHold then s.agent.shut.setHold .all else s.agent.shut).goTo .backoff with
        backoff := .running (100 + 10 * s.cfg.address.val) } := by
  rw [endFlow_eq hsought]
  refine (toBackoff_agent false _).trans ?_
  rw [flowEnded_agent]
  have hcfg : (s.flowEnded conflictHold sendOff c).cfg = s.cfg := by
    cases conflictHold <;> cases sendOff <;> simp [State.flowEnded]
  rw [hcfg]
  rfl

theorem disch_of_shut (a : Agent) (c : GasClass) : a.shut.disch c = false ∧ a.shut.sel c = false := by
  cases c <;> exact ⟨rfl, rfl⟩

/-- A flow that ends into BACKOFF without the conflict HOLD. -/
theorem endFlow_backoff_shut {c : GasClass} {s : State} (hsought : s.agent.sought = some c) (conflictHold sendOff : Bool) :
    (s.endFlow conflictHold sendOff .backoff).agent.dstate = .backoff ∧
      ∀ d, (s.endFlow conflictHold sendOff .backoff).agent.disch d = false ∧
        (s.endFlow conflictHold sendOff .backoff).agent.sel d = false := by
  rw [endFlow_backoff_agent hsought]
  refine ⟨rfl, fun d => ?_⟩
  cases conflictHold <;> cases d <;> exact ⟨rfl, rfl⟩

/-! ### The abort of a purge (R127) -/

theorem abortPurge_backoff_agent (conflictHold sendDone : Bool) (s : State) :
    (s.abortPurge conflictHold sendDone .backoff).agent =
      (let a : Agent :=
        { s.agent with
          purgeV := false, purge := .stopped, viewClass := none, viewSerial := s.agent.purgeSerial, owner := none }
      { (if conflictHold then a.setHold .all else a).goTo .backoff with backoff := .running (100 + 10 * s.cfg.address.val) }) := by
  rw [abortPurge_eq]
  refine (toBackoff_agent false _).trans ?_
  rw [purgeAborted_agent]
  have hcfg : (s.purgeAborted conflictHold sendDone).cfg = s.cfg := by
    cases conflictHold <;> cases sendDone <;> simp [State.purgeAborted]
  rw [hcfg]
  rfl

/-! ### The reaction to a changed view or set -/

theorem viewReaction_eq_self {s : State} (hwaiting : s.agent.dstate ≠ .waiting) (hdrain : s.agent.dstate ≠ .drain)
    (hflowing : s.agent.dstate ≠ .flowing) (flowing : List (Address × GasClass)) (told : Bool) :
    s.viewReaction flowing told = s := by
  cases hstate : s.agent.dstate
  case waiting => exact absurd hstate hwaiting
  case drain => exact absurd hstate hdrain
  case flowing => exact absurd hstate hflowing
  all_goals simp only [State.viewReaction, hstate]

theorem tellSets_eq_self {s : State} (hwaiting : s.agent.dstate ≠ .waiting) (hdrain : s.agent.dstate ≠ .drain)
    (hflowing : s.agent.dstate ≠ .flowing) (n : SetNews) : s.tellSets n = s := by
  rcases tellSets_eq n s with h | h
  · exact h
  · exact h.trans (viewReaction_eq_self hwaiting hdrain hflowing _ _)

theorem takeView_eq_setAgent {s : State} {a : Agent} (hwaiting : a.dstate ≠ .waiting) (hdrain : a.dstate ≠ .drain)
    (hflowing : a.dstate ≠ .flowing) (n : SetNews) : s.takeView n a = s.setAgent a :=
  viewReaction_eq_self (s := s.setAgent a) hwaiting hdrain hflowing _ _

/-! ### The effect of a hold (R118) -/

theorem holdEffect_eq_self {h : HoldClass} {s : State} (hpurge : s.agent.dstate ≠ .listenPurge) (hpurging : s.agent.dstate ≠ .purging)
    (hflowing : s.agent.dstate ≠ .flowing) : s.holdEffect h = s := by
  unfold State.holdEffect
  split
  · rfl
  · split
    · cases hstate : s.agent.dstate
      case listenPurge => exact absurd hstate hpurge
      case purging => exact absurd hstate hpurging
      case flowing => exact absurd hstate hflowing
      all_goals rfl
    · rfl

theorem holdEffect_of_bars {h : HoldClass} {c : GasClass} {s : State} (hsought : s.agent.sought = some c) (hbars : h.bars c = true) :
    (s.agent.dstate = .listenPurge → s.holdEffect h = s.setAgent { s.agent with reserved := false }) ∧
    (s.agent.dstate = .purging → s.holdEffect h = s.abortPurge false true .backoff) ∧
    (s.agent.dstate = .flowing → s.holdEffect h = s.endFlow false true .backoff) := by
  refine ⟨fun hstate => ?_, fun hstate => ?_, fun hstate => ?_⟩ <;>
    simp only [State.holdEffect, hsought, hbars, if_true, hstate]

/-- A hold leaves the held-until times and the reasons to the HOLD that is taken. -/
theorem holdEffect_holds (h : HoldClass) (s : State) :
    (s.holdEffect h).agent.heldH = s.agent.heldH ∧ (s.holdEffect h).agent.heldK = s.agent.heldK ∧
      (s.holdEffect h).agent.reasonH = s.agent.reasonH ∧ (s.holdEffect h).agent.reasonK = s.agent.reasonK := by
  unfold State.holdEffect
  split
  · exact ⟨rfl, rfl, rfl, rfl⟩
  · split
    · split <;> simp
    · exact ⟨rfl, rfl, rfl, rfl⟩

theorem viewReaction_holds (flowing : List (Address × GasClass)) (told : Bool) (s : State) :
    (s.viewReaction flowing told).agent.heldH = s.agent.heldH ∧ (s.viewReaction flowing told).agent.heldK = s.agent.heldK ∧
      (s.viewReaction flowing told).agent.reasonH = s.agent.reasonH ∧ (s.viewReaction flowing told).agent.reasonK = s.agent.reasonK := by
  unfold State.viewReaction
  (repeat' split) <;> simp

theorem tellSets_holds (n : SetNews) (s : State) :
    (s.tellSets n).agent.heldH = s.agent.heldH ∧ (s.tellSets n).agent.heldK = s.agent.heldK ∧
      (s.tellSets n).agent.reasonH = s.agent.reasonH ∧ (s.tellSets n).agent.reasonK = s.agent.reasonK := by
  rcases tellSets_eq n s with h | h <;> rw [h]
  · exact ⟨rfl, rfl, rfl, rfl⟩
  · exact viewReaction_holds ..

end Sys2Proof.Machine
end

section
/-! PROOFS. Frames of peers (05, 06, 07): the frame that is heard and refreshes its entry (O21), the frames that are dropped (O22), an
INTENT in a listen window (O24), a PURGE_START against a flow (O25) and a HOLD (O26). -/

namespace Sys2Proof.Machine

/-! ### A frame is handed on (R101, R141) -/

/-- The block a frame of a peer goes to, by its kind. -/
def State.handOn (src : Address) (f : Frame) (n : SetNews) (s : State) : State :=
  match f with
  | .beacon b => s.agentBeacon src b n
  | .intent u c k => s.agentIntent src u c k n
  | .flowOn c v => s.agentFlowOn c v n
  | .flowOff _ => s.tellSets n
  | .purgeStart c _ => s.agentPurgeStart src c n
  | .purgeDone c v => s.agentPurgeDone src c v n
  | .hold h r => s.agentHold h r n
  | .pause c => (s.tellSets n).lcPause c
  | .resume => (s.tellSets n).lcResume
  | .alarm k => (s.tellSets n).lcAlarm k

theorem readBeacon_eq_some {p : BeaconPayload} {f : Frame} (h : readBeacon p = some f) : ∃ b, f = .beacon b := by
  unfold readBeacon at h
  split at h
  · split at h
    · exact ⟨_, (Option.some.inj h).symm⟩
    · cases h
  · cases h

theorem readIntent_eq_some {u c k : Byte} {f : Frame} (h : readIntent u c k = some f) : ∃ v d n, f = .intent v d n := by
  unfold readIntent at h
  split at h
  · split at h
    · exact ⟨_, _, _, (Option.some.inj h).symm⟩
    · cases h
  · cases h

theorem readHold_eq_some {c r : Byte} {f : Frame} (h : readHold c r = some f) : ∃ d q, f = .hold d q := by
  unfold readHold at h
  split at h
  · exact ⟨_, _, (Option.some.inj h).symm⟩
  · cases h

theorem readAlarm_eq_some {c : Byte} {n : Word16} {f : Frame} (h : readAlarm c n = some f) : ∃ k, f = .alarm k := by
  unfold readAlarm at h
  split at h
  · exact ⟨_, (Option.some.inj h).symm⟩
  · cases h

/-- A frame of a peer refreshes its entry, and is then handed on. -/
theorem exec_of_hears {i : Instr} {src : Address} {f : Frame} {s : State} (hhears : s.hears i src f) :
    exec i s = .next ((s.heard src f).handOn src f (s.newsOf src f)).finish := by
  obtain ⟨hframe, hloaded, hpeer⟩ := hhears
  have hheard : ∀ act : SetNews → State → State, s.onFrame src (some f) act = act (s.newsOf src f) (s.heard src f) :=
    fun act => onFrame_of_heard act hloaded hpeer
  cases i <;> simp only [frameOf, Option.map_eq_some_iff, Prod.mk.injEq, reduceCtorEq, Option.some.injEq] at hframe
  case beacon src' p =>
    obtain ⟨_, hread, rfl, rfl⟩ := hframe
    obtain ⟨b, rfl⟩ := readBeacon_eq_some hread
    simp only [exec, execBeacon, hread, hheard, State.handOn]
  case intent src' u c k =>
    obtain ⟨_, hread, rfl, rfl⟩ := hframe
    obtain ⟨v, d, n, rfl⟩ := readIntent_eq_some hread
    simp only [exec, execIntent, hread, hheard, State.handOn]
  case flowOn src' c n =>
    obtain ⟨_, hread, rfl, rfl⟩ := hframe
    obtain ⟨d, -, rfl⟩ := Option.map_eq_some_iff.mp hread
    simp only [exec, execFlowOn, hread, hheard, State.handOn]
  case flowOff src' c =>
    obtain ⟨_, hread, rfl, rfl⟩ := hframe
    obtain ⟨d, -, rfl⟩ := Option.map_eq_some_iff.mp hread
    simp only [exec, execFlowOff, hread, hheard, State.handOn]
  case purgeStart src' c n =>
    obtain ⟨_, hread, rfl, rfl⟩ := hframe
    obtain ⟨d, -, rfl⟩ := Option.map_eq_some_iff.mp hread
    simp only [exec, execPurgeStart, hread, hheard, State.handOn]
  case purgeDone src' c n =>
    obtain ⟨_, hread, rfl, rfl⟩ := hframe
    obtain ⟨d, -, rfl⟩ := Option.map_eq_some_iff.mp hread
    simp only [exec, execPurgeDone, hread, hheard, State.handOn]
  case hold src' c r =>
    obtain ⟨_, hread, rfl, rfl⟩ := hframe
    obtain ⟨d, q, rfl⟩ := readHold_eq_some hread
    simp only [exec, execHold, hread, hheard, State.handOn]
  case pause src' c =>
    obtain ⟨_, hread, rfl, rfl⟩ := hframe
    obtain ⟨d, -, rfl⟩ := Option.map_eq_some_iff.mp hread
    simp only [exec, execPause, hread, hheard, State.handOn]
  case resume src' =>
    obtain ⟨rfl, rfl⟩ := hframe
    simp only [exec, execResume, hheard, State.handOn]
  case alarm src' c n =>
    obtain ⟨_, hread, rfl, rfl⟩ := hframe
    obtain ⟨k, rfl⟩ := readAlarm_eq_some hread
    simp only [exec, execAlarm, hread, hheard, State.handOn]

/-! ### What a frame that is handed on leaves as it is -/

theorem moves_takeView (n : SetNews) (a : Agent) (s : State) : Moves s (s.takeView n a) :=
  (Move.agent a).moves.trans (moves_viewReaction _ _ _)

theorem moves_tellSets (n : SetNews) (s : State) : Moves s (s.tellSets n) := moves_if (moves_viewReaction _ _ s) .refl

theorem moves_abortIf (c conflictHold : Bool) (s : State) : Moves s (s.abortIf c conflictHold) :=
  moves_if (moves_abortPurge _ _ _ s) .refl

theorem moves_inhibitAnswer (c : GasClass) (s : State) : Moves s (s.inhibitAnswer c) := moves_if (moves_offerHold _ _ s) .refl

theorem moves_agentPurgeStart (src : Address) (c : GasClass) (n : SetNews) (s : State) : Moves s (s.agentPurgeStart src c n) := by
  refine (moves_abortIf true false s).trans (Relation.ReflTransGen.trans ?_ (moves_inhibitAnswer c _))
  exact moves_if ((Move.agent _).moves.trans (moves_endFlow ..)) (moves_takeView ..)

theorem lcPause_sameBut (cause : PauseCause) (s : State) : s.SameBut pauseBlocks (s.lcPause cause) :=
  sameBut_trans (setLc_sameBut _ s) (enterPause_sameBut _ _) (by simp) (by simp)

theorem lcPause_sameReceiver (cause : PauseCause) (s : State) : s.line.SameReceiver (s.lcPause cause).line := by
  simp [LineIf.SameReceiver, State.lcPause]

/-- The blocks a RESUME of the station line reaches. -/
abbrev lcResumeBlocks : List Block := [.ports, .ana, .agent, .line, .conditions, .field, .op]

theorem lcResume_sameBut (s : State) : s.SameBut lcResumeBlocks s.lcResume := by
  unfold State.lcResume
  exact sameBut_ite (sameBut_ite (sameBut_mono (estopPause_sameBut s) (by simp))
    (sameBut_trans (pauseCleared_sameBut s) (tellResume_sameBut _) (by simp) (by simp))) (sameBut_refl _ s)

theorem lcResume_sameReceiver (s : State) : s.line.SameReceiver s.lcResume.line := by
  unfold State.lcResume LineIf.SameReceiver
  (repeat' split) <;> simp

theorem takeInhibit_sameBut (seconds : Nat) (s : State) :
    s.SameBut [.ports, .receiver .halo, .receiver .hydro, .agent, .line, .conditions, .op] (s.takeInhibit seconds) := by
  rw [sameBut_iff]
  simp

theorem lcAlarm_sameBut (seconds : Nat) (s : State) : s.SameBut pauseBlocks (s.lcAlarm seconds) :=
  sameBut_trans (takeInhibit_sameBut seconds s) (raise_sameBut _ _) (by simp) (by simp)

theorem lcAlarm_sameReceiver (seconds : Nat) (s : State) : s.line.SameReceiver (s.lcAlarm seconds).line := by
  simp [LineIf.SameReceiver, State.lcAlarm]

/-- The blocks a frame reaches once its entry is refreshed. -/
abbrev frameBlocks : List Block :=
  [.ports, .ana, .receiver .halo, .receiver .hydro, .agent, .line, .conditions, .field, .op]

theorem sameReceiver_trans {l m n : LineIf} (hlm : l.SameReceiver m) (hmn : m.SameReceiver n) : l.SameReceiver n := by
  unfold LineIf.SameReceiver at hlm hmn ⊢
  obtain ⟨h1, h2, h3, h4, h5, h6, h7, h8⟩ := hlm
  rwa [h1, h2, h3, h4, h5, h6, h7, h8] at hmn

theorem handOn_keeps (src : Address) (f : Frame) (n : SetNews) (s : State) :
    s.SameBut frameBlocks (s.handOn src f n) ∧ s.line.SameReceiver (s.handOn src f n).line := by
  have hagent : ∀ {u : State}, Moves s u → s.SameBut frameBlocks u ∧ s.line.SameReceiver u.line := fun h =>
    ⟨sameBut_mono h.sameBut (by simp), h.sameReceiver⟩
  have hsets := moves_tellSets n s
  cases f with
  | beacon b => exact hagent ((moves_abortIf _ _ s).trans (moves_takeView ..))
  | intent u c k => exact hagent (((Move.agent _).moves.trans (moves_tellSets n _)).trans (moves_inhibitAnswer c _))
  | flowOn c v => exact hagent (((moves_abortIf _ _ s).trans (moves_takeView ..)).trans (moves_inhibitAnswer c _))
  | flowOff c => exact hagent hsets
  | purgeStart c v => exact hagent (moves_agentPurgeStart src c n s)
  | purgeDone c v => exact hagent ((moves_abortIf _ _ s).trans (moves_takeView ..))
  | hold h r => exact hagent (((Move.agent _).moves.trans (moves_holdEffect h _)).trans (moves_tellSets n _))
  | pause c =>
    exact ⟨sameBut_trans hsets.sameBut (lcPause_sameBut c _) (by simp) (by simp),
      sameReceiver_trans hsets.sameReceiver (lcPause_sameReceiver c _)⟩
  | resume =>
    exact ⟨sameBut_trans hsets.sameBut (lcResume_sameBut _) (by simp) (by simp),
      sameReceiver_trans hsets.sameReceiver (lcResume_sameReceiver _)⟩
  | alarm k =>
    exact ⟨sameBut_trans hsets.sameBut (lcAlarm_sameBut k _) (by simp) (by simp),
      sameReceiver_trans hsets.sameReceiver (lcAlarm_sameReceiver k _)⟩

/-! ### The entry of the source (R141) -/

theorem heard_peer_self (src : Address) (f : Frame) (s : State) : (s.heard src f).peer src = (s.peer src).take s.clock f :=
  State.peer_setPeer_self ..

theorem take_refreshes (now : Nat) (f : Frame) (x : Peer) :
    (x.take now f).present = true ∧ (x.take now f).lastHeard = now ∧ (x.take now f).stale = false ∧
      (x.take now f).timer = .running 1000 := by
  cases f <;> exact ⟨rfl, rfl, rfl, rfl⟩

/-- Settles O21: the entry of the source, and the blocks that a frame can reach. -/
theorem frameRefreshesItsPeer : Obligations.FrameRefreshesItsPeer := fun i src f s hhears => by
  obtain ⟨hsame, hframer, -⟩ := handOn_keeps src f (s.newsOf src f) (s.heard src f)
  have hpeers := hsame .peers (by simp)
  have hpeer : ∀ a, ((s.heard src f).handOn src f (s.newsOf src f)).peer a = (s.heard src f).peer a := fun a =>
    congrArg (fun v => v[a]) hpeers
  obtain ⟨hpresent, hlast, hstale, htimer⟩ := take_refreshes s.clock f (s.peer src)
  refine ⟨_, exec_of_hears hhears, hframer, fun a ha => (hpeer a).trans (State.peer_setPeer_ne ha _ _), ?_⟩
  rw [hpeer, heard_peer_self]
  refine ⟨hpresent, hlast, hstale, htimer, ?stored, sameBut_trans (heard_sameBut src f s) hsame (by simp) (by simp)⟩
  case stored =>
    cases f with
    | hold _ _ | pause _ | resume | alarm _ => exact ⟨rfl, rfl⟩
    | beacon _ | intent _ _ _ | flowOn _ _ | flowOff _ | purgeStart _ _ | purgeDone _ _ => exact ⟨rfl, rfl, rfl⟩

end Sys2Proof.Machine
end

section
/-! PROOFS. Frames of peers, continued: the frames that are dropped (O22), an INTENT in a listen window (O24), a PURGE_START against
a flow (O25) and a HOLD (O26). -/

namespace Sys2Proof.Machine

/-! ### Which field values R198 defines -/

theorem readClass_isSome (n : Nat) : (readClass n).isSome = true ↔ n = 1 ∨ n = 2 := by
  match n with
  | 0 | 1 | 2 => simp [readClass]
  | n + 3 => simp [readClass]

theorem readPurpose_isSome (n : Nat) : (readPurpose n).isSome = true ↔ n = 1 ∨ n = 2 := by
  match n with
  | 0 | 1 | 2 => simp [readPurpose]
  | n + 3 => simp [readPurpose]

theorem readHoldClass_isSome (n : Nat) : (readHoldClass n).isSome = true ↔ 1 ≤ n ∧ n ≤ 3 := by
  match n with
  | 0 | 1 | 2 | 3 => simp [readHoldClass]
  | n + 4 => simp [readHoldClass]

theorem readHoldReason_isSome (n : Nat) : (readHoldReason n).isSome = true ↔ 1 ≤ n ∧ n ≤ 3 := by
  match n with
  | 0 | 1 | 2 | 3 => simp [readHoldReason]
  | n + 4 => simp [readHoldReason]

theorem readPauseCause_isSome (n : Nat) : (readPauseCause n).isSome = true ↔ 1 ≤ n ∧ n ≤ 3 := by
  match n with
  | 0 | 1 | 2 | 3 => simp [readPauseCause]
  | n + 4 => simp [readPauseCause]

theorem readIntent_isSome (u c k : Byte) :
    (readIntent u c k).isSome = true ↔ (u.toNat = 1 ∨ u.toNat = 2) ∧ (c.toNat = 1 ∨ c.toNat = 2) ∧ k.toNat ≤ 15 := by
  rw [← readPurpose_isSome, ← readClass_isSome]
  unfold readIntent
  cases readPurpose u.toNat <;> cases readClass c.toNat <;> simp

theorem readHold_isSome (c r : Byte) :
    (readHold c r).isSome = true ↔ 1 ≤ c.toNat ∧ c.toNat ≤ 3 ∧ 1 ≤ r.toNat ∧ r.toNat ≤ 3 := by
  rw [← and_assoc, ← readHoldClass_isSome, ← readHoldReason_isSome]
  unfold readHold
  cases readHoldClass c.toNat <;> cases readHoldReason r.toNat <;> simp

theorem readAlarm_isSome (c : Byte) (n : Word16) :
    (readAlarm c n).isSome = true ↔ c.toNat = 2 ∧ 1 ≤ n.toNat ∧ n.toNat ≤ 600 := by
  unfold readAlarm
  split <;> simp_all

/-- The discharge state and the class of a BEACON, against its key. -/
theorem beaconFit_read (x y key : Nat) :
    (∃ d c, readDState x = some d ∧ readClassOrNone y = some c ∧ beaconFit d c key = true) ↔
      x ≤ 7 ∧ (x = 0 → y = 0 ∧ key = 0) ∧ (x ≠ 0 → (y = 1 ∨ y = 2) ∧ key ≤ 15) := by
  match y with
  | 0 | 1 | 2 =>
    match x with
    | 0 | 1 | 2 | 3 | 4 | 5 | 6 | 7 => simp [readDState, readClassOrNone, beaconFit]
    | x + 8 => simp [readDState]
  | y + 3 =>
    simp only [readClassOrNone, reduceCtorEq, false_and, and_false, exists_false, false_iff]
    intro ⟨_, hzero, hpos⟩
    by_cases hx : x = 0
    · exact hzero hx
    · have hy := (hpos hx).1
      omega

theorem readBeacon_isSome (p : BeaconPayload) :
    (readBeacon p).isSome = true ↔
      (∃ d c, readDState p.dstate.toNat = some d ∧ readClassOrNone p.cls.toNat = some c ∧ beaconFit d c p.key.toNat = true) ∧
        p.viewClass.toNat ≤ 2 ∧ p.flags.toNat ≤ 1 ∧ p.inhibit.toNat ≤ 600 ∧ p.summary.toNat ≤ 15 := by
  rw [← readClassOrNone_isSome]
  unfold readBeacon
  cases readDState p.dstate.toNat <;> cases readClassOrNone p.cls.toNat <;> cases readClassOrNone p.viewClass.toNat <;>
    simp [and_assoc]

/-! ### A frame that is dropped (R99, R100) -/

theorem onFrame_of_bad {s : State} (hloaded : s.loaded = true) (src : Address) (act : SetNews → State → State) :
    s.onFrame src none act = s.dropFrame := if_pos hloaded

theorem setLine_sameBut (x : LineIf) (s : State) : s.SameBut [.line] (s.setLine x) := by
  rw [sameBut_iff]
  simp

/-- A frame with an undefined field, or one that FRAME_DROPPED tells of. -/
def badFrame (i : Instr) : Prop :=
  (∃ d, i = .frameDropped d) ∨
    (∃ src p, i = .beacon src p ∧ readBeacon p = none) ∨
    (∃ src u c k, i = .intent src u c k ∧ readIntent u c k = none) ∨
    (∃ src c n, i = .flowOn src c n ∧ readFlowOn c n = none) ∨
    (∃ src c, i = .flowOff src c ∧ readFlowOff c = none) ∨
    (∃ src c n, i = .purgeStart src c n ∧ readPurgeStart c n = none) ∨
    (∃ src c n, i = .purgeDone src c n ∧ readPurgeDone c n = none) ∨
    (∃ src c r, i = .hold src c r ∧ readHold c r = none) ∨
    (∃ src c, i = .pause src c ∧ readPause c = none) ∨
    (∃ src c n, i = .alarm src c n ∧ readAlarm c n = none)

theorem exec_of_bad {i : Instr} {s : State} (hloaded : s.loaded = true) (hbad : badFrame i) :
    exec i s = .next s.dropFrame.finish := by
  have hdrop : ∀ src (act : SetNews → State → State), s.onFrame src none act = s.dropFrame := onFrame_of_bad hloaded
  rcases hbad with ⟨d, rfl⟩ | ⟨src, p, rfl, hread⟩ | ⟨src, u, c, k, rfl, hread⟩ | ⟨src, c, n, rfl, hread⟩ | ⟨src, c, rfl, hread⟩ |
    ⟨src, c, n, rfl, hread⟩ | ⟨src, c, n, rfl, hread⟩ | ⟨src, c, r, rfl, hread⟩ | ⟨src, c, rfl, hread⟩ | ⟨src, c, n, rfl, hread⟩
  · simp only [exec, execFrameDropped, hloaded, if_true]
  · simp only [exec, execBeacon, hread, hdrop]
  · simp only [exec, execIntent, hread, hdrop]
  · simp only [exec, execFlowOn, hread, hdrop]
  · simp only [exec, execFlowOff, hread, hdrop]
  · simp only [exec, execPurgeStart, hread, hdrop]
  · simp only [exec, execPurgeDone, hread, hdrop]
  · simp only [exec, execHold, hread, hdrop]
  · simp only [exec, execPause, hread, hdrop]
  · simp only [exec, execAlarm, hread, hdrop]

/-- Settles O22: what counts as an error, what does not, and the defined values of the ten kinds' fields. -/
theorem badFramesAreDropped : Obligations.BadFramesAreDropped := by
  refine ⟨fun next s hloaded => ?truncated, fun i s hloaded hbad => ?dropped, readIntent_isSome, fun c n => ⟨?_, ?_, ?_, ?_⟩,
    readHold_isSome, fun c => ?_, readAlarm_isSome, fun p => ?beacon⟩
  case truncated =>
    refine ⟨s.setLine (s.line.setFramer (framerAfterGap next)), ?_, setLine_sameBut _ s, rfl⟩
    simp only [exec, execFrameTruncated, hloaded, if_true]
  case dropped => exact ⟨s.dropFrame, exec_of_bad hloaded hbad, setLine_sameBut _ s, rfl⟩
  case beacon => rw [readBeacon_isSome, beaconFit_read]; simp only [and_assoc]
  · rw [← readClass_isSome, readFlowOn, Option.isSome_map]
  · rw [← readClass_isSome, readFlowOff, Option.isSome_map]
  · rw [← readClass_isSome, readPurgeStart, Option.isSome_map]
  · rw [← readClassOrNone_isSome, readPurgeDone, Option.isSome_map]
  · rw [← readPauseCause_isSome, readPause, Option.isSome_map]

/-! ### An INTENT in a listen window (R120, R124) -/

/-- The agent's record of an INTENT heard: contention in LISTEN_FLOW, a lost reservation in LISTEN_PURGE. -/
def Agent.noteIntent (own src : Address) (u : Purpose) (c : GasClass) (key : Nat) (a : Agent) : Agent :=
  match u, a.dstate with
  | .flow, .listenFlow => if beats key src.val a.key own.val = true ∧ a.sought ≠ some c then { a with contended := true } else a
  | .purge, .listenPurge => if beats key src.val a.key own.val then { a with reserved := false } else a
  | _, _ => a

theorem noteIntent_dstate (own src : Address) (u : Purpose) (c : GasClass) (key : Nat) (a : Agent) :
    (a.noteIntent own src u c key).dstate = a.dstate := by
  unfold Agent.noteIntent
  (repeat' split) <;> rfl

theorem inhibitAnswer_eq_self {s : State} (hfree : s.inhibited = false) (c : GasClass) : s.inhibitAnswer c = s :=
  if_neg (by simp [hfree])

theorem agentIntent_of_listens {s : State} (hfree : s.inhibited = false) (src : Address) (u : Purpose) (c : GasClass) (key : Nat)
    (n : SetNews) (hlistens : s.agent.dstate = .listenFlow ∨ s.agent.dstate = .listenPurge) :
    s.agentIntent src u c key n = s.setAgent (s.agent.noteIntent s.cfg.address src u c key) := by
  have hstate := noteIntent_dstate s.cfg.address src u c key s.agent
  have htold : (s.setAgent (s.agent.noteIntent s.cfg.address src u c key)).tellSets n =
      s.setAgent (s.agent.noteIntent s.cfg.address src u c key) := by
    apply tellSets_eq_self <;> rw [State.setAgent_agent, hstate] <;> rcases hlistens with h | h <;> simp [h]
  have hinhibit := inhibitAnswer_eq_self (s := s.setAgent (s.agent.noteIntent s.cfg.address src u c key)) hfree c
  exact ((congrArg (fun t => State.inhibitAnswer c t) htold).trans hinhibit)

theorem noteIntent_eq {a : Agent} (hlistens : a.dstate = .listenFlow ∨ a.dstate = .listenPurge) (own src : Address) (u : Purpose)
    (c : GasClass) (key : Nat) :
    a.noteIntent own src u c key =
      (if a.dstate = .listenFlow ∧ u = .flow ∧ a.sought ≠ some c ∧ beats key src.val a.key own.val = true then
        { a with contended := true }
      else if a.dstate = .listenPurge ∧ u = .purge ∧ beats key src.val a.key own.val = true then { a with reserved := false }
      else a) := by
  unfold Agent.noteIntent
  rcases hlistens with hstate | hstate <;> cases u <;> simp [hstate, and_comm]

/-- Settles O24: the keys decide, and only in the window of the INTENT's own purpose. -/
theorem intentContendsByItsKey : Obligations.IntentContendsByItsKey := fun src pb cb kb v c k s hhears hfree hlistens => by
  have hact : (s.heard src (.intent v c k)).handOn src (.intent v c k) (s.newsOf src (.intent v c k)) =
      (s.heard src (.intent v c k)).setAgent (s.agent.noteIntent s.cfg.address src v c k) :=
    agentIntent_of_listens (s := s.heard src (.intent v c k)) hfree src v c k _ hlistens
  have hexec := exec_of_hears hhears
  rw [hact] at hexec
  exact ⟨_, hexec, sameBut_trans (heard_sameBut src _ s) (setAgent_sameBut _ _) (by simp) (by simp), rfl,
    noteIntent_eq hlistens _ src v c k⟩

/-! ### A HOLD (R115, R118) -/

theorem recordHold_holds (h : HoldClass) (r : HoldReason) (a : Agent) :
    (h ≠ .hydro → ((a.setHold h).recordReason h r).heldH = .running 2000 ∧ ((a.setHold h).recordReason h r).reasonH = some r) ∧
      (h ≠ .halo → ((a.setHold h).recordReason h r).heldK = .running 2000 ∧ ((a.setHold h).recordReason h r).reasonK = some r) ∧
      (h = .hydro → ((a.setHold h).recordReason h r).heldH = a.heldH) ∧
      (h = .halo → ((a.setHold h).recordReason h r).heldK = a.heldK) := by
  cases h <;> simp [Agent.setHold, Agent.recordReason, HoldClass.bars, Config.heldMs]

theorem recordHold_dstate (h : HoldClass) (r : HoldReason) (a : Agent) :
    ((a.setHold h).recordReason h r).dstate = a.dstate ∧ ((a.setHold h).recordReason h r).sought = a.sought ∧
      ((a.setHold h).recordReason h r).purgeSerial = a.purgeSerial := by
  cases h <;> exact ⟨rfl, rfl, rfl⟩

/-- What a hold against the class sought does to the agent, by its state (R118). -/
structure State.Barred (c : GasClass) (s u : State) : Prop where
  flowing : s.agent.dstate = .flowing → u.agent.dstate = .backoff ∧ u.agent.disch c = false ∧ u.agent.sel c = false
  purging : s.agent.dstate = .purging →
    u.agent.dstate = .backoff ∧ u.agent.purgeV = false ∧ u.agent.viewClass = none ∧ u.agent.viewSerial = s.agent.purgeSerial ∧
      u.agent.owner = none
  listens : s.agent.dstate = .listenPurge → u.agent.reserved = false

theorem barred_agentHold {s : State} {c : GasClass} {h : HoldClass} (hsought : s.agent.sought = some c) (hbars : h.bars c = true)
    (r : HoldReason) (n : SetNews) : s.Barred c (s.agentHold h r n) := by
  obtain ⟨hdstate, hkept, hserial⟩ := recordHold_dstate h r s.agent
  obtain ⟨hlistens, hpurging, hflowing⟩ :=
    holdEffect_of_bars (s := s.setAgent ((s.agent.setHold h).recordReason h r)) (hkept.trans hsought) hbars
  have hrests : ∀ {u : State} {d : DState}, u.agent.dstate = d → (d = .backoff ∨ d = .listenPurge) → u.tellSets n = u := by
    intro u d hu hd
    apply tellSets_eq_self <;> rcases hd with rfl | rfl <;> simp [hu]
  refine ⟨fun hstate => ?_, fun hstate => ?_, fun hstate => ?_⟩ <;> unfold State.agentHold
  · rw [hflowing (hdstate.trans hstate), hrests (endFlow_backoff_shut (hkept.trans hsought) false true).1 (.inl rfl)]
    obtain ⟨hback, hshut⟩ := endFlow_backoff_shut
      (s := s.setAgent ((s.agent.setHold h).recordReason h r)) (hkept.trans hsought) false true
    exact ⟨hback, hshut c⟩
  · have hagent := abortPurge_backoff_agent false true (s.setAgent ((s.agent.setHold h).recordReason h r))
    rw [hpurging (hdstate.trans hstate), hrests (congrArg Agent.dstate hagent) (.inl rfl), hagent]
    exact ⟨rfl, rfl, rfl, hserial, rfl⟩
  · rw [hlistens (hdstate.trans hstate), hrests (d := .listenPurge) (hdstate.trans hstate) (.inr rfl)]
    rfl

theorem agentHold_holds (h : HoldClass) (r : HoldReason) (n : SetNews) (s : State) :
    (h ≠ .hydro → (s.agentHold h r n).agent.heldH = .running 2000 ∧ (s.agentHold h r n).agent.reasonH = some r) ∧
      (h ≠ .halo → (s.agentHold h r n).agent.heldK = .running 2000 ∧ (s.agentHold h r n).agent.reasonK = some r) ∧
      (h = .hydro → (s.agentHold h r n).agent.heldH = s.agent.heldH) ∧
      (h = .halo → (s.agentHold h r n).agent.heldK = s.agent.heldK) := by
  obtain ⟨eH, eK, erH, erK⟩ := holdEffect_holds h (s.setAgent ((s.agent.setHold h).recordReason h r))
  obtain ⟨fH, fK, frH, frK⟩ := tellSets_holds n ((s.setAgent ((s.agent.setHold h).recordReason h r)).holdEffect h)
  rw [State.agentHold, fH, fK, frH, frK, eH, eK, erH, erK]
  exact recordHold_holds h r s.agent

/-- Settles O26: the held-until times with their reasons, and the effect on the class sought. -/
theorem holdBarsItsClass : Obligations.HoldBarsItsClass := fun src cb rb h r s hhears => by
  obtain ⟨hH, hK, hkeepH, hkeepK⟩ := agentHold_holds h r (s.newsOf src (.hold h r)) (s.heard src (.hold h r))
  refine ⟨_, exec_of_hears hhears, hH, hK, hkeepH, hkeepK, fun c hsought hbars => ?_⟩
  obtain ⟨hflowing, hpurging, hlistens⟩ :=
    barred_agentHold (s := s.heard src (.hold h r)) hsought hbars r (s.newsOf src (.hold h r))
  exact ⟨hflowing, hpurging, hlistens⟩

end Sys2Proof.Machine
end

section
/-! PROOFS. A PURGE_START heard while FLOWING (O25). -/

namespace Sys2Proof.Machine

/-! ### What the end of a flow puts into the queue (R130) -/

theorem flowEnded_line_sublist {c : GasClass} {s : State} (hroom : s.HasRoom 2) :
    [(⟨.hold .all .conflict, 0⟩ : QueuedFrame), ⟨.flowOff c, 0⟩].Sublist (s.flowEnded true true c).line.queue := by
  let held := (s.setAgent s.agent.shut).offerHoldOnly .all .conflict
  have hheldMem : (⟨.hold .all .conflict, 0⟩ : QueuedFrame) ∈ held.line.queue :=
    mem_offer (s := (s.setAgent s.agent.shut).setAgent ((s.setAgent s.agent.shut).agent.setHold .all))
      ⟨hroom.loaded, hroom.clash, Nat.le_of_succ_le hroom.room⟩ _
  have hlength : held.line.queue.length ≤ s.line.queue.length + 1 := length_offerHoldOnly _ _ (s.setAgent s.agent.shut)
  have hline : (held.receiverFlowEnd c).line = held.line := by simp
  have hheldRoom : (held.receiverFlowEnd c).HasRoom 1 := by
    refine ⟨?_, ?_, ?_⟩
    · have hloaded : (held.receiverFlowEnd c).loaded = s.loaded := by simp [held, State.offerHoldOnly]
      exact hloaded.trans hroom.loaded
    · have hclash : held.line.clash = s.line.clash := by simp [held, State.offerHoldOnly]
      rw [hline, hclash]
      exact hroom.clash
    · have hspace := hroom.room
      rw [hline]
      omega
  have hqueue := offer_queue_append (f := .flowOff c) hheldRoom rfl
  rw [hline] at hqueue
  show List.Sublist _ ((held.receiverFlowEnd c).offer (.flowOff c)).line.queue
  rw [hqueue]
  exact (List.singleton_sublist.mpr hheldMem).append (List.Sublist.refl [(⟨.flowOff c, 0⟩ : QueuedFrame)])

theorem offer_sublist_of_beacon {kept : List QueuedFrame} {s : State} (b : Beacon) (hkept : kept.Sublist s.line.queue)
    (hstands : ∀ x ∈ kept, x.frame.isBeacon = false) : kept.Sublist (s.offer (.beacon b)).line.queue := by
  refine offerEntry_sublist hkept fun x hx => ⟨hstands x hx, ?_⟩
  have hbeacon := hstands x hx
  cases hframe : x.frame with
  | beacon _ => rw [hframe] at hbeacon; cases hbeacon
  | _ => rfl

theorem noticeChange_sublist {kept : List QueuedFrame} {s : State} (before : DState) (hkept : kept.Sublist s.line.queue)
    (hstands : ∀ x ∈ kept, x.frame.isBeacon = false) : kept.Sublist (s.noticeChange before).line.queue := by
  unfold State.noticeChange
  split
  · exact hkept
  · exact offer_sublist_of_beacon _ hkept hstands

/-- The conflict HOLD and, behind it, FLOW_OFF. -/
theorem endFlow_conflict_sublist {c : GasClass} {s : State} (hsought : s.agent.sought = some c) (hroom : s.HasRoom 2) :
    [(⟨.hold .all .conflict, 0⟩ : QueuedFrame), ⟨.flowOff c, 0⟩].Sublist (s.endFlow true true .backoff).line.queue := by
  rw [endFlow_eq hsought]
  exact noticeChange_sublist _ (flowEnded_line_sublist hroom) (by simp [Frame.isBeacon])

theorem exists_append_of_pair_sublist {α : Type} {a b : α} {l : List α} (h : [a, b].Sublist l) :
    ∃ x y z, l = x ++ a :: y ++ b :: z := by
  obtain ⟨l₁, l₂, rfl, ha, hb⟩ := List.cons_sublist_iff.mp h
  obtain ⟨x, y, rfl⟩ := List.append_of_mem ha
  obtain ⟨v, z, rfl⟩ := List.append_of_mem (List.singleton_sublist.mp hb)
  exact ⟨x, y ++ v, z, by simp⟩

/-! ### The answer under inhibit, from BACKOFF (R136) -/

theorem inhibitAnswer_of_backoff {s : State} (hback : s.agent.dstate = .backoff) (c : GasClass) :
    s.inhibitAnswer c = if c = .hydro ∧ s.inhibited = true then s.offerHoldOnly .hydro .inhibit else s := by
  have hstate : (s.offerHoldOnly .hydro .inhibit).agent.dstate = .backoff := by
    simp [State.offerHoldOnly, Agent.setHold, HoldClass.bars, hback]
  unfold State.inhibitAnswer State.offerHold
  rw [holdEffect_eq_self] <;> simp [hstate]

theorem inhibitAnswer_backoff_agent {s : State} (hback : s.agent.dstate = .backoff) (hheld : s.agent.heldK = .running 2000)
    (c : GasClass) : (s.inhibitAnswer c).agent = s.agent := by
  have hagain : s.agent.setHold .hydro = s.agent := by
    simp only [Agent.setHold, HoldClass.bars, Bool.false_eq_true, if_false, if_true, Config.heldMs, ← hheld]
  rw [inhibitAnswer_of_backoff hback]
  split
  · exact (offer_agent _ _).trans hagain
  · rfl

theorem inhibitAnswer_backoff_rcv {s : State} (hback : s.agent.dstate = .backoff) (c d : GasClass) :
    (s.inhibitAnswer c).rcv d = s.rcv d := by
  rw [inhibitAnswer_of_backoff hback]
  split
  · simp [State.offerHoldOnly]
  · rfl

theorem inhibitAnswer_backoff_sublist {s : State} (hback : s.agent.dstate = .backoff) (c : GasClass) {kept : List QueuedFrame}
    (hkept : kept.Sublist s.line.queue)
    (hstands : ∀ x ∈ kept, x.frame.isBeacon = false ∧ replaces (.hold .hydro .inhibit) x.frame = false) :
    kept.Sublist (s.inhibitAnswer c).line.queue := by
  rw [inhibitAnswer_of_backoff hback]
  split
  · exact offerEntry_sublist (s := s.setAgent (s.agent.setHold .hydro)) hkept hstands
  · exact hkept

/-! ### PURGE_START while FLOWING (R131) -/

/-- The view as a PURGE_START of a peer leaves it (R114). -/
def Agent.ownedBy (src : Address) (a : Agent) : Agent := { a with owner := some src, viewClass := none }

theorem agentPurgeStart_of_flowing {s : State} (hstate : s.agent.dstate = .flowing) (src : Address) (c : GasClass) (n : SetNews) :
    s.agentPurgeStart src c n = ((s.setAgent (s.agent.ownedBy src)).endFlow true true .backoff).inhibitAnswer c := by
  have habort : s.abortIf true false = s := if_neg (by simp [hstate])
  have hkeeps : (s.agent.ownedBy src).loseReservation = s.agent.ownedBy src := if_neg (by simp [Agent.ownedBy, hstate])
  unfold State.agentPurgeStart
  dsimp only
  rw [habort, if_pos hstate]
  exact congrArg (fun a => ((s.setAgent a).endFlow true true .backoff).inhibitAnswer c) hkeeps

/-- A flow that a PURGE_START of a peer ended. -/
structure State.FlowEndedByPurge (src : Address) (d : GasClass) (s u : State) : Prop where
  agent : u.agent =
    { ((s.agent.ownedBy src).shut.setHold .all).goTo .backoff with backoff := .running (100 + 10 * s.cfg.address.val) }
  receiver : u.rcv d = (s.rcv d).flowOver (s.cfg.rcvSet d)
  queue : s.HasRoom 2 → [(⟨.hold .all .conflict, 0⟩ : QueuedFrame), ⟨.flowOff d, 0⟩].Sublist u.line.queue

theorem flowEndedByPurge {s : State} {d : GasClass} (hstate : s.agent.dstate = .flowing) (hsought : s.agent.sought = some d)
    (src : Address) (c : GasClass) (n : SetNews) : s.FlowEndedByPurge src d (s.agentPurgeStart src c n) := by
  rw [agentPurgeStart_of_flowing hstate]
  have htsought : (s.setAgent (s.agent.ownedBy src)).agent.sought = some d := hsought
  have hagent := endFlow_backoff_agent htsought true true
  have hback := congrArg Agent.dstate hagent
  refine ⟨(inhibitAnswer_backoff_agent hback (congrArg Agent.heldK hagent) c).trans hagent, ?_, fun hroom => ?_⟩
  · rw [inhibitAnswer_backoff_rcv hback, endFlow_rcv_self htsought]
    cases d <;> rfl
  · exact inhibitAnswer_backoff_sublist hback c (endFlow_conflict_sublist htsought ⟨hroom.loaded, hroom.clash, hroom.room⟩)
      (by simp [Frame.isBeacon, replaces])

/-- Settles O25: the flow ends into BACKOFF, both classes are held, and HOLD goes out before FLOW_OFF. -/
theorem purgeStartEndsAFlow : Obligations.PurgeStartEndsAFlow := fun src cb nb c d serial s hhears hstate hsought => by
  have hended := flowEndedByPurge (s := s.heard src (.purgeStart c serial)) hstate hsought src c
    (s.newsOf src (.purgeStart c serial))
  have hagent := hended.agent
  refine ⟨_, exec_of_hears hhears, congrArg Agent.dstate hagent, congrArg Agent.dischH hagent, congrArg Agent.dischK hagent,
    congrArg Agent.selH hagent, congrArg Agent.selK hagent, congrArg Agent.viewClass hagent, congrArg Agent.owner hagent,
    (congrArg Agent.viewSerial hagent).trans rfl,
    ⟨congrArg Agent.heldH hagent, congrArg Agent.heldK hagent, (congrArg Agent.reasonH hagent).trans rfl,
      (congrArg Agent.reasonK hagent).trans rfl⟩,
    congrArg Agent.backoff hagent, fun hclash hroom => ?queue, fun hdischarging => ?receiver⟩
  case queue =>
    have hspace : s.line.queue.length + 2 ≤ Config.frameRoom := Nat.le_trans (Nat.add_le_add_right (Nat.le_of_lt hroom) 2) (by decide)
    obtain ⟨x, y, z, hqueue⟩ := exists_append_of_pair_sublist (hended.queue ⟨hhears.2.1, hclash, hspace⟩)
    exact ⟨x, _, y, _, z, hqueue, rfl, rfl⟩
  case receiver =>
    obtain ⟨hover, hstall, -⟩ := flowOver_of_discharging (g := s.cfg.rcvSet d) hdischarging
    have hreceiver := hended.receiver
    exact ⟨(congrArg Receiver.state hreceiver).trans hover, (congrArg Receiver.stall hreceiver).trans hstall⟩

end Sys2Proof.Machine
end

section
/-! PROOFS. ALARM and the answer to a HYDRO frame under inhibit (O29). -/

namespace Sys2Proof.Machine

/-! ### A waiting HYDRO port under inhibit (R15, R28) -/

/-- Under inhibit the port is as it was, or waits for the inhibit's end. -/
def State.HeldByInhibit (p : PortId) (x : Port) (s : State) : Prop :=
  s.inhibited = true ∧ (s.port p = x ∨ s.port p = x.toWait .inhibit)

theorem toWait_toWait (q r : WaitReason) (x : Port) : (x.toWait q).toWait r = x.toWait r := by
  have hfrozen : x.dwell.freeze.freeze = x.dwell.freeze := by cases x.dwell <;> rfl
  simp [Port.toWait, Port.closeValves, hfrozen]

section
variable {p : PortId} {x : Port} {r : WaitReason} (hwaits : x.state = .wait r) (hgas : x.gas = some .hydro)
include hwaits hgas

theorem heldByInhibit_portNotice {s : State} (hs : s.HeldByInhibit p x) (c : GasClass) (accepting : Bool) :
    (s.portNotice c accepting p).HeldByInhibit p x := by
  obtain ⟨hinhibit, hport⟩ := hs
  have hportGas : (s.port p).gas = some .hydro := by rcases hport with h | h <;> rw [h] <;> exact hgas
  obtain ⟨q, hstate⟩ : ∃ q, (s.port p).state = .wait q := by
    rcases hport with h | h <;> rw [h]
    · exact ⟨r, hwaits⟩
    · exact ⟨_, rfl⟩
  have hroute : (s.route p).port p = x.toWait .inhibit := by
    rw [route_port hportGas, if_pos ⟨rfl, hinhibit⟩]
    rcases hport with h | h <;> rw [h]
    exact toWait_toWait ..
  refine ⟨by simpa using hinhibit, ?_⟩
  unfold State.portNotice
  split
  · rw [hstate]
    dsimp only
    split
    · unfold State.recheck
      split
      · exact hport
      · exact .inr hroute
    · exact hport
  · exact hport

theorem heldByInhibit_tellPorts {s : State} (hs : s.HeldByInhibit p x) (c : GasClass) : (s.tellPorts c).HeldByInhibit p x := by
  obtain ⟨t, htinhibit, hbefore, hafter⟩ := eachPort_port (keeps := fun t => t.inhibited = true)
    (f := State.portNotice c (s.accepting c)) (fun _ _ ht => by simpa using ht) (portNotice_samePortsBut c _) hs.1 p
  have hnotice := heldByInhibit_portNotice hwaits hgas (s := t) ⟨htinhibit, hbefore ▸ hs.2⟩ c (s.accepting c)
  exact ⟨by simpa using hs.1, hafter ▸ hnotice.2⟩

theorem Move.heldByInhibit {s u : State} (hs : s.HeldByInhibit p x) (h : Move s u) : u.HeldByInhibit p x := by
  cases h with
  | agent a => exact hs
  | offers f entry => exact ⟨by simpa using hs.1, by simpa using hs.2⟩
  | raises e => exact hs
  | receiverTold c r _ => exact heldByInhibit_tellPorts hwaits hgas (s := s.setRcv c r) ⟨by simpa using hs.1, by simpa using hs.2⟩ c

theorem Moves.heldByInhibit {s u : State} (hs : s.HeldByInhibit p x) (h : Moves s u) : u.HeldByInhibit p x :=
  moves_keep (P := fun u => u.HeldByInhibit p x) (fun _ _ ht hmove => hmove.heldByInhibit hwaits hgas ht) hs h

end

/-! ### Under inhibit the agent turns from HYDRO (R119, R136) -/

theorem toBackoff_sought (long : Bool) (s : State) : (s.toBackoff long).agent.sought = s.agent.sought := by
  rw [toBackoff_agent]
  rfl

theorem toListen_sought (u : Purpose) (c : GasClass) (s : State) : (s.toListen u c).agent.sought = some c := by
  rcases toListen_cases u c s with h | h <;> rw [h]
  · rw [listenTold_agent]
    rfl
  · rw [toBackoff_sought, listenTold_agent]
    rfl

theorem ne_hydro_of_eligible {s : State} {c : GasClass} (hinhibit : s.inhibited = true) (heligible : s.eligible c = true) :
    c ≠ .hydro := by
  rintro rfl
  simp [State.eligible, hinhibit] at heligible

theorem idleCheck_sought_of_inhibited {s : State} (hinhibit : s.inhibited = true) (hsought : s.agent.sought ≠ some .hydro) :
    s.idleCheck.agent.sought ≠ some .hydro := by
  unfold State.idleCheck
  split
  · split
    next c hchosen =>
      rw [toListen_sought]
      exact fun h => ne_hydro_of_eligible hinhibit (chosen_eligible hchosen) (Option.some.inj h)
    next => exact hsought
  · exact hsought

theorem toIdle_sought_of_inhibited {s : State} (hinhibit : s.inhibited = true) : s.toIdle.agent.sought ≠ some .hydro := by
  unfold State.toIdle
  refine idleCheck_sought_of_inhibited (by simpa using hinhibit) ?_
  simp

/-- An agent at work that stops under inhibit does not seek HYDRO again. -/
theorem agentStop_sought_of_inhibited {s : State} (hinhibit : s.inhibited = true) (hsought : s.agent.sought ≠ none)
    (hworks : s.agent.dstate ≠ .idle) (frames : Bool) : (s.agentStop frames).agent.sought ≠ some .hydro := by
  obtain ⟨c, hc⟩ := Option.ne_none_iff_exists'.mp hsought
  have hlc : ∀ u : State, s.SameConditions u → u.inhibited = true := fun u h => by
    unfold State.inhibited at hinhibit ⊢
    rw [h.1]
    exact hinhibit
  unfold State.agentStop
  split
  next hidle => exact absurd hidle hworks
  next =>
    rw [endFlow_eq hc]
    exact toIdle_sought_of_inhibited (hlc _ (flowEnded_conditions _ _ c s))
  next => exact toIdle_sought_of_inhibited (hlc _ (purgeAborted_conditions _ _ s))
  all_goals exact toIdle_sought_of_inhibited hinhibit

/-! ### The news of the sets never lead to IDLE -/

theorem toListen_dstate_ne_idle (u : Purpose) (c : GasClass) (s : State) : (s.toListen u c).agent.dstate ≠ .idle := by
  rcases toListen_cases u c s with h | h <;> rw [h]
  · rw [listenTold_agent]
    cases u <;> simp [Agent.listens]
  · simp [toBackoff_dstate]

theorem toDrain_dstate_ne_idle (s : State) : s.toDrain.agent.dstate ≠ .idle := by
  unfold State.toDrain
  split
  · simp [toWaiting_dstate]
  · simp [Agent.goTo]

theorem reevaluate_dstate_ne_idle {s : State} (hworks : s.agent.dstate ≠ .idle) : s.reevaluate.agent.dstate ≠ .idle := by
  unfold State.reevaluate
  (repeat' split)
  next => exact hworks
  next => exact toListen_dstate_ne_idle _ _ _
  next => exact toDrain_dstate_ne_idle s
  next => exact hworks

theorem viewReaction_dstate_ne_idle {s : State} (hworks : s.agent.dstate ≠ .idle) (flowing : List (Address × GasClass)) (told : Bool) :
    (s.viewReaction flowing told).agent.dstate ≠ .idle := by
  unfold State.viewReaction
  split
  next =>
    split
    · exact reevaluate_dstate_ne_idle hworks
    · exact hworks
  next =>
    split
    · simp [toWaiting_dstate]
    · split
      · split
        · exact toListen_dstate_ne_idle _ _ _
        · exact hworks
      · exact hworks
  next =>
    split
    · exact hworks
    · by_cases hsought : s.agent.sought = none
      · rw [endFlow_eq_self hsought]
        exact hworks
      · simp [endFlow_backoff_dstate hsought]
  all_goals exact hworks

theorem tellSets_works {s : State} (hworks : s.agent.sought ≠ none → s.agent.dstate ≠ .idle) (n : SetNews) :
    (s.tellSets n).agent.sought ≠ none → (s.tellSets n).agent.dstate ≠ .idle := by
  by_cases hidle : s.agent.dstate = .idle
  · rwa [tellSets_eq_self_of_idle hidle]
  · rcases tellSets_eq n s with h | h <;> rw [h]
    · exact fun _ => hidle
    · exact fun _ => viewReaction_dstate_ne_idle hidle _ _

/-! ### The inhibit begins (R155, R156) -/

theorem takeInhibit_of_free {s : State} (hfree : s.inhibited = false) (seconds : Nat) :
    s.takeInhibit seconds = (s.inhibitBegins (.running (max s.lc.inhibit.left (seconds * 1000)))).agentInhibit :=
  if_neg (by simp [hfree])

theorem inhibitBegins_frame (t : Timer) (s : State) :
    (s.inhibitBegins t).lc = { s.lc with inhibit := t } ∧ (s.inhibitBegins t).agent = s.agent ∧
      ∀ p, (s.inhibitBegins t).port p = (s.port p).inhibitStart :=
  ⟨by simp [State.inhibitBegins, State.eachPort], by simp [State.inhibitBegins, State.eachPort],
    fun p => eachPort_modPort_port Port.inhibitStart _ p⟩

theorem takeInhibit_lc (seconds : Nat) (s : State) :
    (s.takeInhibit seconds).lc = { s.lc with inhibit := .running (max s.lc.inhibit.left (seconds * 1000)) } := by
  cases hinhibit : s.inhibited
  · rw [takeInhibit_of_free hinhibit]
    simpa using (inhibitBegins_frame (.running (max s.lc.inhibit.left (seconds * 1000))) s).1
  · exact congrArg State.lc (if_pos hinhibit)

theorem inhibitBegins_inhibited (n : Nat) (s : State) : (s.inhibitBegins (.running n)).inhibited = true := by
  rw [State.inhibited, (inhibitBegins_frame _ s).1]
  rfl

theorem takeInhibit_sought {s : State} (hfree : s.inhibited = false) (hworks : s.agent.sought ≠ none → s.agent.dstate ≠ .idle)
    (seconds : Nat) : (s.takeInhibit seconds).agent.sought ≠ some .hydro := by
  obtain ⟨-, hagent, -⟩ := inhibitBegins_frame (.running (max s.lc.inhibit.left (seconds * 1000))) s
  rw [takeInhibit_of_free hfree]
  unfold State.agentInhibit
  rw [hagent]
  split
  next hhydro =>
    have hsome : s.agent.sought ≠ none := by rw [hhydro]; simp
    exact agentStop_sought_of_inhibited (inhibitBegins_inhibited _ s) (hagent ▸ hsome) (hagent ▸ hworks hsome) true
  next hother => rwa [hagent]

/-- The HYDRO ports as an inhibit starts: from EXTRACT to WAIT(INHIBIT), and a port that waits waits on. -/
theorem takeInhibit_hydro_port {s : State} (hfree : s.inhibited = false) (seconds : Nat) {p : PortId}
    (hgas : (s.port p).gas = some .hydro) :
    ((s.port p).state = .extract → (s.takeInhibit seconds).port p = (s.port p).toWait .inhibit) ∧
      ∀ r, (s.port p).state = .wait r →
        (s.takeInhibit seconds).port p = s.port p ∨ (s.takeInhibit seconds).port p = (s.port p).toWait .inhibit := by
  obtain ⟨-, -, hports⟩ := inhibitBegins_frame (.running (max s.lc.inhibit.left (seconds * 1000))) s
  have hmoves := moves_agentInhibit (s.inhibitBegins (.running (max s.lc.inhibit.left (seconds * 1000))))
  have hinhibit := inhibitBegins_inhibited (max s.lc.inhibit.left (seconds * 1000)) s
  rw [takeInhibit_of_free hfree]
  refine ⟨fun hextract => ?_, fun r hwaits => ?_⟩
  · have hstart : (s.port p).inhibitStart = (s.port p).toWait .inhibit := by simp [Port.inhibitStart, hextract, hgas]
    obtain ⟨-, h | h⟩ := Moves.heldByInhibit (p := p) (x := (s.port p).toWait .inhibit) (r := .inhibit) rfl hgas
      ⟨hinhibit, .inl ((hports p).trans hstart)⟩ hmoves
    · exact h
    · exact h.trans (toWait_toWait ..)
  · have hstart : (s.port p).inhibitStart = s.port p := by simp [Port.inhibitStart, hwaits]
    exact (Moves.heldByInhibit (p := p) (x := s.port p) hwaits hgas ⟨hinhibit, .inl ((hports p).trans hstart)⟩ hmoves).2

/-! ### The answer to a HYDRO frame under inhibit (R136) -/

theorem abortPurge_reasonK (conflictHold sendDone : Bool) (n : NextState) (s : State) :
    (s.abortPurge conflictHold sendDone n).agent.reasonK = s.agent.reasonK := by simp

/-- What stands in the queue while a purge or a flow ends by a hold: no HOLD is offered. -/
theorem holdEffect_sublist {kept : List QueuedFrame} {s : State} (h : HoldClass) (hkept : kept.Sublist s.line.queue)
    (hstands : ∀ x ∈ kept, x.frame.isBeacon = false) : kept.Sublist (s.holdEffect h).line.queue := by
  have hplain : ∀ {f : Frame} {t : State}, f.isPlain = true → kept.Sublist t.line.queue → kept.Sublist (t.offer f).line.queue :=
    fun hf ht => offerEntry_sublist ht fun x hx => ⟨hstands x hx, replaces_new_of_plain hf _⟩
  unfold State.holdEffect
  split
  · exact hkept
  next c hsought =>
    split
    · split
      · exact hkept
      · exact noticeChange_sublist _ (hplain rfl hkept) hstands
      · rw [endFlow_eq hsought]
        have hline : ((s.setAgent s.agent.shut).receiverFlowEnd c).line = s.line := by simp
        exact noticeChange_sublist _ (hplain (t := (s.setAgent s.agent.shut).receiverFlowEnd c) rfl (hline ▸ hkept)) hstands
      all_goals exact hkept
    · exact hkept

/-- A HYDRO frame under inhibit is answered. -/
structure State.InhibitAnswered (s u : State) : Prop where
  held : u.agent.heldK = .running 2000
  reason : u.agent.reasonK = s.agent.reasonK
  frame : ∃ q ∈ u.line.queue, q.frame = .hold .hydro .inhibit

theorem inhibitAnswered {s : State} (hinhibit : s.inhibited = true) (hroom : s.HasRoom 1) :
    s.InhibitAnswered (s.inhibitAnswer .hydro) := by
  have hanswer : s.inhibitAnswer .hydro = (s.offerHoldOnly .hydro .inhibit).holdEffect .hydro := if_pos ⟨rfl, hinhibit⟩
  have hoffered := mem_offer (s := s.setAgent (s.agent.setHold .hydro)) ⟨hroom.loaded, hroom.clash, hroom.room⟩ (.hold .hydro .inhibit)
  obtain ⟨-, hheld, -, hreason⟩ := holdEffect_holds .hydro (s.offerHoldOnly .hydro .inhibit)
  rw [hanswer]
  refine ⟨hheld.trans ?_, hreason.trans ?_, ⟨⟨.hold .hydro .inhibit, 0⟩, ?_, rfl⟩⟩
  · exact congrArg Agent.heldK (offer_agent ..)
  · exact (congrArg Agent.reasonK (offer_agent (.hold .hydro .inhibit) _)).trans rfl
  · exact List.singleton_sublist.mp (holdEffect_sublist .hydro (List.singleton_sublist.mpr hoffered) (by simp [Frame.isBeacon]))

/-! ### How many frames come before the answer -/

theorem length_abortPurge_backoff (conflictHold sendDone : Bool) (s : State) :
    (s.abortPurge conflictHold sendDone .backoff).line.queue.length ≤ s.line.queue.length + 3 := by
  have hhold := length_offerHoldOnly .all .conflict (s.setAgent
    { s.agent with purgeV := false, purge := .stopped, viewClass := none, viewSerial := s.agent.purgeSerial, owner := none })
  have hdone := fun t : State => length_offer (.purgeDone none s.agent.purgeSerial) t
  have hback := fun t : State => length_toBackoff false t
  simp only [State.setAgent_line] at hhold
  unfold State.abortPurge State.goNext
  dsimp only
  cases conflictHold <;> cases sendDone <;> simp only [Bool.false_eq_true, if_false, if_true]
  · exact (hback _).trans (Nat.add_le_add_left (by decide) _)
  · exact (hback _).trans (Nat.add_le_add_right ((hdone _).trans (Nat.le_succ _)) _)
  · exact (hback _).trans (Nat.add_le_add_right (hhold.trans (Nat.le_succ _)) _)
  · exact (hback _).trans (Nat.add_le_add_right ((hdone _).trans (Nat.add_le_add_right hhold _)) _)

theorem length_endFlow_backoff (conflictHold : Bool) (s : State) :
    (s.endFlow conflictHold true .backoff).line.queue.length ≤ s.line.queue.length + 3 := by
  cases hsought : s.agent.sought with
  | none => rw [endFlow_eq_self hsought]; exact Nat.le_add_right ..
  | some c =>
    have hhold := length_offerHoldOnly .all .conflict (s.setAgent s.agent.shut)
    simp only [State.setAgent_line] at hhold
    rw [endFlow_eq hsought]
    refine (length_toBackoff false _).trans (Nat.add_le_add_right ((length_offer (.flowOff c) _).trans ?_) 1)
    cases conflictHold <;> simp
    omega

theorem length_viewReaction (flowing : List (Address × GasClass)) (told : Bool) (s : State) :
    (s.viewReaction flowing told).line.queue.length ≤ s.line.queue.length + 3 := by
  unfold State.viewReaction
  split
  next =>
    split
    · exact length_reevaluate s
    · exact Nat.le_add_right ..
  next =>
    split
    · exact (length_toWaiting s).trans (Nat.add_le_add_left (by decide) _)
    · split
      · split
        · exact length_toListen ..
        · exact Nat.le_add_right ..
      · exact Nat.le_add_right ..
  next =>
    split
    · exact Nat.le_add_right ..
    · exact length_endFlow_backoff false s
  all_goals exact Nat.le_add_right ..

theorem length_tellSets (n : SetNews) (s : State) : (s.tellSets n).line.queue.length ≤ s.line.queue.length + 3 := by
  rcases tellSets_eq n s with h | h <;> rw [h]
  · exact Nat.le_add_right ..
  · exact length_viewReaction ..

/-- A state before the answer under inhibit: what the frame did at the agent left room, and the reason shown. -/
structure State.AnswersFrom (s t : State) : Prop where
  moves : Moves s t
  length : t.line.queue.length ≤ s.line.queue.length + 3
  reason : t.agent.reasonK = s.agent.reasonK

/-- A change of the view alone: the agent's state and the reasons shown stay. -/
def Agent.KeepsState (a b : Agent) : Prop := b.dstate = a.dstate ∧ b.reasonK = a.reasonK

theorem answersFrom_takeView {s : State} (c conflictHold : Bool) (n : SetNews) {f : Agent → Agent} (hf : ∀ a : Agent, a.KeepsState (f a)) :
    s.AnswersFrom ((s.abortIf c conflictHold).takeView n (f (s.abortIf c conflictHold).agent)) := by
  have hmoves := (moves_abortIf c conflictHold s).trans (moves_takeView n (f (s.abortIf c conflictHold).agent) _)
  obtain ⟨-, -, -, hreason⟩ := viewReaction_holds n.flowing
    (n.changed || (f (s.abortIf c conflictHold).agent).viewDiffers (s.abortIf c conflictHold).agent)
    ((s.abortIf c conflictHold).setAgent (f (s.abortIf c conflictHold).agent))
  have habort : (s.abortIf c conflictHold).agent.reasonK = s.agent.reasonK := by
    unfold State.abortIf
    split <;> simp
  refine ⟨hmoves, ?_, hreason.trans ((hf _).2.trans habort)⟩
  by_cases haborts : s.agent.dstate = .purging ∧ c = true
  · have hself : s.abortIf c conflictHold = s.abortPurge conflictHold true .backoff := if_pos haborts
    have hback : (f (s.abortIf c conflictHold).agent).dstate = .backoff :=
      (hf _).1.trans (hself ▸ congrArg Agent.dstate (abortPurge_backoff_agent conflictHold true s))
    rw [takeView_eq_setAgent (by simp [hback]) (by simp [hback]) (by simp [hback]), State.setAgent_line, hself]
    exact length_abortPurge_backoff ..
  · have hself : s.abortIf c conflictHold = s := if_neg haborts
    rw [hself]
    exact length_viewReaction _ _ (s.setAgent (f s.agent))

theorem adopt_keepsState (c : Option GasClass) (serial : Byte) (a : Agent) : a.KeepsState (a.adopt c serial).loseReservation := by
  unfold Agent.adopt Agent.loseReservation
  (repeat' split) <;> exact ⟨rfl, rfl⟩

theorem ownedBy_keepsState (src : Address) (a : Agent) : a.KeepsState (a.ownedBy src).loseReservation := by
  unfold Agent.ownedBy Agent.loseReservation
  split <;> exact ⟨rfl, rfl⟩

theorem answersFrom_purgeStart (src : Address) (c : GasClass) (n : SetNews) (s : State) :
    ∃ t, s.AnswersFrom t ∧ s.agentPurgeStart src c n = t.inhibitAnswer c := by
  by_cases hflowing : s.agent.dstate = .flowing
  · refine ⟨_, ⟨(Move.agent _).moves.trans (moves_endFlow true true .backoff _), ?_, ?_⟩, agentPurgeStart_of_flowing hflowing src c n⟩
    · exact length_endFlow_backoff true (s.setAgent (s.agent.ownedBy src))
    · simp [Agent.ownedBy]
  · refine ⟨_, answersFrom_takeView true false n (ownedBy_keepsState src), ?_⟩
    have hother : (s.abortIf true false).agent.dstate ≠ .flowing := by
      unfold State.abortIf
      split
      · rw [congrArg Agent.dstate (abortPurge_backoff_agent false true s)]
        simp [Agent.goTo]
      · exact hflowing
    unfold State.agentPurgeStart
    dsimp only
    rw [if_neg hother]
    rfl

/-- What a HYDRO frame leads to before the agent answers it. -/
theorem answersFrom_handOn {src : Address} {f : Frame}
    (hhydro : (∃ v k, f = .intent v .hydro k) ∨ (∃ n, f = .flowOn .hydro n) ∨ ∃ n, f = .purgeStart .hydro n) (n : SetNews) (s : State) :
    ∃ t, s.AnswersFrom t ∧ s.handOn src f n = t.inhibitAnswer .hydro := by
  rcases hhydro with ⟨v, k, rfl⟩ | ⟨serial, rfl⟩ | ⟨serial, rfl⟩
  · refine ⟨(s.setAgent (s.agent.noteIntent s.cfg.address src v .hydro k)).tellSets n,
      ⟨(Move.agent _).moves.trans (moves_tellSets n _), length_tellSets n (s.setAgent _), ?_⟩, rfl⟩
    obtain ⟨-, -, -, hreason⟩ := tellSets_holds n (s.setAgent (s.agent.noteIntent s.cfg.address src v .hydro k))
    refine hreason.trans ?_
    unfold State.setAgent Agent.noteIntent
    (repeat' split) <;> rfl
  · exact ⟨_, answersFrom_takeView true true n (adopt_keepsState (some .hydro) serial), rfl⟩
  · exact answersFrom_purgeStart src .hydro n s

theorem Moves.loaded {s u : State} (h : Moves s u) : u.loaded = s.loaded := by
  have hloader : u.loader = s.loader := h.sameBut .loader (by simp)
  rw [State.loaded, State.loaded, hloader]

theorem Moves.inhibited {s u : State} (h : Moves s u) : u.inhibited = s.inhibited := by
  have hlc : u.lc = s.lc := h.sameBut .conditions (by simp)
  rw [State.inhibited, State.inhibited, hlc]

/-- A HYDRO port in EXTRACT, after the news of the sets and the start of an inhibit. -/
theorem tellSets_takeInhibit_port {s : State} {n : SetNews} (hfree : (s.tellSets n).inhibited = false) (seconds : Nat) {p : PortId}
    (hextract : (s.port p).state = .extract) (hgas : (s.port p).gas = some .hydro) :
    ∃ r, ((s.tellSets n).takeInhibit seconds).port p = (s.port p).toWait r ∧
      ((s.agent.dstate = .flowing → s.agent.viewClass = s.agent.sought) → r = .inhibit) := by
  have hstays : (s.tellSets n).port p = s.port p →
      ((s.tellSets n).takeInhibit seconds).port p = (s.port p).toWait .inhibit := fun hport => by
    rw [(takeInhibit_hydro_port hfree seconds (hport ▸ hgas)).1 (hport ▸ hextract), hport]
  by_cases hview : s.agent.dstate = .flowing → s.agent.viewClass = s.agent.sought
  · exact ⟨.inhibit, hstays (port_eq_of_sameBut (tellSets_sameBut hview n) (by simp) p), fun _ => rfl⟩
  · rcases tellSets_port_of_extract hextract n with hport | hport
    · exact ⟨.inhibit, hstays hport, fun _ => rfl⟩
    · have hwaits : ((s.port p).toWait .receiver).state = .wait .receiver := rfl
      rcases (takeInhibit_hydro_port hfree seconds (p := p) (by rw [hport]; exact hgas)).2 .receiver (by rw [hport]; exact hwaits)
        with h | h <;> rw [hport] at h
      · exact ⟨.receiver, h, fun hsame => absurd hsame hview⟩
      · exact ⟨.inhibit, h.trans (toWait_toWait ..), fun _ => rfl⟩

/-- Settles O29: the inhibit and the ports it holds, and the HOLD that answers a HYDRO frame. -/
theorem alarmInhibitsHydrocarbon : Obligations.AlarmInhibitsHydrocarbon := by
  refine ⟨fun src cb w n s hhears => ?alarm, fun i src f s hhears hhydro hinhibit hclash hroom => ?answer⟩
  case alarm =>
    have hfields := tellSets_lc_field (s.newsOf src (.alarm n)) (s.heard src (.alarm n))
    have hlc := (takeInhibit_lc n ((s.heard src (.alarm n)).tellSets (s.newsOf src (.alarm n)))).trans
      (congrArg (fun l : LineConditions => { l with inhibit := .running (max l.inhibit.left (n * 1000)) }) hfields.1)
    refine ⟨_, exec_of_hears hhears, congrArg (fun l : LineConditions => l.inhibit.isRunning) hlc, hlc, raise_flag_self _ _,
      fun hfree hworks => ⟨?_, fun p hextract hgas => ?_⟩⟩
    all_goals
      have htold : ((s.heard src (.alarm n)).tellSets (s.newsOf src (.alarm n))).inhibited = false :=
        (congrArg (fun l : LineConditions => l.inhibit.isRunning) hfields.1).trans hfree
    · exact takeInhibit_sought htold (tellSets_works (s := s.heard src (.alarm n)) hworks _) n
    · obtain ⟨r, hport, hview⟩ := tellSets_takeInhibit_port htold n (p := p) hextract hgas
      exact ⟨congrArg Port.valveH hport, congrArg Port.valveK hport, ⟨r, congrArg Port.state hport⟩,
        fun hsame => hview hsame ▸ congrArg Port.state hport⟩
  case answer =>
    obtain ⟨t, ⟨hmoves, hlength, hreason⟩, hact⟩ := answersFrom_handOn (src := src) hhydro (s.newsOf src f) (s.heard src f)
    have hexec := exec_of_hears hhears
    have hspace : t.line.queue.length + 1 ≤ Config.frameRoom := by
      have hqueue : t.line.queue.length ≤ s.line.queue.length + 3 := hlength
      have hframes : Config.frameRoom = 8 := rfl
      omega
    have hanswered := inhibitAnswered (hmoves.inhibited.trans hinhibit)
      ⟨hmoves.loaded.trans hhears.2.1, hmoves.clash.trans hclash, hspace⟩
    rw [hact] at hexec
    exact ⟨_, hexec, hanswered.frame, hanswered.held, hanswered.reason.trans hreason⟩

end Sys2Proof.Machine
end

section
/-! PROOFS. What the loss of a frame does at its block, and address clash (O30). -/

namespace Sys2Proof.Machine

/-! ### The lost notice of a frame (R105) -/

/-- The queued frame is the INTENT of the agent's present listening (R120, R124). -/
def Agent.awaits (q : QueuedFrame) (a : Agent) : Prop :=
  ∃ v c k, q.frame = .intent v c k ∧ q.entry = a.entry ∧ a.dstate = (match v with | .flow => .listenFlow | .purge => .listenPurge)

/-- The queued frame is the PURGE_START of the agent's present purge (R127). -/
def Agent.purgesBy (q : QueuedFrame) (a : Agent) : Prop := ∃ c, q.frame = .purgeStart c a.purgeSerial ∧ a.dstate = .purging

theorem lostNotice_of_awaits {q : QueuedFrame} {s : State} (hawaits : s.agent.awaits q) : s.lostNotice q = s.toBackoff false := by
  obtain ⟨v, c, k, hframe, hentry, hstate⟩ := hawaits
  cases v <;> simp [State.lostNotice, hframe, hentry, hstate]

theorem lostNotice_of_purgesBy {q : QueuedFrame} {s : State} (hpurges : s.agent.purgesBy q) :
    s.lostNotice q = s.abortPurge false true .backoff := by
  obtain ⟨c, hframe, hstate⟩ := hpurges
  simp [State.lostNotice, hframe, hstate]

theorem lostNotice_of_condition {q : QueuedFrame} (hcondition : q.frame.isCondition = true) (s : State) :
    s.lostNotice q = s.lcLost q.frame := by
  cases hframe : q.frame with
  | pause c => simp only [State.lostNotice, hframe]
  | resume => simp only [State.lostNotice, hframe]
  | alarm n => simp only [State.lostNotice, hframe]
  | _ => rw [hframe] at hcondition; cases hcondition

/-- Every other loss changes nothing (R139). -/
theorem lostNotice_eq_self {q : QueuedFrame} {s : State} (hawaits : ¬s.agent.awaits q) (hpurges : ¬s.agent.purgesBy q)
    (hcondition : q.frame.isCondition = false) : s.lostNotice q = s := by
  cases hframe : q.frame with
  | intent v c k =>
    simp only [State.lostNotice, hframe]
    refine if_neg fun h => hawaits ⟨v, c, k, hframe, ?_, ?_⟩
    · exact of_decide_eq_true (Bool.and_eq_true_iff.mp h).2
    · cases v <;> exact of_decide_eq_true (Bool.and_eq_true_iff.mp h).1
  | purgeStart c serial =>
    simp only [State.lostNotice, hframe]
    exact if_neg fun ⟨hstate, hserial⟩ => hpurges ⟨c, hserial ▸ hframe, hstate⟩
  | pause c => rw [hframe] at hcondition; cases hcondition
  | resume => rw [hframe] at hcondition; cases hcondition
  | alarm n => rw [hframe] at hcondition; cases hcondition
  | _ => simp only [State.lostNotice, hframe]

/-! ### The losses of a clash, at the agent (R105, R137) -/

/-- A purge that was aborted: the view UNKNOWN at the purge's serial (R127). -/
def Agent.PurgeOver (serial : Byte) (a : Agent) : Prop :=
  a.purgeV = false ∧ a.viewClass = none ∧ a.viewSerial = serial ∧ a.owner = none

/-- What the lost notices of a clash leave of an agent: it stands as it did, or they sent it to BACKOFF. -/
def Agent.LosesTo (a b : Agent) : Prop :=
  b = a ∨ b.dstate = .backoff ∧ a.dstate ≠ .flowing ∧ (a.dstate = .purging → b.PurgeOver a.purgeSerial)

theorem losesTo_lostNotice {a : Agent} {s : State} (hclash : s.line.clash = true) (hs : a.LosesTo s.agent) (q : QueuedFrame) :
    a.LosesTo (s.lostNotice q).agent := by
  by_cases hawaits : s.agent.awaits q
  · rw [lostNotice_of_awaits hawaits]
    obtain ⟨v, -, -, -, -, hstate⟩ := hawaits
    rcases hs with hs | ⟨hback, -, -⟩
    · rw [hs] at hstate
      exact .inr ⟨toBackoff_dstate false s, by cases v <;> simp [hstate], fun h => by cases v <;> simp [hstate] at h⟩
    · cases v <;> simp [hback] at hstate
  · by_cases hpurges : s.agent.purgesBy q
    · rw [lostNotice_of_purgesBy hpurges, abortPurge_backoff_agent]
      obtain ⟨-, -, hstate⟩ := hpurges
      rcases hs with hs | ⟨hback, -, -⟩
      · rw [hs] at hstate ⊢
        exact .inr ⟨rfl, by simp [hstate], fun _ => ⟨rfl, rfl, rfl, rfl⟩⟩
      · simp [hback] at hstate
    · cases hcondition : q.frame.isCondition
      · rwa [lostNotice_eq_self hawaits hpurges hcondition]
      · rwa [lostNotice_of_condition hcondition, State.lcLost, if_pos hclash]

theorem losesTo_loseQueue {a : Agent} (l : List QueuedFrame) {s : State} (hclash : s.line.clash = true) (hs : a.LosesTo s.agent) :
    a.LosesTo (s.loseQueue l).agent := by
  unfold State.loseQueue
  induction l generalizing s with
  | nil => exact hs
  | cons q rest ih => exact ih ((moves_lostNotice hclash q).clash.trans hclash) (losesTo_lostNotice hclash hs q)

/-! ### The agent stops in address clash (R137) -/

theorem idleCheck_eq_self_of_clash {s : State} (hclash : s.line.clash = true) : s.idleCheck = s :=
  if_neg fun ⟨_, _, hclear, _⟩ => Bool.noConfusion (hclash.symm.trans hclear)

theorem toIdle_agent_of_clash {s : State} (hclash : s.line.clash = true) :
    s.toIdle.agent = { s.agent.goTo .idle with sought := none } := by
  rw [State.toIdle, idleCheck_eq_self_of_clash (by simpa using hclash)]
  simp

/-- What address clash leaves of the agent. -/
structure Agent.StoppedFrom (a b : Agent) : Prop where
  idle : b.dstate = .idle
  flow : a.dstate = .flowing → b.dischH = false ∧ b.dischK = false ∧ b.selH = false ∧ b.selK = false
  purge : a.dstate = .purging → b.PurgeOver a.purgeSerial

theorem stoppedFrom_agentStop {a : Agent} {s : State} (hclash : s.line.clash = true) (hs : a.LosesTo s.agent)
    (hclass : a.dstate = .flowing → a.sought ≠ none) : a.StoppedFrom (s.agentStop false).agent := by
  have hidle : s.agent.dstate ≠ .flowing → s.agent.dstate ≠ .purging → a.StoppedFrom { s.agent.goTo .idle with sought := none } := by
    intro hflowing hpurging
    rcases hs with hs | ⟨-, hno, hover⟩
    · exact ⟨rfl, fun h => absurd (hs ▸ h) hflowing, fun h => absurd (hs ▸ h) hpurging⟩
    · exact ⟨rfl, fun h => absurd h hno, hover⟩
  have hsame : s.agent.dstate ≠ .backoff → s.agent = a := fun h => hs.elim id fun ⟨hback, _⟩ => absurd hback h
  unfold State.agentStop
  split
  next hstate =>
    obtain rfl := hsame (by simp [hstate])
    exact ⟨hstate, fun h => by simp [hstate] at h, fun h => by simp [hstate] at h⟩
  next hstate =>
    obtain rfl := hsame (by simp [hstate])
    obtain ⟨c, hc⟩ := Option.ne_none_iff_exists'.mp (hclass hstate)
    rw [endFlow_eq hc, State.goNext, toIdle_agent_of_clash ((flowEnded_conditions false false c s).2.trans hclash), flowEnded_agent]
    exact ⟨rfl, fun _ => ⟨rfl, rfl, rfl, rfl⟩, fun h => by simp [hstate] at h⟩
  next hstate =>
    obtain rfl := hsame (by simp [hstate])
    rw [abortPurge_eq, State.goNext, toIdle_agent_of_clash ((purgeAborted_conditions false false s).2.trans hclash), purgeAborted_agent]
    exact ⟨rfl, fun h => by simp [hstate] at h, fun _ => ⟨rfl, rfl, rfl, rfl⟩⟩
  all_goals
    next hstate =>
      rw [toIdle_agent_of_clash hclash]
      exact hidle (by simp [hstate]) (by simp [hstate])

/-! ### Address clash (R107) -/

theorem exec_of_own {i : Instr} {s : State} (hloaded : s.loaded = true)
    (hown : i = .clashFrame ∨ ∃ f, frameOf i = some (s.cfg.address, f)) : exec i s = .next s.clash.finish := by
  have hclash : ∀ (f : Frame) (act : SetNews → State → State), s.onFrame s.cfg.address (some f) act = s.clash := fun f act => by
    simp only [State.onFrame, hloaded, if_true]
  rcases hown with rfl | ⟨f, hframe⟩
  · simp only [exec, execClashFrame, hloaded, if_true]
  · cases i <;> simp only [frameOf, Option.map_eq_some_iff, Prod.mk.injEq, reduceCtorEq, Option.some.injEq] at hframe
    case resume src =>
      obtain ⟨rfl, rfl⟩ := hframe
      simp only [exec, execResume, hclash]
    all_goals
      obtain ⟨g, hread, rfl, rfl⟩ := hframe
      simp only [exec, execBeacon, execIntent, execFlowOn, execFlowOff, execPurgeStart, execPurgeDone, execHold, execPause, execAlarm,
        hread, hclash]

theorem clash_of_clash {s : State} (hclash : s.line.clash = true) :
    s.clash = s.setLine { s.line with framer := .hunting, clashT := .running Config.clashMs } := if_pos hclash

theorem clash_of_clear {s : State} (hclear : s.line.clash = false) :
    s.clash = ((s.clashBegins.loseQueue s.line.queue).agentStop false).raise .addressClash := if_neg (by simp [hclear])

/-- Settles O30: the clash, its restart, and what it stops. -/
theorem ownAddressIsAClash : Obligations.OwnAddressIsAClash := fun i s hloaded hown => by
  have hexec := exec_of_own hloaded hown
  refine ⟨fun hclash => ?_, fun hclear hclass => ?_⟩
  · rw [clash_of_clash hclash] at hexec
    exact ⟨_, hexec, setLine_sameBut _ s, rfl⟩
  · have hmoves := moves_of_clashBegins s hclear
    have hline : s.clash.line = s.clashBegins.line := hmoves.line_of_clash rfl
    have hlc : s.clash.lc = s.clashBegins.lc := hmoves.sameBut .conditions (by simp)
    have hlost := losesTo_loseQueue (a := s.agent) s.line.queue (s := s.clashBegins) rfl (.inl rfl)
    have hstopped := stoppedFrom_agentStop ((moves_loseQueue s.line.queue (s := s.clashBegins) rfl).clash) hlost hclass
    have hagent : s.clash.agent = ((s.clashBegins.loseQueue s.line.queue).agentStop false).agent :=
      (congrArg State.agent (clash_of_clear hclear)).trans rfl
    rw [← hagent] at hstopped
    refine ⟨s.clash, hexec, ?_, ?_, ?_, ?_, ?_, hstopped.idle, ?_, ?_, hstopped.flow, hstopped.purge⟩
    case refine_6 => rw [clash_of_clear hclear]; exact raise_flag_self _ _
    case refine_7 => rw [hlc]; rfl
    all_goals rw [hline]; rfl

end Sys2Proof.Machine
end

section
/-! PROOFS. The head frame is sent (O31): the transmitter that rests, the frames owed since a loss, and the INTENT's window. -/

namespace Sys2Proof.Machine

/-! ### A transmitter that rests (R102) -/

/-- No frame is being driven or tried again: DEFER with a frame in the queue, IDLE without. -/
def LineIf.Rests (l : LineIf) : Prop := l.headCount = 0 ∧ l.tx = restTx l.queue

theorem restTx_ne_nil {l : List QueuedFrame} (hne : l ≠ []) : restTx l = .defer := by
  cases l with
  | nil => exact absurd rfl hne
  | cons _ _ => rfl

theorem restTx_eq_ite (l : List QueuedFrame) : restTx l = if l = [] then .idle else .defer := by
  cases l <;> simp [restTx]

theorem waitingPart_of_rests {l : LineIf} (hrests : l.Rests) : l.waitingPart = l.queue ∧ l.sendingPart = [] := by
  have htx : l.tx ≠ .sending := by
    rw [hrests.2]
    cases l.queue <;> simp [restTx]
  exact ⟨if_neg htx, if_neg htx⟩

theorem popHead_rests (rest : List QueuedFrame) (l : LineIf) : (l.popHead rest).Rests := ⟨rfl, rfl⟩

theorem wake_append_rests {q : QueuedFrame} {l : LineIf} (hrests : l.Rests) :
    (({ l with queue := l.queue ++ [q] } : LineIf).wake).Rests := by
  obtain ⟨hcount, htx⟩ := hrests
  unfold LineIf.wake
  split
  next => exact ⟨hcount, (restTx_ne_nil (by simp)).symm⟩
  next hbusy =>
    refine ⟨hcount, ?_⟩
    have hne : l.queue ≠ [] := fun hempty => hbusy ⟨by simp [htx, hempty, restTx], by simp⟩
    exact (htx.trans (restTx_ne_nil hne)).trans (restTx_ne_nil (by simp)).symm

/-- An offer leaves a resting transmitter resting. -/
theorem offer_rests (q : QueuedFrame) {l : LineIf} (hrests : l.Rests) : (l.offer q).1.Rests := by
  obtain ⟨hwaiting, hsending⟩ := waitingPart_of_rests hrests
  obtain ⟨hcount, htx⟩ := hrests
  unfold LineIf.offer
  rw [hwaiting, hsending]
  split
  · exact ⟨hcount, htx⟩
  · split
    next w hw =>
      refine ⟨hcount, ?_⟩
      have hlength := replaceIn_length hw
      have hne : ∀ m : List QueuedFrame, m.length = w.length → restTx m = restTx w := by
        intro m hm
        cases m <;> cases w <;> simp at hm <;> rfl
      exact htx.trans (hne _ hlength.symm)
    next =>
      split
      · exact wake_append_rests ⟨hcount, htx⟩
      next hfull =>
        have hne : l.queue ≠ [] := fun hempty => hfull (by simp [hempty, Config.frameRoom])
        have hdefer : l.tx = .defer := htx.trans (restTx_ne_nil hne)
        split
        next w hw =>
          dsimp only
          split
          · exact ⟨rfl, by simp [LineIf.headDropped, hdefer, restTx_ne_nil]⟩
          · exact ⟨hcount, by simp [hdefer, restTx_ne_nil]⟩
        next => exact ⟨hcount, htx⟩

/-! ### Frames offered again (R154) -/

theorem reofferOf_isCondition {f g : Frame} {s : State} (hagain : s.reofferOf f = some g) : g.isCondition = true := by
  unfold State.reofferOf at hagain
  split at hagain
  case h_4 => cases hagain
  all_goals
    split at hagain <;> simp only [reduceCtorEq, Option.some.injEq] at hagain
    rw [← hagain]
    exact rfl

theorem isPlain_of_isCondition {f : Frame} (hcondition : f.isCondition = true) : f.isPlain = true := by
  cases f with
  | beacon b => cases hcondition
  | hold c r => cases hcondition
  | _ => rfl

theorem reofferOf_of_offeredAgain {f g : Frame} {s : State} (hagain : s.OfferedAgain f g) : s.reofferOf f = some g := by
  rcases hagain with ⟨c, rfl, hpaused, rfl⟩ | ⟨rfl, hrun, rfl⟩ | ⟨n, m, rfl, hinhibit, rfl⟩
  · simp [State.reofferOf, hpaused]
  · simp [State.reofferOf, hrun]
  · simp [State.reofferOf, hinhibit, Timer.isAhead, State.inhibitSeconds, Timer.left, ceilSeconds]

theorem lcLost_of_some {f g : Frame} {s : State} (hclash : s.line.clash = false) (hagain : s.reofferOf f = some g) :
    s.lcLost f = s.lcOffer g := by
  simp only [State.lcLost, hclash, Bool.false_eq_true, if_false, hagain]

theorem lcLost_of_none {f : Frame} {s : State} (hnone : s.reofferOf f = none) : s.lcLost f = s := by
  simp only [State.lcLost, hnone, ite_self]

/-- A lost frame of line conditions is offered again, or is let go. -/
theorem lcLost_cases (f : Frame) (s : State) : s.lcLost f = s ∨ ∃ g, s.reofferOf f = some g ∧ s.lcLost f = s.lcOffer g := by
  cases hclash : s.line.clash
  · cases hagain : s.reofferOf f with
    | none => exact .inl (lcLost_of_none hagain)
    | some g => exact .inr ⟨g, rfl, lcLost_of_some hclash hagain⟩
  · exact .inl (if_pos hclash)

theorem lcOffer_line (f : Frame) (s : State) : (s.lcOffer f).line = (s.offerEntry f 0).1.line := by
  unfold State.lcOffer
  dsimp only
  split <;> rfl

theorem lcOffer_of_room {f : Frame} {s : State} (hroom : s.HasRoom 1) : s.lcOffer f = s.offer f := by
  unfold State.lcOffer
  dsimp only
  split
  next h => exact absurd (h.symm.trans (offerEntry_taken hroom f 0)) (by simp)
  next => rfl
  next => rfl

theorem lcOffer_owed (f : Frame) (s : State) : ∃ more, (s.lcOffer f).lc.owed = s.lc.owed ++ more := by
  unfold State.lcOffer
  dsimp only
  split
  · exact ⟨[f], rfl⟩
  · exact ⟨[], by simp⟩
  · exact ⟨[], by simp⟩

/-- What is to be sent stays so while another frame of line conditions is offered. -/
theorem willSend_lcOffer {f g : Frame} {s : State} (hf : f.isCondition = true) (hg : g.isCondition = true) (h : s.willSend f) :
    (s.lcOffer g).willSend f := by
  rcases h with ⟨q, hq, rfl⟩ | howed
  · refine .inl ⟨q, ?_, rfl⟩
    rw [lcOffer_line]
    refine List.singleton_sublist.mp (offerEntry_sublist (List.singleton_sublist.mpr hq) fun x hx => ?_)
    obtain rfl := List.mem_singleton.mp hx
    exact ⟨isBeacon_of_plain (isPlain_of_isCondition hf), replaces_new_of_plain (isPlain_of_isCondition hg) _⟩
  · obtain ⟨more, hmore⟩ := lcOffer_owed g s
    exact .inr (by rw [hmore]; exact List.mem_append_left _ howed)

/-! ### What line conditions owes is paid (R154) -/

/-- A station whose owed frames are being offered: all but the line and the conditions' debts stand as they did. -/
structure State.Pays (s t : State) : Prop where
  same : s.SameBut [.line, .conditions, .op] t
  conditions : t.lc = { s.lc with owed := t.lc.owed }
  framer : t.line.framer = s.line.framer
  clash : t.line.clash = s.line.clash
  rests : t.line.Rests

theorem State.Pays.loaded {s t : State} (h : s.Pays t) : t.loaded = s.loaded := by
  have hloader : t.loader = s.loader := h.same .loader (by simp)
  rw [State.loaded, State.loaded, hloader]

theorem State.Pays.reofferOf {s t : State} (h : s.Pays t) (f : Frame) : t.reofferOf f = s.reofferOf f := by
  have hlc := h.conditions
  have hpaused : t.lc.paused = s.lc.paused := by rw [hlc]
  have hinhibit : t.lc.inhibit = s.lc.inhibit := by rw [hlc]
  cases f <;> simp only [State.reofferOf, State.inhibitSeconds, hpaused, hinhibit]

theorem pays_lcLost {s t : State} (h : s.Pays t) (f : Frame) : s.Pays (t.lcLost f) := by
  rcases lcLost_cases f t with hself | ⟨g, -, hoffers⟩
  · rwa [hself]
  · rw [hoffers]
    obtain ⟨hsame, hlc, hframer, hclash, hrests⟩ := h
    refine ⟨sameBut_trans hsame (lcOffer_sameBut g t) (by simp) (by simp), ?_, by simpa using hframer, by simpa using hclash, ?_⟩
    · have hoffer := lcOffer_lc g t
      rw [hlc] at hoffer
      exact hoffer
    · rw [lcOffer_line, offerEntry_line]
      split
      · exact offer_rests _ hrests
      · exact hrests

theorem pays_foldl {s t : State} (l : List Frame) (h : s.Pays t) : s.Pays (l.foldl (fun t f => t.lcLost f) t) := by
  induction l generalizing t with
  | nil => exact h
  | cons f rest ih => exact ih (pays_lcLost h f)

theorem willSend_lcLost {f : Frame} {t : State} (g : Frame) (hf : f.isCondition = true) (h : t.willSend f) : (t.lcLost g).willSend f := by
  rcases lcLost_cases g t with hself | ⟨x, hagain, hoffers⟩
  · rwa [hself]
  · rw [hoffers]
    exact willSend_lcOffer hf (reofferOf_isCondition hagain) h

theorem willSend_foldl {f : Frame} {t : State} (l : List Frame) (hf : f.isCondition = true) (h : t.willSend f) :
    (l.foldl (fun t f => t.lcLost f) t).willSend f := by
  induction l generalizing t with
  | nil => exact h
  | cons g rest ih => exact ih (willSend_lcLost g hf h)

/-- Every owed frame whose condition holds is to be sent. -/
theorem willSend_of_owed {s t : State} (hloaded : s.loaded = true) (hclash : s.line.clash = false) (l : List Frame) (h : s.Pays t)
    {f g : Frame} (hf : f ∈ l) (hagain : s.reofferOf f = some g) : (l.foldl (fun t f => t.lcLost f) t).willSend g := by
  induction l generalizing t with
  | nil => cases hf
  | cons x rest ih =>
    rcases List.mem_cons.mp hf with rfl | hrest
    · have hoffers : t.lcLost f = t.lcOffer g := lcLost_of_some (h.clash.trans hclash) ((h.reofferOf f).trans hagain)
      refine willSend_foldl rest (reofferOf_isCondition hagain) ?_
      show (t.lcLost f).willSend g
      rw [hoffers]
      exact lcOffer_willSend g t (h.loaded.trans hloaded) (h.clash.trans hclash)
    · exact ih (pays_lcLost h x) hrest

/-- With room for all, the owed frames follow what the queue keeps, and nothing stays owed. -/
theorem queue_foldl_lcLost {s t : State} (hloaded : s.loaded = true) (hclash : s.line.clash = false) (l : List Frame) (h : s.Pays t)
    (hroom : t.line.queue.length + l.length ≤ Config.frameRoom) :
    (l.foldl (fun t f => t.lcLost f) t).line.queue = t.line.queue ++ (l.filterMap s.reofferOf).map (fun f => ⟨f, 0⟩) ∧
      (l.foldl (fun t f => t.lcLost f) t).lc = t.lc ∧ (l.foldl (fun t f => t.lcLost f) t).op = t.op := by
  induction l generalizing t with
  | nil => exact ⟨by simp, rfl, rfl⟩
  | cons f rest ih =>
    have hpays := pays_lcLost h f
    simp only [List.length_cons] at hroom
    cases hagain : s.reofferOf f with
    | none =>
      have hself : t.lcLost f = t := lcLost_of_none ((h.reofferOf f).trans hagain)
      simp only [List.foldl_cons, hself, List.filterMap_cons, hagain]
      exact ih h (by omega)
    | some g =>
      have hspace : t.HasRoom 1 := ⟨h.loaded.trans hloaded, h.clash.trans hclash, by omega⟩
      have hoffers : t.lcLost f = t.offer g :=
        (lcLost_of_some hspace.clash ((h.reofferOf f).trans hagain)).trans (lcOffer_of_room hspace)
      have hqueue := offer_queue_append hspace (isPlain_of_isCondition (reofferOf_isCondition hagain))
      have hop : (t.offer g).op = t.op ∧ (t.offer g).lc = t.lc := by
        have htaken : (t.line.offer ⟨g, 0⟩).2 = .taken := offer_room _ _ hspace.clash hspace.room
        simp [State.offer, State.offerEntry, hspace.loaded, htaken]
      rw [hoffers] at hpays
      obtain ⟨hrest, hlc, hops⟩ := ih hpays (by rw [hqueue]; simp; omega)
      simp only [List.foldl_cons, hoffers, List.filterMap_cons, hagain]
      exact ⟨hrest.trans (by rw [hqueue]; simp), hlc.trans hop.2, hops.trans hop.1⟩

theorem payOwed_of_nil {s : State} (hnone : s.lc.owed = []) : s.payOwed = s := by
  have hlc : ({ s.lc with owed := [] } : LineConditions) = s.lc := by rw [← hnone]
  unfold State.payOwed
  rw [hnone]
  exact congrArg (fun l => s.setLc l) hlc

/-! ### TRANSMIT_START and FRAME_SENT -/

/-- The window of the agent's present INTENT starts as it is sent (R120, R124). -/
def Agent.headSent (q : QueuedFrame) (a : Agent) : Agent :=
  match q.frame with
  | .intent .flow _ _ => if a.dstate = .listenFlow ∧ q.entry = a.entry then { a with window := .running 40 } else a
  | .intent .purge _ _ => if a.dstate = .listenPurge ∧ q.entry = a.entry then { a with window := .running 40 } else a
  | _ => a

theorem sentNotice_eq (q : QueuedFrame) (s : State) : s.sentNotice q = s.setAgent (s.agent.headSent q) := by
  unfold State.sentNotice Agent.headSent
  cases q.frame with
  | intent v c k =>
    cases v <;> simp only [Bool.and_eq_true, decide_eq_true_eq, Config.windowMs] <;> split <;> rfl
  | _ => rfl

/-- The station once its head frame has left the queue and its block has been told. -/
def State.afterHead (q : QueuedFrame) (rest : List QueuedFrame) (s : State) : State :=
  (s.setLine ((s.line.popHead rest).setFramer .hunting)).setAgent (s.agent.headSent q)

theorem frameSent_of_sending {q : QueuedFrame} {rest : List QueuedFrame} {s : State} (hsending : s.line.tx = .sending)
    (hqueue : s.line.queue = q :: rest) : s.frameSent = (s.afterHead q rest).payOwed := by
  simp only [State.frameSent, hsending, hqueue, sentNotice_eq]
  rfl

theorem afterHead_sameBut (q : QueuedFrame) (rest : List QueuedFrame) (s : State) : s.SameBut [.line, .agent] (s.afterHead q rest) :=
  sameBut_trans (setLine_sameBut _ s) (setAgent_sameBut _ _) (by simp) (by simp)

/-- The debts are taken off the list before they are paid. -/
theorem pays_start {s : State} (hrests : s.line.Rests) : s.Pays (s.setLc { s.lc with owed := [] }) :=
  ⟨sameBut_mono (setLc_sameBut _ s) (by simp), rfl, rfl, rfl, hrests⟩

theorem transmit_sends {l : LineIf} (hqueue : l.queue ≠ []) (htx : l.tx = .defer ∨ l.tx = .retry) :
    l.transmit = { l with tx := .sending } := by
  obtain ⟨q, rest, hcons⟩ := List.exists_cons_of_ne_nil hqueue
  unfold LineIf.transmit
  rw [hcons]
  rcases htx with h | h <;> rw [h]

/-- Settles O31: the transmitter starts, the head frame leaves, and the debts are paid. -/
theorem headFrameIsSent : Obligations.HeadFrameIsSent := by
  refine ⟨fun s hqueue htx => ⟨s.setLine s.line.transmit, rfl, setLine_sameBut _ s, transmit_sends hqueue htx⟩,
    fun q rest s hsending hqueue => ?_⟩
  have hexec : exec .frameSent s = .next ((s.afterHead q rest).payOwed).finish := by
    rw [← frameSent_of_sending hsending hqueue]
    rfl
  have hrests : (s.afterHead q rest).line.Rests := ⟨rfl, rfl⟩
  have hstart := pays_start hrests
  have hpays := pays_foldl (s.afterHead q rest).lc.owed hstart
  refine ⟨_, hexec, sameBut_trans (afterHead_sameBut q rest s) hpays.same (by simp) (by simp), hpays.framer, hpays.rests.1,
    hpays.rests.2.trans (restTx_eq_ite _), hpays.same .agent (by simp), fun hnone => ?nothing, fun hloaded hclash => ?paid⟩
  case nothing =>
    rw [payOwed_of_nil (s := s.afterHead q rest) hnone]
    refine ⟨afterHead_sameBut q rest s, ?_⟩
    rw [← restTx_eq_ite]
    rfl
  case paid =>
    refine ⟨hpays.conditions, fun f hf g hagain => ?_, fun hroom => ?_⟩
    · exact willSend_of_owed (s := s.afterHead q rest) hloaded hclash _ hstart hf (reofferOf_of_offeredAgain hagain)
    · obtain ⟨hall, hlc, hop⟩ := queue_foldl_lcLost (s := s.afterHead q rest) hloaded hclash (s.afterHead q rest).lc.owed hstart hroom
      exact ⟨congrArg LineConditions.owed hlc, hop, hall⟩

end Sys2Proof.Machine
end

section
/-! PROOFS. A collision (O32): the remainder that is heard, the retry, and the drop at the eighth in a row. -/

namespace Sys2Proof.Machine

/-! ### What settling a loss leaves alone -/

/-- The receive side, the collision count and an event that stands are kept. -/
structure State.KeepsHearing (s t : State) : Prop where
  framer : t.line.framer = s.line.framer
  errors : t.line.rxErrors = s.line.rxErrors
  collisions : t.line.collisions = s.line.collisions
  flag : s.op.flag .lineTxLoss = true → t.op.flag .lineTxLoss = true

theorem keepsHearing_refl (s : State) : s.KeepsHearing s := ⟨rfl, rfl, rfl, id⟩

theorem State.KeepsHearing.trans {s t u : State} (hst : s.KeepsHearing t) (htu : t.KeepsHearing u) : s.KeepsHearing u :=
  ⟨htu.framer.trans hst.framer, htu.errors.trans hst.errors, htu.collisions.trans hst.collisions, htu.flag ∘ hst.flag⟩

theorem keepsHearing_lcLost (f : Frame) (s : State) : s.KeepsHearing (s.lcLost f) ∧ (s.lcLost f).agent = s.agent := by
  rcases lcLost_cases f s with h | ⟨g, -, h⟩ <;> rw [h]
  · exact ⟨keepsHearing_refl s, rfl⟩
  · exact ⟨⟨by simp, by simp, by simp, fun hflag => by simp [hflag]⟩, by simp⟩

theorem keepsHearing_payOwed (s : State) : s.KeepsHearing s.payOwed ∧ s.payOwed.agent = s.agent := by
  have hfold : ∀ (l : List Frame) (t : State), s.KeepsHearing t ∧ t.agent = s.agent →
      s.KeepsHearing (l.foldl (fun t f => t.lcLost f) t) ∧ (l.foldl (fun t f => t.lcLost f) t).agent = s.agent := by
    intro l
    induction l with
    | nil => exact fun _ h => h
    | cons f rest ih =>
      intro t ⟨hkeeps, hagent⟩
      obtain ⟨hlost, hsame⟩ := keepsHearing_lcLost f t
      exact ih _ ⟨hkeeps.trans hlost, hsame.trans hagent⟩
  exact hfold s.lc.owed (s.setLc { s.lc with owed := [] }) ⟨⟨rfl, rfl, rfl, id⟩, rfl⟩

theorem keepsHearing_lostNotice (q : QueuedFrame) (s : State) : s.KeepsHearing (s.lostNotice q) := by
  have hmoves : ∀ u : State, Moves s u → (s.op.flag .lineTxLoss = true → u.op.flag .lineTxLoss = true) → s.KeepsHearing u := by
    intro u h hflag
    obtain ⟨hframer, herrors, hcollisions, -⟩ := h.sameReceiver
    exact ⟨hframer, herrors, hcollisions, hflag⟩
  by_cases hawaits : s.agent.awaits q
  · rw [lostNotice_of_awaits hawaits]
    exact hmoves _ (moves_toBackoff false s) fun h => by simp [h]
  · by_cases hpurges : s.agent.purgesBy q
    · rw [lostNotice_of_purgesBy hpurges]
      exact hmoves _ (moves_abortPurge _ _ _ s) fun h => by simp [h]
    · cases hcondition : q.frame.isCondition
      · rw [lostNotice_eq_self hawaits hpurges hcondition]
        exact keepsHearing_refl s
      · rw [lostNotice_of_condition hcondition]
        exact (keepsHearing_lcLost _ s).1

/-! ### The retry and the drop (R103) -/

/-- The station as the collided frame is dropped, its block not told yet. -/
def State.headLost (rest : List QueuedFrame) (s : State) : State :=
  (s.setLine (({ s.line with
    collisions := min 65535 (s.line.collisions + 1), headCount := s.line.headCount + 1 } : LineIf).popHead rest)).raise .lineTxLoss

theorem retryOrDrop_of_few {q : QueuedFrame} {rest : List QueuedFrame} {s : State} (hqueue : s.line.queue = q :: rest)
    (hfew : s.line.headCount + 1 < 8) :
    s.retryOrDrop = s.setLine { s.line with
      collisions := min 65535 (s.line.collisions + 1), headCount := s.line.headCount + 1, tx := .retry } := by
  unfold State.retryOrDrop
  rw [hqueue]
  exact if_pos hfew

theorem retryOrDrop_of_eighth {q : QueuedFrame} {rest : List QueuedFrame} {s : State} (hqueue : s.line.queue = q :: rest)
    (heighth : 8 ≤ s.line.headCount + 1) : s.retryOrDrop = ((s.headLost rest).lostNotice q).payOwed := by
  unfold State.retryOrDrop
  rw [hqueue]
  exact if_neg (Nat.not_lt.mpr heighth)

/-! ### The station after a collision -/

/-- What a collision with the frame `q` leaves before the retry or the drop. -/
structure State.Collided (q : QueuedFrame) (rest : List QueuedFrame) (s t : State) : Prop where
  same : s.SameBut [.line, .free] t
  line : t.line = { s.line with framer := t.line.framer, rxErrors := t.line.rxErrors }
  queue : t.line.queue = q :: rest
  remainder : s.line.KeepsRemainder (q.frame.bytes s.cfg.address) t.line

theorem collided_hearRemainder {q : QueuedFrame} {rest : List QueuedFrame} {s : State} (hsending : s.line.tx = .sending)
    (hqueue : s.line.queue = q :: rest) : s.Collided q rest s.hearRemainder := by
  obtain ⟨hsame, hline, hremainder⟩ := hearRemainder_spec s q rest hsending hqueue
  exact ⟨hsame, hline, (congrArg LineIf.queue hline).trans hqueue, hremainder⟩

theorem keepsRemainder_congr {driven : List Byte} {l m n : LineIf} (h : l.KeepsRemainder driven m) (hframer : n.framer = m.framer)
    (herrors : n.rxErrors = m.rxErrors) : l.KeepsRemainder driven n := by
  obtain ⟨k, odd, hk, hodd, hcase⟩ := h
  refine ⟨k, odd, hk, hodd, ?_⟩
  rw [hframer, herrors]
  exact hcase

theorem headLost_sameBut (rest : List QueuedFrame) (s : State) : s.SameBut [.line, .op] (s.headLost rest) :=
  sameBut_trans (setLine_sameBut _ s) (raise_sameBut _ _) (by simp) (by simp)

/-- The station that has lost the collided frame, told of what it was before the collision. -/
structure State.Dropped (q : QueuedFrame) (rest : List QueuedFrame) (s d : State) : Prop where
  same : s.SameBut [.line, .op, .free] d
  flag : d.op.flag .lineTxLoss = true
  remainder : s.line.KeepsRemainder (q.frame.bytes s.cfg.address) d.line
  collisions : d.line.collisions = min 65535 (s.line.collisions + 1)
  queue : d.line.queue = rest
  count : d.line.headCount = 0
  tx : d.line.tx = restTx rest
  clash : d.line.clash = s.line.clash

theorem dropped_headLost {q : QueuedFrame} {rest : List QueuedFrame} {s t : State} (h : s.Collided q rest t) :
    s.Dropped q rest (t.headLost rest) := by
  obtain ⟨hsame, hline, -, hremainder⟩ := h
  refine ⟨sameBut_trans hsame (headLost_sameBut rest t) (by simp) (by simp), raise_flag_self _ _,
    keepsRemainder_congr hremainder rfl rfl, ?_, rfl, rfl, rfl, ?_⟩
  · have hcollisions : t.line.collisions = s.line.collisions := by rw [hline]
    rw [← hcollisions]
    rfl
  · have hclash : t.line.clash = s.line.clash := by rw [hline]
    rw [← hclash]
    rfl

section
variable {q : QueuedFrame} {rest : List QueuedFrame} {s d : State} (hdropped : s.Dropped q rest d)
include hdropped

theorem State.Dropped.agent : d.agent = s.agent := hdropped.same .agent (by simp)

theorem State.Dropped.owed (howed : s.lc.owed = []) : d.lc.owed = [] := by
  have hlc : d.lc = s.lc := hdropped.same .conditions (by simp)
  rw [hlc, howed]

theorem State.Dropped.room (hloaded : s.loaded = true) (hclash : s.line.clash = false) (hroom : rest.length < 8) : d.HasRoom 1 := by
  have hloader : d.loader = s.loader := hdropped.same .loader (by simp)
  refine ⟨?_, hdropped.clash.trans hclash, ?_⟩
  · rw [State.loaded, hloader]
    exact hloaded
  · rw [hdropped.queue]
    exact hroom

theorem State.Dropped.reofferOf (f : Frame) : d.reofferOf f = s.reofferOf f := by
  have hlc : d.lc = s.lc := hdropped.same .conditions (by simp)
  cases f <;> simp only [State.reofferOf, State.inhibitSeconds, hlc]

/-- A loss that is settled by the lost notice alone. -/
theorem State.Dropped.settled (howed : s.lc.owed = []) (hlc : (d.lostNotice q).lc = d.lc) : (d.lostNotice q).payOwed = d.lostNotice q :=
  payOwed_of_nil (by rw [hlc]; exact hdropped.owed howed)

end

/-! ### The BEACON of a changed state, behind a dropped INTENT -/

/-- The queue without its BEACONs. -/
def otherFrames (l : List QueuedFrame) : List QueuedFrame := l.filter fun x => !x.frame.isBeacon

theorem isBeacon_of_replaces_beacon {b : Beacon} {old : Frame} (h : replaces (.beacon b) old = true) : old.isBeacon = true := by
  cases old with
  | beacon _ => rfl
  | _ => cases h

theorem otherFrames_replaceIn {b : Beacon} {entry : Nat} {l w : List QueuedFrame} (hw : replaceIn ⟨.beacon b, entry⟩ l = some w) :
    otherFrames w = otherFrames l := by
  induction l generalizing w with
  | nil => cases hw
  | cons x rest ih =>
    simp only [replaceIn] at hw
    split at hw
    next hreplaces =>
      obtain rfl := Option.some.inj hw
      have hold : x.frame.isBeacon = true := isBeacon_of_replaces_beacon hreplaces
      have hnew : (Frame.beacon b).isBeacon = true := rfl
      simp [otherFrames, hold, hnew]
    next =>
      obtain ⟨v, hv, rfl⟩ := Option.map_eq_some_iff.mp hw
      have hrest := ih hv
      unfold otherFrames at hrest ⊢
      rw [List.filter_cons, List.filter_cons, hrest]

theorem otherFrames_offer_beacon {b : Beacon} {s : State} (hroom : s.HasRoom 1) :
    otherFrames (s.offer (.beacon b)).line.queue = otherFrames s.line.queue := by
  have hparts := sendingPart_append_waitingPart s.line
  unfold State.offer
  rw [offerEntry_line, if_pos hroom.loaded]
  unfold LineIf.offer
  rw [if_neg (by simp [hroom.clash])]
  split
  next w hw =>
    have hwaiting := otherFrames_replaceIn hw
    rw [← hparts]
    unfold otherFrames at hwaiting ⊢
    rw [List.filter_append, List.filter_append, hwaiting]
  next =>
    have hspace : s.line.queue.length < Config.frameRoom := hroom.room
    rw [if_pos hspace]
    simp [otherFrames, Frame.isBeacon]

theorem noticeChange_of_ne {s : State} {before : DState} (hchanged : s.agent.dstate ≠ before) : s.noticeChange before = s.offerBeacon :=
  if_neg hchanged

/-- The agent that turns to BACKOFF tells it in a BEACON, and disturbs no other frame. -/
theorem toBackoff_queue {s : State} (hroom : s.HasRoom 1) (hstate : s.agent.dstate ≠ .backoff) :
    otherFrames (s.toBackoff false).line.queue = otherFrames s.line.queue ∧
      ∃ x ∈ (s.toBackoff false).line.queue, x.frame.isBeacon = true := by
  let t := s.setAgent { s.agent.goTo .backoff with backoff := .running (100 + 10 * s.cfg.address.val) }
  have htroom : t.HasRoom 1 := ⟨hroom.loaded, hroom.clash, hroom.room⟩
  have hback : s.toBackoff false = t.offerBeacon := noticeChange_of_ne (s := t) (Ne.symm hstate)
  rw [hback]
  exact ⟨otherFrames_offer_beacon htroom, _, mem_offer htroom _, rfl⟩

/-- The abort of a purge is told by PURGE_DONE(UNKNOWN). -/
theorem mem_abortPurge_done {s : State} (hroom : s.HasRoom 1) :
    (⟨.purgeDone none s.agent.purgeSerial, 0⟩ : QueuedFrame) ∈ (s.abortPurge false true .backoff).line.queue := by
  rw [abortPurge_eq]
  exact (moves_goNext .backoff (s.purgeAborted false true)).mem_queue
    (mem_offer (s := s.setAgent { s.agent with
      purgeV := false, purge := .stopped, viewClass := none, viewSerial := s.agent.purgeSerial, owner := none })
      ⟨hroom.loaded, hroom.clash, hroom.room⟩ _) rfl

/-! ### The dropped frame, by its kind (R105, R139) -/

section
variable {q : QueuedFrame} {rest : List QueuedFrame} {s d : State} (hdropped : s.Dropped q rest d) (howed : s.lc.owed = [])
include hdropped howed

/-- The loss is told to nobody, or nobody minds. -/
theorem State.Dropped.unminded (hself : d.lostNotice q = d) :
    (d.lostNotice q).payOwed.line.queue = rest ∧ (d.lostNotice q).payOwed.line.headCount = 0 ∧
      (d.lostNotice q).payOwed.line.tx = (if rest = [] then .idle else .defer) ∧
      s.SameBut [.line, .op, .free] (d.lostNotice q).payOwed := by
  rw [hself, payOwed_of_nil (hdropped.owed howed)]
  exact ⟨hdropped.queue, hdropped.count, hdropped.tx.trans (restTx_eq_ite rest), hdropped.same⟩

theorem State.Dropped.intent (hawaits : s.agent.awaits q) (hroom : d.HasRoom 1) :
    s.SameBut [.agent, .line, .op, .free] (d.lostNotice q).payOwed ∧ (d.lostNotice q).payOwed.agent.dstate = .backoff ∧
      (d.lostNotice q).payOwed.agent.backoff = .running (100 + 10 * s.cfg.address.val) ∧
      otherFrames (d.lostNotice q).payOwed.line.queue = otherFrames rest ∧
      ∃ x ∈ (d.lostNotice q).payOwed.line.queue, x.frame.isBeacon = true := by
  have hnotice : d.lostNotice q = d.toBackoff false := lostNotice_of_awaits (hdropped.agent ▸ hawaits)
  have hsettled := hdropped.settled howed (by rw [hnotice]; exact toBackoff_sameBut false d .conditions (by simp))
  have hagent := toBackoff_agent false d
  have hcfg : d.cfg = s.cfg := by
    have hloader : d.loader = s.loader := hdropped.same .loader (by simp)
    rw [State.cfg, hloader]
    rfl
  have hstate : d.agent.dstate ≠ .backoff := by
    obtain ⟨v, -, -, -, -, hstate⟩ := hawaits
    rw [hdropped.agent, hstate]
    cases v <;> simp
  obtain ⟨hothers, hbeacon⟩ := toBackoff_queue hroom hstate
  rw [hsettled, hnotice]
  refine ⟨sameBut_trans hdropped.same (toBackoff_sameBut false d) (by simp) (by simp), congrArg Agent.dstate hagent, ?_,
    hdropped.queue ▸ hothers, hbeacon⟩
  rw [hagent, hcfg]
  exact rfl

theorem State.Dropped.purgeStart (hpurges : s.agent.purgesBy q) (hroom : d.HasRoom 1) :
    s.SameBut [.agent, .line, .op, .free] (d.lostNotice q).payOwed ∧ (d.lostNotice q).payOwed.agent.dstate = .backoff ∧
      (d.lostNotice q).payOwed.agent.PurgeOver s.agent.purgeSerial ∧
      ∃ x ∈ (d.lostNotice q).payOwed.line.queue, x.frame = .purgeDone none s.agent.purgeSerial := by
  have hnotice : d.lostNotice q = d.abortPurge false true .backoff := lostNotice_of_purgesBy (hdropped.agent ▸ hpurges)
  have hsettled := hdropped.settled howed (by rw [hnotice]; exact abortPurge_sameBut false true .backoff d .conditions (by simp))
  have hagent := abortPurge_backoff_agent false true d
  rw [hsettled, hnotice]
  refine ⟨sameBut_trans hdropped.same (abortPurge_sameBut false true .backoff d) (by simp) (by simp), congrArg Agent.dstate hagent,
    ?_, _, mem_abortPurge_done hroom, by rw [hdropped.agent]⟩
  rw [hagent, hdropped.agent]
  exact ⟨rfl, rfl, rfl, rfl⟩

theorem State.Dropped.condition {g : Frame} (hcondition : q.frame.isCondition = true) (hagain : s.reofferOf q.frame = some g)
    (hroom : d.HasRoom 1) :
    s.SameBut [.line, .op, .free] (d.lostNotice q).payOwed ∧ (d.lostNotice q).payOwed.line.queue = rest ++ [⟨g, 0⟩] ∧
      (d.lostNotice q).payOwed.line.headCount = 0 ∧ (d.lostNotice q).payOwed.line.tx = .defer := by
  have hnotice : d.lostNotice q = d.offer g := by
    rw [lostNotice_of_condition hcondition, lcLost_of_some hroom.clash ((hdropped.reofferOf _).trans hagain), lcOffer_of_room hroom]
  have hsame : d.SameBut [.line, .op] (d.offer g) := offer_sameBut g d
  have hsettled := hdropped.settled howed (by rw [hnotice]; exact hsame .conditions (by simp))
  have hqueue := offer_queue_append hroom (isPlain_of_isCondition (reofferOf_isCondition hagain))
  have hrests : (d.offer g).line.Rests := by
    unfold State.offer
    rw [offerEntry_line, if_pos hroom.loaded]
    exact offer_rests _ ⟨hdropped.count, hdropped.tx.trans (congrArg restTx hdropped.queue).symm⟩
  rw [hsettled, hnotice]
  refine ⟨sameBut_trans hdropped.same hsame (by simp) (by simp), hqueue.trans (by rw [hdropped.queue]), hrests.1, ?_⟩
  exact hrests.2.trans (restTx_ne_nil (by rw [hqueue]; simp))

end

/-- The lost notice passes over a frame that is nobody's any more. -/
theorem lostNotice_of_not_present {q : QueuedFrame} {s : State}
    (hother : (∃ c r, q.frame = .hold c r) ∨
      (∃ v c k, q.frame = .intent v c k ∧ (q.entry ≠ s.agent.entry ∨
        s.agent.dstate ≠ (match v with | .flow => .listenFlow | .purge => .listenPurge))) ∨
      (∃ c n, q.frame = .purgeStart c n ∧ (s.agent.dstate ≠ .purging ∨ n ≠ s.agent.purgeSerial)) ∨
      s.line.clash = false ∧
        ((∃ c, q.frame = .pause c ∧ s.lc.paused = false) ∨ q.frame = .resume ∧ s.lc.paused = true ∨
          ∃ n, q.frame = .alarm n ∧ ∀ m, s.lc.inhibit ≠ .running (m + 1))) : s.lostNotice q = s := by
  have hcondition : q.frame.isCondition = true → s.reofferOf q.frame = none → s.lostNotice q = s := fun hq hnone =>
    (lostNotice_of_condition hq s).trans (lcLost_of_none hnone)
  rcases hother with ⟨c, r, hframe⟩ | ⟨v, c, k, hframe, hold⟩ | ⟨c, n, hframe, hold⟩ |
    ⟨-, ⟨c, hframe, hrun⟩ | ⟨hframe, hpaused⟩ | ⟨n, hframe, hfree⟩⟩
  · exact lostNotice_eq_self (by simp [Agent.awaits, hframe]) (by simp [Agent.purgesBy, hframe]) (by rw [hframe]; rfl)
  · refine lostNotice_eq_self (fun ⟨v', c', k', hframe', hentry, hstate⟩ => ?_) (by simp [Agent.purgesBy, hframe]) (by rw [hframe]; rfl)
    obtain ⟨rfl, -, -⟩ := Frame.intent.inj (hframe.symm.trans hframe')
    exact hold.elim (· hentry) (· hstate)
  · refine lostNotice_eq_self (by simp [Agent.awaits, hframe]) (fun ⟨c', hframe', hstate⟩ => ?_) (by rw [hframe]; rfl)
    obtain ⟨-, rfl⟩ := Frame.purgeStart.inj (hframe.symm.trans hframe')
    exact hold.elim (· hstate) (· rfl)
  · exact hcondition (by rw [hframe]; rfl) (by simp [State.reofferOf, hframe, hrun])
  · exact hcondition (by rw [hframe]; rfl) (by simp [State.reofferOf, hframe, hpaused])
  · refine hcondition (by rw [hframe]; rfl) ?_
    have hahead : s.lc.inhibit.isAhead = false := by
      cases hinhibit : s.lc.inhibit with
      | running m =>
        cases m with
        | zero => rfl
        | succ m => exact absurd hinhibit (hfree m)
      | _ => rfl
    simp [State.reofferOf, hframe, hahead]

theorem lostNotice_of_unawaited {q : QueuedFrame} (hframe : q.frame.isBeacon = true ∨
    q.frame.isDischarge = true ∧ (∀ v c k, q.frame ≠ .intent v c k) ∧ ∀ c n, q.frame ≠ .purgeStart c n) (s : State) :
    s.lostNotice q = s := by
  refine lostNotice_eq_self (fun ⟨v, c, k, h, _⟩ => ?_) (fun ⟨c, h, _⟩ => ?_) ?_
  · rcases hframe with hbeacon | ⟨-, hintent, -⟩
    · simp [h, Frame.isBeacon] at hbeacon
    · exact hintent v c k h
  · rcases hframe with hbeacon | ⟨-, -, hpurge⟩
    · simp [h, Frame.isBeacon] at hbeacon
    · exact hpurge c _ h
  · rcases hframe with hbeacon | ⟨hdischarge, -, -⟩
    · exact not_isCondition_of_isBeacon hbeacon
    · cases hq : q.frame <;> simp_all [Frame.isDischarge, Frame.isCondition]

theorem exec_collision {q : QueuedFrame} {rest : List QueuedFrame} {s : State} (hsending : s.line.tx = .sending)
    (hqueue : s.line.queue = q :: rest) : exec .collision s = .next s.hearRemainder.retryOrDrop.finish := by
  rw [← collide_sending s q rest hsending hqueue]
  rfl

/-- Settles O32: the retry, and the drop with what each block makes of it. -/
theorem collisionRetriesThenDrops : Obligations.CollisionRetriesThenDrops := fun q rest s hsending hqueue => by
  have hexec := exec_collision hsending hqueue
  have hcollided := collided_hearRemainder hsending hqueue
  have hline := hcollided.line
  have hcount : s.hearRemainder.line.headCount = s.line.headCount := by rw [hline]
  refine ⟨fun hfew => ?retry, fun heighth howed => ?drop⟩
  case retry =>
    rw [retryOrDrop_of_few hcollided.queue (hcount ▸ hfew)] at hexec
    refine ⟨_, hexec, sameBut_trans hcollided.same (setLine_sameBut _ _) (by simp) (by simp),
      keepsRemainder_congr hcollided.remainder rfl rfl, ?_⟩
    simp only [State.setLine_line]
    rw [hline]
  case drop =>
    rw [retryOrDrop_of_eighth hcollided.queue (hcount ▸ heighth)] at hexec
    have hdropped := dropped_headLost hcollided
    have hagent := hdropped.agent
    obtain ⟨hhears, hpaid⟩ := keepsHearing_payOwed ((s.hearRemainder.headLost rest).lostNotice q)
    have hkeeps := (keepsHearing_lostNotice q (s.hearRemainder.headLost rest)).trans hhears
    refine ⟨_, hexec, hkeeps.flag hdropped.flag, keepsRemainder_congr hdropped.remainder hkeeps.framer hkeeps.errors,
      hkeeps.collisions.trans hdropped.collisions, fun hframe => ?_, fun c k hframe hstate hentry => ?_, fun hother => ?_,
      fun hloaded hclash hroom => ?_⟩
    · exact hdropped.unminded howed (lostNotice_of_unawaited hframe _)
    · have hawaits : (s.hearRemainder.headLost rest).agent.awaits q := hagent ▸ ⟨.flow, c, k, hframe, hentry, hstate⟩
      rw [hpaid, lostNotice_of_awaits hawaits, toBackoff_dstate]
    · refine hdropped.unminded howed (lostNotice_of_not_present ?_)
      have hlc : (s.hearRemainder.headLost rest).lc = s.lc := hdropped.same .conditions (by simp)
      rw [hagent, hlc, hdropped.clash]
      exact hother
    · have hspace := hdropped.room hloaded hclash hroom
      refine ⟨fun v c k hframe hentry hstate => hdropped.intent howed ⟨v, c, k, hframe, hentry, hstate⟩ hspace,
        fun c hframe hstate => ?_, fun g hagain => ?_⟩
      · obtain ⟨hsame, hback, ⟨hvalve, hview, hserial, howner⟩, hdone⟩ := hdropped.purgeStart howed ⟨c, hframe, hstate⟩ hspace
        exact ⟨hsame, hback, hvalve, hview, hserial, howner, hdone⟩
      · have hcondition : q.frame.isCondition = true := by
          rcases hagain with ⟨c, hframe, -⟩ | ⟨hframe, -⟩ | ⟨n, m, hframe, -⟩ <;> rw [hframe] <;> rfl
        have hoffered : s.OfferedAgain q.frame g := by
          rcases hagain with ⟨c, hframe, hpaused, hg⟩ | h | ⟨n, m, hframe, hinhibit, hg⟩
          · exact .inl ⟨c, hframe, hpaused, hg⟩
          · exact .inr (.inl h)
          · exact .inr (.inr ⟨n, m, hframe, hinhibit, hg⟩)
        exact hdropped.condition howed hcondition (reofferOf_of_offeredAgain hoffered) hspace

end Sys2Proof.Machine
end

section
/-! PROOFS. The BEACON of the beacon timer (O34). -/

namespace Sys2Proof.Machine

/-! ### Where a BEACON goes (R104) -/

theorem replaces_beacon_iff (b : Beacon) (old : Frame) : replaces (.beacon b) old = old.isBeacon := by
  cases old <;> rfl

theorem dropBeacon_eq_none {l : List QueuedFrame} (hnone : ∀ q ∈ l, q.frame.isBeacon = false) : dropBeacon l = none := by
  induction l with
  | nil => rfl
  | cons x rest ih =>
    have hrest := ih fun q hq => hnone q (List.mem_cons_of_mem x hq)
    simp [dropBeacon, hrest, hnone x List.mem_cons_self]

/-- The first BEACON that waits is the one replaced. -/
theorem replaceIn_first {b : Beacon} {entry : Nat} {q : QueuedFrame} {pre post : List QueuedFrame}
    (hpre : ∀ x ∈ pre, x.frame.isBeacon = false) (hq : q.frame.isBeacon = true) :
    replaceIn ⟨.beacon b, entry⟩ (pre ++ q :: post) = some (pre ++ ⟨.beacon b, entry⟩ :: post) := by
  induction pre with
  | nil => simp [replaceIn, replaces_beacon_iff, hq]
  | cons x rest ih =>
    have hrest := ih fun y hy => hpre y (List.mem_cons_of_mem x hy)
    simp [replaceIn, replaces_beacon_iff, hpre x List.mem_cons_self, hrest]

theorem replaceIn_beacon_none {b : Beacon} {entry : Nat} {l : List QueuedFrame} (hnone : ∀ q ∈ l, q.frame.isBeacon = false) :
    replaceIn ⟨.beacon b, entry⟩ l = none :=
  replaceIn_eq_none fun x hx => (replaces_beacon_iff b x.frame).trans (hnone x hx)

theorem offer_of_taken {f : Frame} {s : State} (hloaded : s.loaded = true) (htaken : (s.line.offer ⟨f, 0⟩).2 = .taken) :
    s.offer f = s.setLine (s.line.offer ⟨f, 0⟩).1 := by
  simp only [State.offer, State.offerEntry, hloaded, if_true, htaken]

theorem offer_of_lostFull {f : Frame} {s : State} (hloaded : s.loaded = true) (hlost : (s.line.offer ⟨f, 0⟩).2 = .lostFull) :
    s.offer f = (s.setLine (s.line.offer ⟨f, 0⟩).1).raise .lineTxLoss := by
  simp only [State.offer, State.offerEntry, hloaded, if_true, hlost]

theorem wake_append_tx (q : QueuedFrame) (l : LineIf) :
    (({ l with queue := l.queue ++ [q] } : LineIf).wake).tx = if l.tx = .idle then .defer else l.tx := by
  unfold LineIf.wake
  by_cases hidle : l.tx = .idle <;> simp [hidle]

/-- No BEACON waits: the new one goes to the tail, or is lost on a full queue. -/
theorem offer_beacon_of_none {b : Beacon} {s : State} (hloaded : s.loaded = true) (hclash : s.line.clash = false)
    (hnone : ∀ q ∈ s.line.waitingPart, q.frame.isBeacon = false) :
    (s.line.queue.length < 8 →
      s.SameBut [.line] (s.offer (.beacon b)) ∧ (s.offer (.beacon b)).line.queue = s.line.queue ++ [⟨.beacon b, 0⟩] ∧
        (s.offer (.beacon b)).line.tx = if s.line.tx = .idle then .defer else s.line.tx) ∧
    (8 ≤ s.line.queue.length →
      s.SameBut [.line, .op] (s.offer (.beacon b)) ∧ (s.offer (.beacon b)).line.queue = s.line.queue ∧
        (s.offer (.beacon b)).line.tx = s.line.tx ∧ (s.offer (.beacon b)).op.flag .lineTxLoss = true) := by
  have hreplace := replaceIn_beacon_none (b := b) (entry := 0) hnone
  refine ⟨fun hroom => ?_, fun hfull => ?_⟩
  · have hoffer : s.line.offer ⟨.beacon b, 0⟩ =
        (({ s.line with queue := s.line.queue ++ [⟨.beacon b, 0⟩] } : LineIf).wake, .taken) := by
      unfold LineIf.offer
      rw [if_neg (by simp [hclash]), hreplace]
      exact if_pos hroom
    rw [offer_of_taken hloaded (congrArg Prod.snd hoffer), hoffer]
    exact ⟨setLine_sameBut _ s, wake_queue _, wake_append_tx _ s.line⟩
  · have hoffer : s.line.offer ⟨.beacon b, 0⟩ = (s.line, .lostFull) := by
      unfold LineIf.offer
      rw [if_neg (by simp [hclash]), hreplace]
      dsimp only
      rw [if_neg (by simpa [Config.frameRoom] using hfull), dropBeacon_eq_none hnone]
    rw [offer_of_lostFull hloaded (congrArg Prod.snd hoffer), hoffer]
    exact ⟨sameBut_trans (setLine_sameBut _ s) (raise_sameBut _ _) (by simp) (by simp), rfl, rfl, raise_flag_self _ _⟩

/-- A BEACON that waits gives its place to the new one. -/
theorem offer_beacon_of_waiting {b : Beacon} {q : QueuedFrame} {pre post : List QueuedFrame} {s : State} (hloaded : s.loaded = true)
    (hclash : s.line.clash = false) (hqueue : s.line.queue = pre ++ q :: post) (hq : q.frame.isBeacon = true)
    (hhead : s.line.tx = .sending → pre ≠ [])
    (hpre : ∀ x ∈ (if s.line.tx = .sending then pre.tail else pre), x.frame.isBeacon = false) :
    s.SameBut [.line] (s.offer (.beacon b)) ∧ (s.offer (.beacon b)).line.queue = pre ++ ⟨.beacon b, 0⟩ :: post ∧
      (s.offer (.beacon b)).line.tx = s.line.tx := by
  obtain ⟨w, hw, hplaced⟩ : ∃ w, replaceIn ⟨.beacon b, 0⟩ s.line.waitingPart = some w ∧
      s.line.sendingPart ++ w = pre ++ ⟨.beacon b, 0⟩ :: post := by
    unfold LineIf.waitingPart LineIf.sendingPart
    rw [hqueue]
    by_cases hsending : s.line.tx = .sending
    · obtain ⟨x, rest, rfl⟩ := List.exists_cons_of_ne_nil (hhead hsending)
      rw [if_pos hsending] at hpre
      rw [if_pos hsending, if_pos hsending]
      exact ⟨_, replaceIn_first hpre hq, rfl⟩
    · rw [if_neg hsending] at hpre
      rw [if_neg hsending, if_neg hsending]
      exact ⟨_, replaceIn_first hpre hq, rfl⟩
  have hoffer : s.line.offer ⟨.beacon b, 0⟩ = ({ s.line with queue := pre ++ ⟨.beacon b, 0⟩ :: post }, .taken) := by
    unfold LineIf.offer
    rw [if_neg (by simp [hclash]), hw, ← hplaced]
  rw [offer_of_taken hloaded (congrArg Prod.snd hoffer), hoffer]
  exact ⟨setLine_sameBut _ s, rfl, rfl⟩

/-! ### The beacon timer (R109) -/

theorem analyser_isFault_iff (x : AnalyserState) : x.isFault = true ↔ x = .fault := by
  cases x <;> simp [AnalyserState.isFault]

theorem receiver_isFault_iff (x : ReceiverState) : x.isFault = true ↔ ∃ c, x = .fault c := by
  cases x <;> simp [ReceiverState.isFault]

/-- The station as the beacon timer starts again. -/
def State.beaconDue (n : Nat) (s : State) : State :=
  (s.elapse n).setLine { (s.elapse n).line with beaconT := .running Config.beaconMs }

theorem beaconDue_sameBut (n : Nat) (s : State) : (s.elapse n).SameBut [.line] (s.beaconDue n) := setLine_sameBut _ _

/-- Settles O34: what the BEACON carries, and where it goes. -/
theorem beaconTellsTheStation : Obligations.BeaconTellsTheStation := fun n s hloaded hclash htimer => by
  have hexec : exec .beaconTimerExpiry s = .next (s.beaconDue n).offerBeacon.finish := by
    show Host.Outcome.next (State.finish (s.onExpiry s.line.beaconT _)) = _
    rw [htimer]
    rfl
  have hsame := beaconDue_sameBut n s
  refine ⟨_, (s.beaconDue n).composeBeacon, hexec, by simp [State.beaconDue, Config.beaconMs], fun hnone => ⟨fun hroom => ?_, fun hfull => ?_⟩,
    fun pre q post hqueue hq hhead hpre => ?_, rfl, rfl, rfl, rfl, rfl, rfl, rfl, ?_, ?_, rfl, ?_, ?_, ?_⟩
  · obtain ⟨hoffer, hqueue, htx⟩ := (offer_beacon_of_none (b := (s.beaconDue n).composeBeacon) (s := s.beaconDue n) hloaded hclash hnone).1 hroom
    exact ⟨sameBut_trans hsame hoffer (by simp) (by simp), hqueue, htx⟩
  · obtain ⟨hoffer, hqueue, htx, hflag⟩ := (offer_beacon_of_none (b := (s.beaconDue n).composeBeacon) (s := s.beaconDue n) hloaded hclash hnone).2 hfull
    exact ⟨sameBut_trans hsame hoffer (by simp) (by simp), hqueue, htx, hflag⟩
  · obtain ⟨hoffer, hplaced, htx⟩ :=
      offer_beacon_of_waiting (b := (s.beaconDue n).composeBeacon) (s := s.beaconDue n) hloaded hclash hqueue hq hhead hpre
    exact ⟨sameBut_trans hsame hoffer (by simp) (by simp), hplaced, htx⟩
  · simp [State.composeBeacon, State.beaconDue]
  · simp [State.composeBeacon, State.beaconDue]
  · exact analyser_isFault_iff _
  · exact receiver_isFault_iff _
  · exact receiver_isFault_iff _

end Sys2Proof.Machine
end

section
/-! PROOFS. The end of listen-in and of address clash (O33). -/

namespace Sys2Proof.Machine

/-! ### A queue that is never shorter after an offer -/

theorem offer_length_ge (q : QueuedFrame) (l : LineIf) : l.queue.length ≤ (l.offer q).1.queue.length := by
  have hparts := parts_length l
  unfold LineIf.offer
  split
  · exact Nat.le_refl _
  · split
    next w hw =>
      have := replaceIn_length hw
      simp
      omega
    next =>
      split
      · simp
      · split
        next w hw =>
          have := dropBeacon_length hw
          simp
          omega
        next => exact Nat.le_refl _

theorem Move.length_ge {s u : State} (h : Move s u) : s.line.queue.length ≤ u.line.queue.length := by
  cases h with
  | agent a => exact Nat.le_refl _
  | offers f entry =>
    rw [offerEntry_line]
    split
    · exact offer_length_ge _ _
    · exact Nat.le_refl _
  | raises e => exact Nat.le_refl _
  | receiverTold c r _ => simp

theorem Moves.length_ge {s u : State} (h : Moves s u) : s.line.queue.length ≤ u.line.queue.length :=
  moves_keep (P := fun u => s.line.queue.length ≤ u.line.queue.length) (fun _ _ hs hmove => Nat.le_trans hs hmove.length_ge)
    (Nat.le_refl _) h

/-- A transmitter in DEFER stays there while frames are offered. -/
theorem offer_tx_defer (q : QueuedFrame) {l : LineIf} (hdefer : l.tx = .defer) : (l.offer q).1.tx = .defer := by
  unfold LineIf.offer
  split
  · exact hdefer
  · split
    · exact hdefer
    · split
      · simp [LineIf.wake, hdefer]
      · split
        · dsimp only
          split
          · simp [LineIf.headDropped, hdefer]
          · exact hdefer
        · exact hdefer

theorem Move.tx_defer {s u : State} (hs : s.line.tx = .defer) (h : Move s u) : u.line.tx = .defer := by
  cases h with
  | agent a => exact hs
  | offers f entry =>
    rw [offerEntry_line]
    split
    · exact offer_tx_defer _ hs
    · exact hs
  | raises e => exact hs
  | receiverTold c r _ => simpa using hs

theorem Moves.tx_defer {s u : State} (hs : s.line.tx = .defer) (h : Moves s u) : u.line.tx = .defer :=
  moves_keep (P := fun u => u.line.tx = .defer) (fun _ _ ht hmove => hmove.tx_defer ht) hs h

/-! ### A BEACON that waits or is sent -/

/-- A BEACON stands in the queue. -/
def State.HasBeacon (s : State) : Prop := ∃ q ∈ s.line.queue, q.frame.isBeacon = true

theorem hasBeacon_offerBeacon_of_room {s : State} (hroom : s.HasRoom 1) : s.offerBeacon.HasBeacon := ⟨_, mem_offer hroom _, rfl⟩

theorem mem_replaceIn {q : QueuedFrame} {l w : List QueuedFrame} (hw : replaceIn q l = some w) : q ∈ w := by
  induction l generalizing w with
  | nil => cases hw
  | cons x rest ih =>
    simp only [replaceIn] at hw
    split at hw
    · obtain rfl := Option.some.inj hw
      exact List.mem_cons_self
    · obtain ⟨v, hv, rfl⟩ := Option.map_eq_some_iff.mp hw
      exact List.mem_cons_of_mem x (ih hv)

/-- A further BEACON does not leave the queue without one. -/
theorem hasBeacon_offerBeacon {s : State} (hs : s.HasBeacon) : s.offerBeacon.HasBeacon := by
  unfold State.HasBeacon State.offerBeacon State.offer at *
  rw [offerEntry_line]
  split
  · unfold LineIf.offer
    split
    · exact hs
    · split
      next w hw => exact ⟨_, List.mem_append_right _ (mem_replaceIn hw), rfl⟩
      next =>
        split
        · rw [wake_queue]
          obtain ⟨q, hq, hbeacon⟩ := hs
          exact ⟨q, List.mem_append_left _ hq, hbeacon⟩
        · split
          next w hw => exact ⟨_, List.mem_append_right _ (List.mem_singleton_self _), rfl⟩
          next => exact hs
  · exact hs

theorem hasBeacon_noticeChange {s : State} (hs : s.HasBeacon) (before : DState) : (s.noticeChange before).HasBeacon := by
  unfold State.noticeChange
  split
  · exact hs
  · exact hasBeacon_offerBeacon hs

/-- With room, R119's check leaves the BEACON in the queue. -/
theorem hasBeacon_idleCheck {s : State} (hroom : s.HasRoom 1) (hs : s.HasBeacon) : s.idleCheck.HasBeacon := by
  unfold State.idleCheck
  split
  · split
    next c _ =>
      rw [toListen_of_room hroom]
      refine hasBeacon_noticeChange ?_ _
      obtain ⟨q, hq, hbeacon⟩ := hs
      refine ⟨q, ?_, hbeacon⟩
      rw [offerEntry_line]
      split
      · rw [State.setAgent_line, offer_queue_of_room (replaces_new_of_plain rfl) hroom.clash hroom.room]
        exact List.mem_append_left _ hq
      · exact hq
    next => exact hs
  · exact hs

/-- A change of state, with room, puts a BEACON into the queue, or the queue is as it was. -/
theorem noticeChange_room {s : State} (hroom : s.HasRoom 1) (before : DState) :
    (s.noticeChange before).HasRoom 1 ∨ (s.noticeChange before).HasBeacon := by
  unfold State.noticeChange
  split
  · exact .inl hroom
  · exact .inr (hasBeacon_offerBeacon_of_room hroom)

theorem toIdle_room {s : State} (hpaused : s.lc.paused = true) (hroom : s.HasRoom 1) : s.toIdle.HasRoom 1 ∨ s.toIdle.HasBeacon := by
  unfold State.toIdle
  rw [idleCheck_eq_self_of_paused (by simpa using hpaused)]
  exact noticeChange_room (s := s.setAgent { s.agent.goTo .idle with sought := none }) ⟨hroom.loaded, hroom.clash, hroom.room⟩ _

theorem hasRoom_of_offer {f : Frame} {s t : State} (hroom : s.HasRoom 2) (hline : t.line = s.line) (hloaded : t.loaded = s.loaded) :
    (t.offer f).HasRoom 1 := by
  have hlength := length_offer f t
  have hspace := hroom.room
  rw [hline] at hlength
  exact ⟨by simpa using hloaded.trans hroom.loaded, by simpa [hline] using hroom.clash, by omega⟩

theorem flowEnded_hasRoom {s : State} (hroom : s.HasRoom 2) (c : GasClass) : (s.flowEnded false true c).HasRoom 1 :=
  hasRoom_of_offer (t := (s.setAgent s.agent.shut).receiverFlowEnd c) hroom (by simp) (by simp)

theorem purgeAborted_hasRoom {s : State} (hroom : s.HasRoom 2) : (s.purgeAborted false true).HasRoom 1 :=
  hasRoom_of_offer (t := s.setAgent { s.agent with
    purgeV := false, purge := .stopped, viewClass := none, viewSerial := s.agent.purgeSerial, owner := none }) hroom rfl rfl

/-- The agent that a pause stops leaves room for a BEACON, or has put one into the queue. -/
theorem agentStop_room {s : State} (hpaused : s.lc.paused = true) (hroom : s.HasRoom 2) :
    (s.agentStop true).HasRoom 1 ∨ (s.agentStop true).HasBeacon := by
  have hone : s.HasRoom 1 := ⟨hroom.loaded, hroom.clash, Nat.le_of_succ_le hroom.room⟩
  unfold State.agentStop
  split
  next => exact .inl hone
  next =>
    cases hsought : s.agent.sought with
    | none =>
      rw [endFlow_eq_self hsought]
      exact .inl hone
    | some c =>
      rw [endFlow_eq hsought]
      have hlc := (flowEnded_conditions false true c s).1
      exact toIdle_room (by rw [hlc]; exact hpaused) (flowEnded_hasRoom hroom c)
  next =>
    have hlc := (purgeAborted_conditions false true s).1
    exact toIdle_room (s := s.purgeAborted false true) (by rw [hlc]; exact hpaused) (purgeAborted_hasRoom hroom)
  all_goals exact toIdle_room hpaused hone

/-! ### The pause a listening station joins (R152) -/

theorem enterPause_line_eq {s : State} (hrun : s.lc.paused = false) (c : PauseCause) :
    ∃ t : State, t.lc.paused = true ∧ t.line = s.line ∧ t.loaded = s.loaded ∧ (s.enterPause c).line = (t.agentStop true).line ∧
      (s.enterPause c).loaded = (t.agentStop true).loaded := by
  refine ⟨(s.pausedWith c).pausePorts, by simp, by simp, ?_, ?_, ?_⟩
  · simp [State.pausePorts, State.eachPort]
  · rw [enterPause_of_run hrun]
    exact (tellPause_parts _).2.2.1
  · rw [enterPause_of_run hrun]
    exact rfl

/-- After the pause is joined or not, room for a BEACON or a BEACON in the queue. -/
theorem adoptPause_room {s : State} (hroom : s.HasRoom 2) : s.adoptPause.HasRoom 1 ∨ s.adoptPause.HasBeacon := by
  have hone : s.HasRoom 1 := ⟨hroom.loaded, hroom.clash, Nat.le_of_succ_le hroom.room⟩
  unfold State.adoptPause
  split
  · by_cases hpaused : s.lc.paused = true
    · rw [enterPause_of_paused hpaused]
      exact .inl ⟨hone.loaded, hone.clash, hone.room⟩
    · obtain ⟨t, htpaused, htline, htloaded, hline, hloaded⟩ := enterPause_line_eq (Bool.eq_false_of_not_eq_true hpaused) .line
      have hstop := agentStop_room (s := t) htpaused
        ⟨htloaded.trans hroom.loaded, by rw [htline]; exact hroom.clash, by rw [htline]; exact hroom.room⟩
      refine hstop.imp (fun h => ⟨hloaded.trans h.loaded, ?_, ?_⟩) fun h => ?_
      · rw [hline]
        exact h.clash
      · rw [hline]
        exact h.room
      · unfold State.HasBeacon
        rw [hline]
        exact h
  · exact .inl hone

theorem adoptPause_cases (s : State) :
    ((∃ a, (s.peer a).showsPaused = true) ∧ s.adoptPause = s.enterPause .line) ∨
      (∀ a, (s.peer a).showsPaused = false) ∧ s.adoptPause = s := by
  unfold State.adoptPause
  split
  next hany =>
    obtain ⟨a, -, ha⟩ := List.any_eq_true.mp hany
    exact .inl ⟨⟨a, ha⟩, rfl⟩
  next hnone =>
    refine .inr ⟨fun a => Bool.eq_false_of_not_eq_true fun ha => hnone ?_, rfl⟩
    exact List.any_eq_true.mpr ⟨a, List.mem_finRange a, ha⟩

theorem showsPaused_iff (x : Peer) : x.showsPaused = true ↔ ∃ b, x.fresh = true ∧ x.liveBeacon = some b ∧ b.paused = true := by
  unfold Peer.showsPaused
  cases x.fresh <;> cases x.liveBeacon <;> simp

theorem enterPause_line_lc (s : State) : (s.enterPause .line).lc.paused = true ∧ (s.enterPause .line).lc.causeLine = true := by
  by_cases hpaused : s.lc.paused = true
  · rw [enterPause_of_paused hpaused]
    exact ⟨hpaused, rfl⟩
  · rw [enterPause_lc (Bool.eq_false_of_not_eq_true hpaused)]
    exact ⟨rfl, rfl⟩

/-! ### The transmitter leaves SILENT (R106, R108) -/

theorem hasBeacon_of_line {s u : State} (hline : u.line.queue = s.line.queue) (hs : s.HasBeacon) : u.HasBeacon := by
  unfold State.HasBeacon
  rw [hline]
  exact hs

theorem offerBeacon_queue_ne_nil {s : State} (hloaded : s.loaded = true) (hclash : s.line.clash = false) :
    s.offerBeacon.line.queue ≠ [] := by
  by_cases hroom : s.line.queue.length + 1 ≤ Config.frameRoom
  · exact List.ne_nil_of_mem (mem_offer ⟨hloaded, hclash, hroom⟩ _)
  · have hlength := Moves.length_ge (moves_offerBeacon s)
    intro hempty
    rw [hempty] at hlength
    have hnone : s.line.queue.length = 0 := Nat.le_zero.mp hlength
    rw [hnone] at hroom
    exact hroom (by decide)

theorem queue_ne_nil_of_moves {s u : State} (hs : s.line.queue ≠ []) (h : Moves s u) : u.line.queue ≠ [] := by
  have hlength := h.length_ge
  have hpos := List.length_pos_iff.mpr hs
  exact List.length_pos_iff.mp (Nat.lt_of_lt_of_le hpos hlength)

theorem speak_of_clear {l : LineIf} (hclear : l.clash = false) : l.speak = { l with tx := restTx l.queue } :=
  if_neg (by simp [hclear])

theorem speak_keeps (l : LineIf) : l.speak.listenIn = l.listenIn ∧ l.speak.listenT = l.listenT ∧ l.speak.beaconT = l.beaconT ∧
    l.speak.queue = l.queue := by
  unfold LineIf.speak
  split <;> exact ⟨rfl, rfl, rfl, rfl⟩

theorem adoptPause_sameReceiver (s : State) : s.line.SameReceiver s.adoptPause.line := by
  rcases adoptPause_cases s with ⟨-, h⟩ | ⟨-, h⟩ <;> rw [h] <;> simp [LineIf.SameReceiver]

theorem adoptPause_loaded (s : State) : s.adoptPause.loaded = s.loaded := by
  rcases adoptPause_cases s with ⟨-, h⟩ | ⟨-, h⟩ <;> rw [h]
  simp

theorem offerBeacon_hasRoom {s : State} (hroom : s.HasRoom 2) : s.offerBeacon.HasRoom 1 := hasRoom_of_offer hroom rfl rfl

/-- Listen-in is over, and nothing has been joined or offered yet. -/
abbrev State.listened (s : State) : State :=
  s.setLine { s.line with listenIn := false, listenT := .stopped, beaconT := .running Config.beaconMs }

theorem endListenIn_hasBeacon {s : State} (hroom : s.HasRoom 2) : s.listened.adoptPause.offerBeacon.idleCheck.HasBeacon := by
  have hlistened : s.listened.HasRoom 2 := ⟨hroom.loaded, hroom.clash, hroom.room⟩
  have hbeacon : s.listened.adoptPause.offerBeacon.HasBeacon :=
    (adoptPause_room hlistened).elim hasBeacon_offerBeacon_of_room hasBeacon_offerBeacon
  rcases adoptPause_cases s.listened with ⟨-, hself⟩ | ⟨-, hself⟩
  · have hpaused : s.listened.adoptPause.offerBeacon.lc.paused = true := by
      rw [hself]
      simpa using (enterPause_line_lc s.listened).1
    rwa [idleCheck_eq_self_of_paused hpaused]
  · refine hasBeacon_idleCheck ?_ hbeacon
    rw [hself]
    exact offerBeacon_hasRoom hlistened

/-- What the end of listen-in leaves at the line interface and of the pause. -/
theorem endListenIn_outcome (s : State) :
    s.endListenIn.line.listenIn = false ∧ s.endListenIn.line.listenT = .stopped ∧ s.endListenIn.line.beaconT = .running 250 ∧
      s.endListenIn.line.queue = s.listened.adoptPause.offerBeacon.idleCheck.line.queue ∧
      s.endListenIn.lc = s.listened.adoptPause.lc ∧
      (s.loaded = true → s.line.clash = false → s.endListenIn.line.tx = .defer ∧ s.endListenIn.line.queue ≠ []) := by
  have hadopt := adoptPause_sameReceiver s.listened
  have hmoves : Moves s.listened.adoptPause s.listened.adoptPause.offerBeacon.idleCheck :=
    (moves_offerBeacon _).trans (moves_idleCheck _)
  obtain ⟨-, -, -, hlistenIn, hclash, hlistenT, -, hbeaconT⟩ := sameReceiver_trans hadopt hmoves.sameReceiver
  obtain ⟨hspeakIn, hspeakT, hspeakB, hspeakQ⟩ := speak_keeps s.listened.adoptPause.offerBeacon.idleCheck.line
  refine ⟨hspeakIn.trans hlistenIn, hspeakT.trans hlistenT, hspeakB.trans hbeaconT, hspeakQ, hmoves.sameBut .conditions (by simp),
    fun hloaded hclear => ?_⟩
  have hnonempty := queue_ne_nil_of_moves (offerBeacon_queue_ne_nil (s := s.listened.adoptPause)
    ((adoptPause_loaded _).trans hloaded) (hadopt.2.2.2.2.1.trans hclear)) (moves_idleCheck _)
  refine ⟨?_, hspeakQ ▸ hnonempty⟩
  have htx := speak_of_clear (l := s.listened.adoptPause.offerBeacon.idleCheck.line) (hclash.trans hclear)
  exact (congrArg LineIf.tx htx).trans (restTx_ne_nil hnonempty)

/-- Address clash is over, and nothing has been offered yet. -/
abbrev State.unclashed (s : State) : State := s.setLine { s.line with clash := false, clashT := .stopped }

/-- The BEACON is offered and the transmitter leaves SILENT. -/
abbrev State.speaks (s : State) : State := s.offerBeacon.setLine s.offerBeacon.line.speak

theorem endClash_of_heard {s : State} (hlistens : s.line.listenIn = false) : s.endClash = s.unclashed.speaks.idleCheck := by
  unfold State.endClash
  dsimp only
  rw [if_neg (by simp [hlistens])]

theorem endClash_of_listening {s : State} (hlistens : s.line.listenIn = true) : s.endClash = s.unclashed := by
  have hself : s.unclashed.idleCheck = s.unclashed := if_neg fun ⟨_, _, _, hheard, _⟩ => Bool.noConfusion (hlistens.symm.trans hheard)
  unfold State.endClash
  dsimp only
  rw [if_pos (by simp [hlistens])]
  exact hself

theorem endClash_sameReceiver (s : State) : s.unclashed.line.SameReceiver s.endClash.line := by
  cases hlistens : s.line.listenIn
  · rw [endClash_of_heard hlistens]
    have hspeaks : s.unclashed.line.SameReceiver s.unclashed.speaks.line := by
      simp [LineIf.SameReceiver, LineIf.speak]
    exact sameReceiver_trans hspeaks (moves_idleCheck _).sameReceiver
  · rw [endClash_of_listening hlistens]
    exact ⟨rfl, rfl, rfl, rfl, rfl, rfl, rfl, rfl⟩

theorem speaks_outcome {s : State} (hloaded : s.loaded = true) (hclear : s.line.clash = false) :
    s.speaks.line.tx = .defer ∧ s.speaks.line.queue ≠ [] := by
  have hnonempty := offerBeacon_queue_ne_nil hloaded hclear
  have hspeak := speak_of_clear (l := s.offerBeacon.line) (by simpa using hclear)
  refine ⟨(congrArg LineIf.tx hspeak).trans (restTx_ne_nil hnonempty), ?_⟩
  exact (congrArg LineIf.queue hspeak).symm ▸ hnonempty

theorem endClash_hasBeacon {s : State} (hloaded : s.loaded = true) (hlistens : s.line.listenIn = false)
    (hroom : s.line.queue.length + 2 ≤ Config.frameRoom) : s.endClash.HasBeacon := by
  rw [endClash_of_heard hlistens]
  have hunclashed : s.unclashed.HasRoom 2 := ⟨hloaded, rfl, hroom⟩
  have hafter := offerBeacon_hasRoom hunclashed
  have hqueue : s.unclashed.speaks.line.queue = s.unclashed.offerBeacon.line.queue := (speak_keeps _).2.2.2
  refine hasBeacon_idleCheck ⟨hafter.loaded, ?_, hqueue ▸ hafter.room⟩ ?_
  · simp [LineIf.speak]
  · exact hasBeacon_of_line hqueue (hasBeacon_offerBeacon_of_room ⟨hloaded, rfl, Nat.le_of_succ_le hroom⟩)

theorem liveBeacon_elapse (n : Nat) (x : Peer) : (x.elapse n).liveBeacon = x.liveBeacon := rfl

theorem showsPaused_elapse (n : Nat) (s : State) (a : Address) : ((s.elapse n).listened.peer a).showsPaused = (s.peer a).showsPaused := by
  have hpeer : (s.elapse n).listened.peer a = (s.peer a).elapse n := State.peer_elapse n s a
  rw [hpeer]
  rfl

/-- Settles O33: the end of listen-in, and the end of address clash. -/
theorem silenceEnds : Obligations.SilenceEnds := fun n s hloaded => by
  refine ⟨fun htimer => ?listen, fun htimer => ?clash⟩
  case listen =>
    have hexec : exec .listenInEnd s = .next (s.elapse n).endListenIn.finish := by
      show Host.Outcome.next (State.finish (s.onExpiry s.line.listenT _)) = _
      rw [htimer]
      rfl
    obtain ⟨hlistenIn, hlistenT, hbeaconT, hqueue, hlc, htx⟩ := endListenIn_outcome (s.elapse n)
    refine ⟨_, hexec, hlistenIn, hlistenT, hbeaconT, htx hloaded, fun hclear hroom => ?_, fun ⟨a, b, hfresh, hlive, hpaused⟩ => ?_,
      fun hnone => ?_⟩
    · obtain ⟨q, hq, hbeacon⟩ := endListenIn_hasBeacon (s := s.elapse n) ⟨hloaded, hclear, Nat.succ_le_succ hroom⟩
      exact ⟨q, hqueue ▸ hq, hbeacon⟩
    all_goals rw [hlc]
    · have hshows := (showsPaused_elapse n s a).trans ((showsPaused_iff _).mpr ⟨b, hfresh, hlive, hpaused⟩)
      rcases adoptPause_cases (s.elapse n).listened with ⟨-, hself⟩ | ⟨hquiet, -⟩
      · rw [hself]
        exact enterPause_line_lc _
      · exact Bool.noConfusion ((hquiet a).symm.trans hshows)
    · rcases adoptPause_cases (s.elapse n).listened with ⟨⟨a, ha⟩, -⟩ | ⟨-, hself⟩
      · obtain ⟨b, hfresh, hlive, hpaused⟩ := (showsPaused_iff _).mp ((showsPaused_elapse n s a).symm.trans ha)
        exact absurd hpaused (by simp [hnone a b hfresh hlive])
      · rw [hself]
        exact ⟨rfl, rfl⟩
  case clash =>
    have hexec : exec .clashTimerExpiry s = .next (s.elapse n).endClash.finish := by
      show Host.Outcome.next (State.finish (s.onExpiry s.line.clashT _)) = _
      rw [htimer]
      rfl
    obtain ⟨-, -, -, -, hclash, -, hclashT, -⟩ := endClash_sameReceiver (s.elapse n)
    refine ⟨_, hexec, hclash, hclashT, fun hlistens => ?_, fun hlistens hroom => ?_, fun hlistens => ?_⟩
    · obtain ⟨htx, hnonempty⟩ := speaks_outcome (s := (s.elapse n).unclashed) hloaded rfl
      rw [endClash_of_heard (s := s.elapse n) hlistens]
      exact ⟨(moves_idleCheck _).tx_defer htx, queue_ne_nil_of_moves hnonempty (moves_idleCheck _)⟩
    · exact endClash_hasBeacon (s := s.elapse n) hloaded hlistens (Nat.succ_le_succ hroom)
    · exact congrArg State.line (endClash_of_listening (s := s.elapse n) hlistens)

end Sys2Proof.Machine
end

section
/-! PROOFS. The agent follows the view and the sets (R122, R123, R130), and a peer that goes stale (O35). -/

namespace Sys2Proof.Machine

/-! ### The news of the view and the sets -/

/-- What the agent is told: the sets of the fresh peers, or the view, are not what they were. -/
def State.ViewChanged (s u : State) : Prop :=
  u.flowingPeers ≠ s.flowingPeers ∨ u.waitingPeers ≠ s.waitingPeers ∨ u.agent.viewClass ≠ s.agent.viewClass ∨
    u.agent.viewSerial ≠ s.agent.viewSerial ∨ u.agent.owner ≠ s.agent.owner

theorem peersIn_of_peers {s u : State} (hpeers : u.peers = s.peers) (d : DState) : u.peersIn d = s.peersIn d := by
  unfold State.peersIn State.peer
  rw [hpeers]

theorem viewReaction_peersIn (flowing : List (Address × GasClass)) (told : Bool) (s : State) (d : DState) :
    (s.viewReaction flowing told).peersIn d = s.peersIn d := peersIn_of_peers (by simp) d

theorem viewReaction_held (flowing : List (Address × GasClass)) (told : Bool) (s : State) (c : GasClass) :
    (s.viewReaction flowing told).agent.held c = s.agent.held c := by
  cases c <;> simp [Agent.held, Agent.heldT]

theorem viewReaction_noOther (flowing : List (Address × GasClass)) (told : Bool) (s : State) (c : GasClass) :
    (s.viewReaction flowing told).noOther c = s.noOther c := by
  simp only [State.noOther, State.flowingPeers, State.waitingPeers, viewReaction_peersIn]

/-- WAITING decides by what stands before, which its decision leaves. -/
theorem waitingDecided_viewReaction {flowing : List (Address × GasClass)} {told : Bool} {s : State} {c : GasClass} :
    (s.viewReaction flowing told).WaitingDecided c ↔
      (s.viewReaction flowing told).agent.dstate =
        (if s.agent.viewClass = some c ∧ s.agent.held c = false ∧ s.noOther c = true then .listenFlow
        else if s.agent.viewClass ≠ some c ∧ s.flowingPeers = [] ∧ s.agent.owner = none then .drain
        else .waiting) := by
  have hview : (s.viewReaction flowing told).agent.viewClass = s.agent.viewClass := by simp
  have howner : (s.viewReaction flowing told).agent.owner = s.agent.owner := by simp
  have hflowing : (s.viewReaction flowing told).flowingPeers = s.flowingPeers := viewReaction_peersIn ..
  unfold State.WaitingDecided
  rw [viewReaction_held, viewReaction_noOther, hview, howner, hflowing]

theorem listenTold_dstate (c : GasClass) (s : State) : (s.listenTold .flow c).agent.dstate = .listenFlow := by
  rw [listenTold_agent]
  rfl

theorem toDrain_dstate_of_ownerless {s : State} (howner : s.agent.owner = none) : s.toDrain.agent.dstate = .drain := by
  unfold State.toDrain
  rw [howner]
  simp [Agent.goTo]

theorem reevaluate_dstate {s : State} {c : GasClass} (hroom : s.HasRoom 1) (hwaiting : s.agent.dstate = .waiting)
    (hsought : s.agent.sought = some c) :
    s.reevaluate.agent.dstate =
      (if s.agent.viewClass = some c ∧ s.agent.held c = false ∧ s.noOther c = true then .listenFlow
      else if s.agent.viewClass ≠ some c ∧ s.flowingPeers = [] ∧ s.agent.owner = none then .drain
      else .waiting) := by
  unfold State.reevaluate
  rw [hsought]
  dsimp only
  split
  next => rw [toListen_of_room hroom, listenTold_dstate]
  next =>
    split
    next h => exact toDrain_dstate_of_ownerless h.2.2
    next => exact hwaiting

theorem drain_any_iff (flowing now : List (Address × GasClass)) :
    (now.any fun m => decide (m ∉ flowing)) = true ↔ ∃ m ∈ now, m ∉ flowing := by simp [List.any_eq_true]

/-- The agent follows a change of the view, the owner or the sets. `t` is the station with the new view, not told yet. -/
theorem viewFollowed_viewReaction {s t : State} {d : GasClass} {told : Bool} (hsought : t.agent.sought = some d)
    (hstate : t.agent.dstate = s.agent.dstate) (houtputs : ∀ c, t.agent.disch c = s.agent.disch c ∧ t.agent.sel c = s.agent.sel c)
    (hroom : t.HasRoom 1) (htold : told = true ↔ s.ViewChanged t) : s.ViewFollowed d (t.viewReaction s.flowingPeers told) := by
  have hview : (t.viewReaction s.flowingPeers told).agent.viewClass = t.agent.viewClass := by simp
  have hserial : (t.viewReaction s.flowingPeers told).agent.viewSerial = t.agent.viewSerial := by simp
  have howner : (t.viewReaction s.flowingPeers told).agent.owner = t.agent.owner := by simp
  have hflowing : (t.viewReaction s.flowingPeers told).flowingPeers = t.flowingPeers := viewReaction_peersIn ..
  have hwaiting : (t.viewReaction s.flowingPeers told).waitingPeers = t.waitingPeers := viewReaction_peersIn ..
  refine ⟨fun hflows => ⟨fun hsame => ?_, fun hother => ?_⟩, fun hwaits => ⟨fun hchanged => ?_, fun hsame => ?_⟩, fun hdrains => ?_,
    fun hrests => ?_⟩
  · rw [hview] at hsame
    have hself : t.viewReaction s.flowingPeers told = t := by
      simp only [State.viewReaction, hstate, hflows, hsought, hsame, if_true]
    rw [hself]
    exact ⟨hstate.trans hflows, houtputs⟩
  · rw [hview] at hother
    have hends : t.viewReaction s.flowingPeers told = t.endFlow false true .backoff := by
      simp only [State.viewReaction, hstate, hflows, hsought, if_neg hother]
    rw [hends]
    exact endFlow_backoff_shut hsought false true
  · rw [hview, hserial, howner, hflowing, hwaiting] at hchanged
    have hself : t.viewReaction s.flowingPeers told = t.reevaluate := by
      simp only [State.viewReaction, hstate, hwaits, htold.mpr hchanged, if_true]
    rw [waitingDecided_viewReaction, hself]
    exact reevaluate_dstate hroom (hstate.trans hwaits) hsought
  · rw [hview, hserial, howner, hflowing, hwaiting] at hsame
    have hself : t.viewReaction s.flowingPeers told = t := by
      simp only [State.viewReaction, hstate, hwaits, if_neg fun h => hsame (htold.mp h)]
    rw [hself]
    exact hstate.trans hwaits
  · rw [hflowing, howner, hview]
    unfold State.viewReaction
    rw [hstate, hdrains]
    have hany := drain_any_iff s.flowingPeers t.flowingPeers
    by_cases hwait : (∃ m ∈ t.flowingPeers, m ∉ s.flowingPeers) ∨ t.agent.owner ≠ none
    · rw [if_pos hwait]
      dsimp only
      rw [if_pos (by rw [Bool.or_eq_true, hany, Option.isSome_iff_ne_none]; exact hwait)]
      exact toWaiting_dstate t
    · rw [if_neg hwait]
      dsimp only
      rw [if_neg (by rw [Bool.or_eq_true, hany, Option.isSome_iff_ne_none]; exact hwait), hsought]
      dsimp only
      split
      · rw [toListen_of_room hroom, listenTold_dstate]
      · exact hstate.trans hdrains
  · have hself : t.viewReaction s.flowingPeers told = t := by
      simp only [List.mem_cons, List.not_mem_nil, or_false] at hrests
      apply viewReaction_eq_self <;> rw [hstate] <;> rcases hrests with h | h | h <;> simp [h]
    rw [hself]
    exact hstate

/-! ### A change of view, with the news of the sets -/

theorem told_iff {s t : State} (a : Agent) (hagent : t.agent = s.agent) :
    ((setNews s t).changed || a.viewDiffers t.agent) = true ↔ s.ViewChanged (t.setAgent a) := by
  have hpeers : ∀ d, (t.setAgent a).peersIn d = t.peersIn d := fun d => peersIn_of_peers (by simp) d
  unfold State.ViewChanged
  rw [show (t.setAgent a).flowingPeers = t.flowingPeers from hpeers _, show (t.setAgent a).waitingPeers = t.waitingPeers from hpeers _]
  simp only [setNews, Agent.viewDiffers, hagent, Bool.or_eq_true, decide_eq_true_eq, or_assoc, ne_comm (a := s.flowingPeers),
    ne_comm (a := s.waitingPeers), State.setAgent_agent]

/-- A change of the view and nothing else of what the agent does. -/
structure Agent.OnlyView (a b : Agent) : Prop where
  state : b.dstate = a.dstate
  sought : b.sought = a.sought
  outputs : ∀ c, b.disch c = a.disch c ∧ b.sel c = a.sel c
  purge : b.purgeV = a.purgeV

/-- The agent takes a changed view together with the news of the sets from `s` to `t`, and follows both. -/
theorem viewFollowed_takeView {s t : State} {d : GasClass} {a : Agent} (hagent : t.agent = s.agent) (hsought : s.agent.sought = some d)
    (honly : s.agent.OnlyView a) (hroom : t.HasRoom 1) : s.ViewFollowed d (t.takeView (setNews s t) a) :=
  viewFollowed_viewReaction (t := t.setAgent a) (honly.sought.trans hsought) honly.state honly.outputs
    ⟨hroom.loaded, hroom.clash, hroom.room⟩ (told_iff a hagent)

theorem takeView_view (n : SetNews) (a : Agent) (s : State) :
    (s.takeView n a).agent.viewClass = a.viewClass ∧ (s.takeView n a).agent.viewSerial = a.viewSerial ∧
      (s.takeView n a).agent.owner = a.owner ∧ (s.takeView n a).peers = s.peers := by
  simp [State.takeView]

/-! ### A peer that goes stale (R143) -/

/-- The view without the owner that fell silent (R114). -/
def Agent.withoutOwner (p : Address) (a : Agent) : Agent := if a.owner = some p then a.dropOwner else a

theorem onlyView_withoutOwner (p : Address) (a : Agent) : a.OnlyView (a.withoutOwner p) := by
  unfold Agent.withoutOwner Agent.dropOwner
  split <;> exact ⟨rfl, rfl, fun c => by cases c <;> exact ⟨rfl, rfl⟩, rfl⟩

theorem withoutOwner_view (p : Address) (a : Agent) :
    (a.withoutOwner p).viewClass = (if a.owner = some p then none else a.viewClass) ∧
      (a.withoutOwner p).viewSerial = a.viewSerial ∧
      (a.withoutOwner p).owner = (if a.owner = some p then none else a.owner) := by
  unfold Agent.withoutOwner Agent.dropOwner
  split <;> exact ⟨rfl, rfl, rfl⟩

theorem goStale_position (x : Peer) : x.goStale.position = none := by
  have hbeacon : x.goStale.liveBeacon = none := by
    unfold Peer.liveBeacon Peer.goStale
    cases x.beacon <;> rfl
  have hdisch : x.goStale.liveDisch = none := by
    unfold Peer.liveDisch Peer.goStale
    cases x.disch <;> rfl
  unfold Peer.position Peer.source
  rw [hbeacon, hdisch]
  rfl

/-- The station whose table has lost a peer, the agent not told. -/
abbrev State.peerGone (p : Address) (s : State) : State := s.setPeer p (s.peer p).goStale

theorem staleNow_eq (p : Address) (s : State) :
    s.staleNow p = (s.peerGone p).takeView (setNews s (s.peerGone p)) (s.agent.withoutOwner p) := rfl

theorem staleNow_peers (p : Address) (s : State) :
    (s.staleNow p).peer p = (s.peer p).goStale ∧ ∀ b, b ≠ p → (s.staleNow p).peer b = s.peer b := by
  have hpeers : ∀ b, (s.staleNow p).peer b = (s.peerGone p).peer b := fun b =>
    congrArg (fun v => v[b]) (takeView_view (setNews s (s.peerGone p)) (s.agent.withoutOwner p) (s.peerGone p)).2.2.2
  exact ⟨(hpeers p).trans (State.peer_setPeer_self ..), fun b hb => (hpeers b).trans (State.peer_setPeer_ne hb _ _)⟩

/-- Settles O35: the entry, the view, and what the agent makes of both. -/
theorem silentPeerGoesStale : Obligations.SilentPeerGoesStale := fun p n s e htimer he => by
  subst he
  have hexec : exec (.peerStale p) s = .next ((s.elapse n).staleNow p).finish := by
    show Host.Outcome.next (State.finish (s.onExpiry (s.peer p).timer _)) = _
    rw [htimer]
    rfl
  obtain ⟨hself, hothers⟩ := staleNow_peers p (s.elapse n)
  have hpeer : (s.elapse n).peer p = (s.peer p).elapse n := State.peer_elapse n s p
  refine ⟨fun hidle => ?idle, fun d hworks hpurging hsought hloaded hclash hroom => ?follows⟩
  case idle =>
    have hstate : ((s.elapse n).agent.withoutOwner p).dstate = .idle := (onlyView_withoutOwner p _).state.trans hidle
    have hact : (s.elapse n).staleNow p = ((s.elapse n).peerGone p).setAgent ((s.elapse n).agent.withoutOwner p) :=
      (staleNow_eq p _).trans (takeView_eq_setAgent (by rw [hstate]; decide) (by rw [hstate]; decide) (by rw [hstate]; decide) _)
    refine ⟨_, hexec, ?_, by rw [hself]; rfl, by rw [hself]; rfl, by rw [hself, hpeer]; rfl, by rw [hself, hpeer]; rfl,
      by rw [hself, goStale_position], hothers, congrArg State.agent hact⟩
    rw [hact, sameBut_iff]
    simp
  case follows =>
    obtain ⟨hview, hserial, howner, -⟩ := takeView_view (setNews (s.elapse n) ((s.elapse n).peerGone p))
      ((s.elapse n).agent.withoutOwner p) ((s.elapse n).peerGone p)
    obtain ⟨hviewOf, hserialOf, hownerOf⟩ := withoutOwner_view p (s.elapse n).agent
    have hspace : s.line.queue.length + 1 ≤ Config.frameRoom := Nat.le_trans (Nat.succ_le_succ (Nat.le_of_lt hroom)) (by decide)
    exact ⟨_, hexec, by rw [hself]; rfl, by rw [hself, goStale_position], hothers, hview.trans hviewOf, hserial.trans hserialOf,
      howner.trans hownerOf, viewFollowed_takeView (s := s.elapse n) rfl hsought (onlyView_withoutOwner p _)
        ⟨hloaded, hclash, hspace⟩⟩

end Sys2Proof.Machine
end

section
/-! PROOFS. The frames that move the header view (O23). -/

namespace Sys2Proof.Machine

/-! ### The serials (R112) -/

theorem newer_iff (x y : Byte) :
    newer x y = true ↔ 1 ≤ (x.toNat + 256 - y.toNat) % 256 ∧ (x.toNat + 256 - y.toNat) % 256 ≤ 127 := by
  have hx := x.isLt
  have hy := y.isLt
  have hsub : (x - y).toNat = (x.toNat + 256 - y.toNat) % 256 := by
    rw [BitVec.toNat_sub]
    congr 1
    omega
  simp only [newer, Bool.and_eq_true, decide_eq_true_eq, hsub]

/-! ### The view a frame carries (R113, R114) -/

/-- A frame carries a class and a serial, and says or does not say that its source's purge is over. -/
def Frame.Carries (f : Frame) (c : Option GasClass) (serial : Byte) (ended : Prop) : Prop :=
  (∃ b, f = .beacon b ∧ c = b.viewClass ∧ serial = b.viewSerial ∧ ended = (b.dstate ≠ .purging)) ∨
    (∃ x, f = .flowOn x serial ∧ c = some x ∧ ended = False) ∨ f = .purgeDone c serial ∧ ended = True

/-- The view after a frame that carries one. -/
def Agent.hear (src : Address) (f : Frame) (a : Agent) : Agent :=
  match f with
  | .beacon b => (a.adopt b.viewClass b.viewSerial).ownerSpoke src (decide (b.dstate ≠ .purging))
  | .flowOn c v => (a.adopt (some c) v).loseReservation
  | .purgeDone c v => (a.adopt c v).ownerSpoke src true
  | _ => a

/-- Whether a frame ends the purge of a PURGING agent (R113, R127). -/
def Agent.endedBy (f : Frame) (a : Agent) : Bool :=
  match f with
  | .beacon b => a.wouldAdopt b.viewClass b.viewSerial
  | .flowOn _ _ => true
  | .purgeDone c v => a.wouldAdopt c v
  | _ => false

def Frame.isFlowOn : Frame → Bool
  | .flowOn _ _ => true
  | _ => false

theorem adopt_of_newer {c : Option GasClass} {serial : Byte} {a : Agent} (hnewer : newer serial a.viewSerial = true) :
    a.adopt c serial = { a with viewClass := c, viewSerial := serial, owner := none } := if_pos hnewer

theorem wouldAdopt_iff (c : Option GasClass) (serial : Byte) (a : Agent) :
    a.wouldAdopt c serial = true ↔
      newer serial a.viewSerial = true ∨ serial = a.viewSerial ∧ ∃ x y, c = some x ∧ a.viewClass = some y ∧ x ≠ y := by
  unfold Agent.wouldAdopt
  cases c <;> cases a.viewClass <;> simp

/-- An older serial leaves the view, but for a contradiction at the same serial, which makes it UNKNOWN. -/
theorem adopt_of_older {c : Option GasClass} {serial : Byte} {a : Agent} (holder : newer serial a.viewSerial = false) :
    (a.adopt c serial = { a with viewClass := none } ∧ serial = a.viewSerial ∧ ∃ x y, c = some x ∧ a.viewClass = some y ∧ x ≠ y) ∨
      (a.adopt c serial = a ∧ ¬(serial = a.viewSerial ∧ ∃ x y, c = some x ∧ a.viewClass = some y ∧ x ≠ y)) := by
  unfold Agent.adopt
  rw [if_neg (by simp [holder])]
  cases c with
  | none => exact .inr ⟨rfl, by simp⟩
  | some x =>
    cases hview : a.viewClass with
    | none => exact .inr ⟨rfl, by simp⟩
    | some y =>
      dsimp only
      split
      next h => exact .inl ⟨rfl, h.1, x, y, rfl, rfl, h.2⟩
      next h => exact .inr ⟨rfl, by simpa using h⟩

theorem ownerSpoke_of_not {src : Address} {spoke : Bool} {a : Agent} (hnot : ¬(a.owner = some src ∧ spoke = true)) :
    a.ownerSpoke src spoke = a := if_neg hnot

theorem differ_iff (c v : Option GasClass) : (∃ x y, c = some x ∧ v = some y ∧ x ≠ y) ↔ c.isSome ∧ v.isSome ∧ c ≠ v := by
  cases c <;> cases v <;> simp

theorem viewTaken_adopt_ownerSpoke (c : Option GasClass) (serial : Byte) (src : Address) (spoke : Bool) (a : Agent) :
    ViewTaken c serial (a.owner = some src ∧ spoke = true) a ((a.adopt c serial).ownerSpoke src spoke) := by
  refine ⟨fun hnewer => ?_, fun holder => ?_⟩
  · rw [adopt_of_newer hnewer, ownerSpoke_of_not (by simp)]
    exact ⟨rfl, rfl, rfl⟩
  · have howner : (a.adopt c serial).owner = a.owner ∧ (a.adopt c serial).viewSerial = a.viewSerial := by
      rcases adopt_of_older (c := c) holder with ⟨h, -⟩ | ⟨h, -⟩ <;> rw [h] <;> exact ⟨rfl, rfl⟩
    by_cases hspoke : a.owner = some src ∧ spoke = true
    · have hdrops : (a.adopt c serial).ownerSpoke src spoke = (a.adopt c serial).dropOwner := if_pos (howner.1 ▸ hspoke)
      rw [hdrops]
      exact ⟨howner.2, fun _ => ⟨rfl, rfl⟩, fun h => absurd hspoke h, fun h => absurd hspoke h, fun h => absurd hspoke h⟩
    · rw [ownerSpoke_of_not (howner.1 ▸ hspoke)]
      refine ⟨howner.2, fun h => absurd h hspoke, fun _ => howner.1, fun _ hserial hc hv hne => ?_, fun _ hsame => ?_⟩
      · rcases adopt_of_older (c := c) holder with ⟨h, -⟩ | ⟨-, hno⟩
        · rw [h]
        · exact absurd ⟨hserial, (differ_iff c a.viewClass).mpr ⟨hc, hv, hne⟩⟩ hno
      · rcases adopt_of_older (c := c) holder with ⟨-, hserial, hdiffer⟩ | ⟨h, -⟩
        · exact absurd ⟨hserial, (differ_iff c a.viewClass).mp hdiffer⟩ hsame
        · rw [h]

/-- Only the view counts for what was taken into it. -/
theorem viewTaken_congr {c : Option GasClass} {serial : Byte} {p q : Prop} {a b d : Agent} (hspoke : p ↔ q)
    (hview : d.viewClass = b.viewClass) (hserial : d.viewSerial = b.viewSerial) (howner : d.owner = b.owner)
    (h : ViewTaken c serial p a b) : ViewTaken c serial q a d := by
  obtain rfl := propext hspoke
  unfold ViewTaken at h ⊢
  rwa [hview, hserial, howner]

theorem loseReservation_view (a : Agent) :
    a.loseReservation.viewClass = a.viewClass ∧ a.loseReservation.viewSerial = a.viewSerial ∧ a.loseReservation.owner = a.owner := by
  unfold Agent.loseReservation
  split <;> exact ⟨rfl, rfl, rfl⟩

theorem hear_viewTaken {f : Frame} {c : Option GasClass} {serial : Byte} {ended : Prop} (hcarries : f.Carries c serial ended)
    (src : Address) (a : Agent) : ViewTaken c serial (a.owner = some src ∧ ended) a (a.hear src f) := by
  rcases hcarries with ⟨b, rfl, rfl, rfl, rfl⟩ | ⟨x, rfl, rfl, rfl⟩ | ⟨rfl, rfl⟩
  · exact viewTaken_congr (by simp) rfl rfl rfl (viewTaken_adopt_ownerSpoke _ _ src (decide (b.dstate ≠ .purging)) a)
  · obtain ⟨hview, hserial, howner⟩ := loseReservation_view (a.adopt (some x) serial)
    have hsilent : (a.adopt (some x) serial).ownerSpoke src false = a.adopt (some x) serial := ownerSpoke_of_not (by simp)
    have htaken := viewTaken_adopt_ownerSpoke (some x) serial src false a
    rw [hsilent] at htaken
    exact viewTaken_congr (by simp) hview hserial howner htaken
  · exact viewTaken_congr (by simp) rfl rfl rfl (viewTaken_adopt_ownerSpoke c serial src true a)

theorem hear_onlyView (src : Address) (f : Frame) (a : Agent) : a.OnlyView (a.hear src f) := by
  have hadopt : ∀ c v, a.OnlyView (a.adopt c v) := fun c v => by
    unfold Agent.adopt
    (repeat' split) <;> exact ⟨rfl, rfl, fun d => by cases d <;> exact ⟨rfl, rfl⟩, rfl⟩
  have hspoke : ∀ b spoke, a.OnlyView b → a.OnlyView (b.ownerSpoke src spoke) := fun b spoke hb => by
    unfold Agent.ownerSpoke Agent.dropOwner
    split
    · exact ⟨hb.state, hb.sought, hb.outputs, hb.purge⟩
    · exact hb
  cases f with
  | beacon b => exact hspoke _ _ (hadopt _ _)
  | flowOn c v =>
    have hb := hadopt (some c) v
    unfold Agent.hear Agent.loseReservation
    dsimp only
    split
    · exact ⟨hb.state, hb.sought, hb.outputs, hb.purge⟩
    · exact hb
  | purgeDone c v => exact hspoke _ _ (hadopt _ _)
  | _ => exact ⟨rfl, rfl, fun _ => ⟨rfl, rfl⟩, rfl⟩

theorem ownerSpoke_reserved (src : Address) (spoke : Bool) (a : Agent) : (a.ownerSpoke src spoke).reserved = a.reserved := by
  unfold Agent.ownerSpoke
  split <;> rfl

theorem adopt_reserved (c : Option GasClass) (v : Byte) (a : Agent) : (a.adopt c v).reserved = a.reserved := by
  unfold Agent.adopt
  (repeat' split) <;> rfl

/-- In LISTEN_PURGE a FLOW_ON takes the reservation, and no other frame that carries a view does (R124). -/
theorem hear_reserved {f : Frame} {c : Option GasClass} {serial : Byte} {ended : Prop} (hcarries : f.Carries c serial ended)
    (src : Address) {a : Agent} (hlistens : a.dstate = .listenPurge) :
    ((∃ x, f = .flowOn x serial) → (a.hear src f).reserved = false) ∧
      ((∀ x, f ≠ .flowOn x serial) → (a.hear src f).reserved = a.reserved) := by
  rcases hcarries with ⟨b, rfl, -, -, -⟩ | ⟨x, rfl, -, -⟩ | ⟨rfl, -⟩
  · exact ⟨fun ⟨x, h⟩ => by (cases h), fun _ => (ownerSpoke_reserved ..).trans (adopt_reserved ..)⟩
  · refine ⟨fun _ => ?_, fun h => absurd rfl (h x)⟩
    have hstate : (a.adopt (some x) serial).dstate = .listenPurge := (adopt_sameButView _ _ a).1.trans hlistens
    unfold Agent.hear Agent.loseReservation
    dsimp only
    rw [if_pos hstate]
  · exact ⟨fun ⟨x, h⟩ => by (cases h), fun _ => (ownerSpoke_reserved ..).trans (adopt_reserved ..)⟩

theorem endedBy_iff {f : Frame} {c : Option GasClass} {serial : Byte} {ended : Prop} (hcarries : f.Carries c serial ended) (a : Agent) :
    a.endedBy f = true ↔
      (∃ x, f = .flowOn x serial) ∨ newer serial a.viewSerial = true ∨
        serial = a.viewSerial ∧ ∃ x y, c = some x ∧ a.viewClass = some y ∧ x ≠ y := by
  rcases hcarries with ⟨b, rfl, rfl, rfl, -⟩ | ⟨x, rfl, -, -⟩ | ⟨rfl, -⟩
  · show a.wouldAdopt b.viewClass b.viewSerial = true ↔ _
    rw [wouldAdopt_iff]
    simp
  · simp [Agent.endedBy]
  · show a.wouldAdopt c serial = true ↔ _
    rw [wouldAdopt_iff]
    simp

theorem isFlowOn_iff {f : Frame} {c : Option GasClass} {serial : Byte} {ended : Prop} (hcarries : f.Carries c serial ended) :
    f.isFlowOn = true ↔ ∃ x, f = .flowOn x serial := by
  rcases hcarries with ⟨b, rfl, -, -, -⟩ | ⟨x, rfl, -, -⟩ | ⟨rfl, -⟩ <;> simp [Frame.isFlowOn]

/-- Without an owner and with the view UNKNOWN, a frame is taken by its serial alone. -/
theorem hear_of_unknown {f : Frame} {c : Option GasClass} {serial : Byte} {ended : Prop} (hcarries : f.Carries c serial ended)
    (src : Address) {a : Agent} (howner : a.owner = none) (hview : a.viewClass = none) (hstate : a.dstate ≠ .listenPurge) :
    a.hear src f = if newer serial a.viewSerial then { a with viewClass := c, viewSerial := serial, owner := none } else a := by
  have hadopt : a.adopt c serial = if newer serial a.viewSerial then { a with viewClass := c, viewSerial := serial, owner := none } else a := by
    unfold Agent.adopt
    rw [hview]
    cases c <;> rfl
  have hsilent : ∀ spoke, (a.adopt c serial).ownerSpoke src spoke = a.adopt c serial := fun spoke => by
    refine ownerSpoke_of_not fun h => ?_
    rw [hadopt] at h
    cases hnewer : newer serial a.viewSerial <;> simp [hnewer, howner] at h
  have hkept : (a.adopt c serial).loseReservation = a.adopt c serial :=
    if_neg (by rw [(adopt_sameButView c serial a).1]; exact hstate)
  rw [← hadopt]
  rcases hcarries with ⟨b, rfl, rfl, rfl, -⟩ | ⟨x, rfl, rfl, -⟩ | ⟨rfl, -⟩
  · exact hsilent _
  · exact hkept
  · exact hsilent _

/-! ### A frame that carries a view, outside inhibit (R113, R127) -/

theorem abortIf_inhibited (c conflictHold : Bool) (s : State) : (s.abortIf c conflictHold).inhibited = s.inhibited :=
  (moves_abortIf c conflictHold s).inhibited

theorem handOn_of_carries {f : Frame} {c : Option GasClass} {serial : Byte} {ended : Prop} (hcarries : f.Carries c serial ended)
    (src : Address) (n : SetNews) {s : State} (hfree : s.inhibited = false) :
    s.handOn src f n = (s.abortIf (s.agent.endedBy f) f.isFlowOn).takeView n ((s.abortIf (s.agent.endedBy f) f.isFlowOn).agent.hear src f) := by
  rcases hcarries with ⟨b, rfl, -, -, -⟩ | ⟨x, rfl, -, -⟩ | ⟨rfl, -⟩
  · rfl
  · refine inhibitAnswer_eq_self ?_ x
    exact (moves_takeView n _ _).inhibited.trans ((abortIf_inhibited true true s).trans hfree)
  · rfl

theorem abortIf_eq_self {s : State} {c : Bool} (hnot : ¬(s.agent.dstate = .purging ∧ c = true)) (conflictHold : Bool) :
    s.abortIf c conflictHold = s := if_neg hnot

/-- The agent after a frame that ends its purge. -/
theorem handOn_purge_ends {f : Frame} {c : Option GasClass} {serial : Byte} {ended : Prop} (hcarries : f.Carries c serial ended)
    (src : Address) (n : SetNews) {s : State} (hfree : s.inhibited = false) (hpurging : s.agent.dstate = .purging)
    (hends : s.agent.endedBy f = true) :
    ∃ a : Agent, a.dstate = .backoff ∧ a.purgeV = false ∧ a.owner = none ∧ a.viewClass = none ∧ a.viewSerial = s.agent.purgeSerial ∧
      (f.isFlowOn = true → a.heldH = .running 2000 ∧ a.heldK = .running 2000 ∧ a.reasonH = s.agent.reasonH ∧
        a.reasonK = s.agent.reasonK) ∧
      (s.handOn src f n).agent =
        if newer serial s.agent.purgeSerial then { a with viewClass := c, viewSerial := serial, owner := none } else a := by
  have haborts : s.abortIf (s.agent.endedBy f) f.isFlowOn = s.abortPurge f.isFlowOn true .backoff := if_pos ⟨hpurging, hends⟩
  have hagent := abortPurge_backoff_agent f.isFlowOn true s
  have hback : (s.abortPurge f.isFlowOn true .backoff).agent.dstate = .backoff := congrArg Agent.dstate hagent
  have howner : (s.abortPurge f.isFlowOn true .backoff).agent.owner = none := by rw [hagent]; cases f.isFlowOn <;> rfl
  have hview : (s.abortPurge f.isFlowOn true .backoff).agent.viewClass = none := by rw [hagent]; cases f.isFlowOn <;> rfl
  have hserial : (s.abortPurge f.isFlowOn true .backoff).agent.viewSerial = s.agent.purgeSerial := by
    rw [hagent]; cases f.isFlowOn <;> rfl
  have hstate : ((s.abortPurge f.isFlowOn true .backoff).agent.hear src f).dstate = .backoff := (hear_onlyView src f _).state.trans hback
  refine ⟨(s.abortPurge f.isFlowOn true .backoff).agent, hback, ?_, howner, hview, hserial, fun hflow => ?_, ?_⟩
  · rw [hagent]
    cases f.isFlowOn <;> exact rfl
  · rw [hagent, hflow]
    exact ⟨rfl, rfl, rfl, rfl⟩
  · rw [handOn_of_carries hcarries src n hfree, haborts, takeView_eq_setAgent (by simp [hstate]) (by simp [hstate]) (by simp [hstate]),
      State.setAgent_agent, hear_of_unknown hcarries src howner hview (by rw [hback]; decide), hserial]

/-! ### Frames at an agent in IDLE -/

/-- The view and the state of two agents agree. -/
structure Agent.SameView (a b : Agent) : Prop where
  state : b.dstate = a.dstate
  owner : b.owner = a.owner
  view : b.viewClass = a.viewClass
  serial : b.viewSerial = a.viewSerial

theorem inhibitAnswer_idle {s : State} (hidle : s.agent.dstate = .idle) (c : GasClass) :
    s.agent.SameView (s.inhibitAnswer c).agent := by
  unfold State.inhibitAnswer
  split
  · have hheld : (s.offerHoldOnly .hydro .inhibit).agent = s.agent.setHold .hydro := offer_agent ..
    have hstate : (s.offerHoldOnly .hydro .inhibit).agent.dstate = .idle := (congrArg Agent.dstate hheld).trans hidle
    unfold State.offerHold
    rw [holdEffect_eq_self (by simp [hstate]) (by simp [hstate]) (by simp [hstate]), hheld]
    exact ⟨rfl, rfl, rfl, rfl⟩
  · exact ⟨rfl, rfl, rfl, rfl⟩

theorem abortIf_of_idle {s : State} (hidle : s.agent.dstate = .idle) (c conflictHold : Bool) : s.abortIf c conflictHold = s :=
  abortIf_eq_self (by simp [hidle]) conflictHold

theorem takeView_of_idle {s : State} {a : Agent} (hidle : a.dstate = .idle) (n : SetNews) : s.takeView n a = s.setAgent a :=
  takeView_eq_setAgent (by simp [hidle]) (by simp [hidle]) (by simp [hidle]) n

/-- At an agent in IDLE a frame that carries a view does what it does to the view, and no more. -/
theorem handOn_carries_idle {f : Frame} {c : Option GasClass} {serial : Byte} {ended : Prop} (hcarries : f.Carries c serial ended)
    (src : Address) (n : SetNews) {s : State} (hidle : s.agent.dstate = .idle) :
    (s.agent.hear src f).SameView (s.handOn src f n).agent := by
  have hstate : (s.agent.hear src f).dstate = .idle := (hear_onlyView src f _).state.trans hidle
  have htaken : (s.abortIf (s.agent.endedBy f) f.isFlowOn).takeView n ((s.abortIf (s.agent.endedBy f) f.isFlowOn).agent.hear src f) =
      s.setAgent (s.agent.hear src f) := by
    rw [abortIf_of_idle hidle, takeView_of_idle hstate]
  rcases hcarries with ⟨b, rfl, -, -, -⟩ | ⟨x, rfl, -, -⟩ | ⟨rfl, -⟩
  · exact (congrArg State.agent htaken) ▸ ⟨rfl, rfl, rfl, rfl⟩
  · have hanswer := inhibitAnswer_idle (s := s.setAgent (s.agent.hear src (.flowOn x serial))) hstate x
    rw [← htaken] at hanswer
    have hagent := congrArg State.agent htaken
    rw [hagent] at hanswer
    exact hanswer
  · exact (congrArg State.agent htaken) ▸ ⟨rfl, rfl, rfl, rfl⟩

theorem enterPause_agent_of_idle {s : State} (hidle : s.agent.dstate = .idle) (c : PauseCause) : (s.enterPause c).agent = s.agent := by
  by_cases hpaused : s.lc.paused = true
  · rw [enterPause_of_paused hpaused]
    rfl
  · rw [enterPause_of_run (Bool.eq_false_of_not_eq_true hpaused), (tellPause_parts _).2.1]
    have hports : (s.pausedWith c).pausePorts.agent = s.agent := by simp
    rw [agentStop_of_idle (by rw [hports]; exact hidle), hports]

theorem takeInhibit_agent_of_idle {s : State} (hidle : s.agent.dstate = .idle) (seconds : Nat) : (s.takeInhibit seconds).agent = s.agent := by
  cases hinhibit : s.inhibited
  · obtain ⟨-, hagent, -⟩ := inhibitBegins_frame (.running (max s.lc.inhibit.left (seconds * 1000))) s
    rw [takeInhibit_of_free hinhibit]
    unfold State.agentInhibit
    split
    · rw [agentStop_of_idle (by rw [hagent]; exact hidle), hagent]
    · exact hagent
  · have hlonger : s.takeInhibit seconds = s.setLc { s.lc with inhibit := .running (max s.lc.inhibit.left (seconds * 1000)) } :=
      if_pos hinhibit
    exact (congrArg State.agent hlonger).trans rfl

/-- A PURGE_START at an agent in IDLE: the source owns the header, the view UNKNOWN (R114). -/
theorem agentPurgeStart_idle {s : State} (hidle : s.agent.dstate = .idle) (src : Address) (c : GasClass) (n : SetNews) :
    (s.agent.ownedBy src).SameView (s.agentPurgeStart src c n).agent := by
  have hkeeps : (s.agent.ownedBy src).loseReservation = s.agent.ownedBy src := if_neg (by simp [Agent.ownedBy, hidle])
  have hact : s.agentPurgeStart src c n = (s.setAgent (s.agent.ownedBy src)).inhibitAnswer c := by
    unfold State.agentPurgeStart
    dsimp only
    rw [abortIf_of_idle hidle, if_neg (by simp [hidle])]
    exact congrArg (State.inhibitAnswer c) ((congrArg (fun a => s.takeView n a) hkeeps).trans (takeView_of_idle (a := s.agent.ownedBy src) hidle n))
  rw [hact]
  exact inhibitAnswer_idle (s := s.setAgent (s.agent.ownedBy src)) hidle c

theorem noteIntent_of_idle {a : Agent} (hidle : a.dstate = .idle) (own src : Address) (u : Purpose) (c : GasClass) (key : Nat) :
    a.noteIntent own src u c key = a := by
  unfold Agent.noteIntent
  rw [hidle]
  cases u <;> rfl

/-- The other frames leave the view of an agent in IDLE as it is. -/
theorem handOn_idle_sameView {f : Frame} (src : Address) (n : SetNews) {s : State} (hidle : s.agent.dstate = .idle)
    (hother : (∃ u c k, f = .intent u c k) ∨ (∃ c, f = .flowOff c) ∨ (∃ h r, f = .hold h r) ∨ (∃ k, f = .alarm k) ∨
      ∃ c, f = .pause c) : s.agent.SameView (s.handOn src f n).agent := by
  have htold : s.tellSets n = s := tellSets_eq_self_of_idle hidle n
  rcases hother with ⟨u, c, k, rfl⟩ | ⟨c, rfl⟩ | ⟨h, r, rfl⟩ | ⟨k, rfl⟩ | ⟨c, rfl⟩
  · have hact : s.handOn src (.intent u c k) n = s.inhibitAnswer c := by
      show ((s.setAgent (s.agent.noteIntent s.cfg.address src u c k)).tellSets n).inhibitAnswer c = _
      rw [noteIntent_of_idle hidle]
      exact congrArg (State.inhibitAnswer c) htold
    rw [hact]
    exact inhibitAnswer_idle hidle c
  · exact (congrArg State.agent htold) ▸ ⟨rfl, rfl, rfl, rfl⟩
  · obtain ⟨hdstate, -, -⟩ := recordHold_dstate h r s.agent
    have hstate : (s.setAgent ((s.agent.setHold h).recordReason h r)).agent.dstate = .idle := hdstate.trans hidle
    have hact : s.handOn src (.hold h r) n = s.setAgent ((s.agent.setHold h).recordReason h r) := by
      show ((s.setAgent ((s.agent.setHold h).recordReason h r)).holdEffect h).tellSets n = _
      rw [holdEffect_eq_self (by rw [hstate]; decide) (by rw [hstate]; decide) (by rw [hstate]; decide),
        tellSets_eq_self_of_idle hstate]
    rw [hact]
    cases h <;> exact ⟨rfl, rfl, rfl, rfl⟩
  · have hagent : (s.handOn src (.alarm k) n).agent = s.agent := by
      show (((s.tellSets n).takeInhibit k).raise .hydroAlarm).agent = _
      rw [htold]
      exact takeInhibit_agent_of_idle hidle k
    rw [hagent]
    exact ⟨rfl, rfl, rfl, rfl⟩
  · have hagent : (s.handOn src (.pause c) n).agent = s.agent := by
      show (((s.tellSets n).setLc { (s.tellSets n).lc with lastPause := some c }).enterPause .line).agent = _
      rw [htold]
      exact enterPause_agent_of_idle (s := s.setLc { s.lc with lastPause := some c }) hidle .line
    rw [hagent]
    exact ⟨rfl, rfl, rfl, rfl⟩

/-- What a frame that carries a view does at an agent in IDLE. -/
theorem handOn_idle_viewTaken {f : Frame} {c : Option GasClass} {serial : Byte} {ended spoke : Prop} (hcarries : f.Carries c serial ended)
    (src : Address) (n : SetNews) {s : State} (hidle : s.agent.dstate = .idle) (hspoke : (s.agent.owner = some src ∧ ended) ↔ spoke) :
    (s.handOn src f n).agent.dstate = .idle ∧ ViewTaken c serial spoke s.agent (s.handOn src f n).agent := by
  have hsame := handOn_carries_idle hcarries src n hidle
  exact ⟨hsame.state.trans ((hear_onlyView src f _).state.trans hidle),
    viewTaken_congr hspoke hsame.view hsame.serial hsame.owner (hear_viewTaken hcarries src s.agent)⟩

/-! ### O23 -/

theorem view_at_idle {i : Instr} {src : Address} {f : Frame} {s : State} (hhears : s.hears i src f) (hidle : s.agent.dstate = .idle) :
    ∃ u : State, exec i s = .next u.finish ∧ (f ≠ .resume → u.agent.dstate = .idle) ∧
      (match (generalizing := false) f with
      | .beacon b => ViewTaken b.viewClass b.viewSerial (s.agent.owner = some src ∧ b.dstate ≠ .purging) s.agent u.agent
      | .flowOn c serial => ViewTaken (some c) serial False s.agent u.agent
      | .purgeDone c serial => ViewTaken c serial (s.agent.owner = some src) s.agent u.agent
      | .purgeStart _ _ => u.agent.owner = some src ∧ u.agent.viewClass = none ∧ u.agent.viewSerial = s.agent.viewSerial
      | .intent _ _ _ | .flowOff _ | .hold _ _ | .alarm _ | .pause _ =>
        u.agent.owner = s.agent.owner ∧ u.agent.viewClass = s.agent.viewClass ∧ u.agent.viewSerial = s.agent.viewSerial
      | .resume => True) := by
  refine ⟨_, exec_of_hears hhears, ?_⟩
  have hother : ((∃ u c k, f = .intent u c k) ∨ (∃ c, f = .flowOff c) ∨ (∃ h r, f = .hold h r) ∨ (∃ k, f = .alarm k) ∨
      ∃ c, f = .pause c) → s.agent.SameView ((s.heard src f).handOn src f (s.newsOf src f)).agent :=
    handOn_idle_sameView (s := s.heard src f) src (s.newsOf src f) hidle
  have hcarried : ∀ {c : Option GasClass} {serial : Byte} {ended spoke : Prop}, f.Carries c serial ended →
      ((s.agent.owner = some src ∧ ended) ↔ spoke) →
      ((s.heard src f).handOn src f (s.newsOf src f)).agent.dstate = .idle ∧
        ViewTaken c serial spoke s.agent ((s.heard src f).handOn src f (s.newsOf src f)).agent := fun hcarries hspoke =>
    handOn_idle_viewTaken (s := s.heard src f) hcarries src (s.newsOf src f) hidle hspoke
  cases f with
  | beacon b =>
    obtain ⟨hstate, hview⟩ := hcarried (.inl ⟨b, rfl, rfl, rfl, rfl⟩) Iff.rfl
    exact ⟨fun _ => hstate, hview⟩
  | flowOn c serial =>
    obtain ⟨hstate, hview⟩ := hcarried (spoke := False) (.inr (.inl ⟨c, rfl, rfl, rfl⟩)) (by simp)
    exact ⟨fun _ => hstate, hview⟩
  | purgeDone c serial =>
    obtain ⟨hstate, hview⟩ := hcarried (.inr (.inr ⟨rfl, rfl⟩)) (and_iff_left trivial)
    exact ⟨fun _ => hstate, hview⟩
  | purgeStart c serial =>
    obtain ⟨hstate, howner, hview, hserial⟩ := agentPurgeStart_idle (s := s.heard src (.purgeStart c serial)) hidle src c
      (s.newsOf src (.purgeStart c serial))
    exact ⟨fun _ => hstate.trans hidle, howner, hview, hserial⟩
  | intent u c k =>
    obtain ⟨hstate, howner, hview, hserial⟩ := hother (.inl ⟨u, c, k, rfl⟩)
    exact ⟨fun _ => hstate.trans hidle, howner, hview, hserial⟩
  | flowOff c =>
    obtain ⟨hstate, howner, hview, hserial⟩ := hother (.inr (.inl ⟨c, rfl⟩))
    exact ⟨fun _ => hstate.trans hidle, howner, hview, hserial⟩
  | hold h r =>
    obtain ⟨hstate, howner, hview, hserial⟩ := hother (.inr (.inr (.inl ⟨h, r, rfl⟩)))
    exact ⟨fun _ => hstate.trans hidle, howner, hview, hserial⟩
  | alarm k =>
    obtain ⟨hstate, howner, hview, hserial⟩ := hother (.inr (.inr (.inr (.inl ⟨k, rfl⟩))))
    exact ⟨fun _ => hstate.trans hidle, howner, hview, hserial⟩
  | pause c =>
    obtain ⟨hstate, howner, hview, hserial⟩ := hother (.inr (.inr (.inr (.inr ⟨c, rfl⟩))))
    exact ⟨fun _ => hstate.trans hidle, howner, hview, hserial⟩
  | resume => exact ⟨fun h => absurd rfl h, trivial⟩

/-- Outside PURGING the agent takes the view and follows it. -/
theorem handOn_carries_follows {f : Frame} {c : Option GasClass} {serial : Byte} {ended : Prop} (hcarries : f.Carries c serial ended)
    (src : Address) {d : GasClass} {s : State} (hfree : s.inhibited = false) (hstate : s.agent.dstate ≠ .purging)
    (hsought : s.agent.sought = some d) (hroom : s.HasRoom 1) :
    ViewTaken c serial (s.agent.owner = some src ∧ ended) s.agent ((s.heard src f).handOn src f (s.newsOf src f)).agent ∧
      s.ViewFollowed d ((s.heard src f).handOn src f (s.newsOf src f)) ∧
      (s.agent.dstate = .listenPurge →
        ((s.heard src f).handOn src f (s.newsOf src f)).agent.reserved = (s.agent.hear src f).reserved) := by
  have hact : (s.heard src f).handOn src f (s.newsOf src f) = (s.heard src f).takeView (s.newsOf src f) (s.agent.hear src f) := by
    rw [handOn_of_carries hcarries src (s.newsOf src f) (s := s.heard src f) hfree,
      abortIf_eq_self (s := s.heard src f) (fun h => hstate h.1)]
    rfl
  have honly := hear_onlyView src f s.agent
  obtain ⟨hview, hserial, howner, -⟩ := takeView_view (s.newsOf src f) (s.agent.hear src f) (s.heard src f)
  rw [hact]
  refine ⟨viewTaken_congr Iff.rfl hview hserial howner (hear_viewTaken hcarries src s.agent),
    viewFollowed_takeView (s := s.setLine (s.line.setFramer .hunting)) rfl hsought honly ⟨hroom.loaded, hroom.clash, hroom.room⟩,
    fun hlistens => ?_⟩
  have hstays := honly.state.trans hlistens
  rw [takeView_eq_setAgent (by simp [hstays]) (by simp [hstays]) (by simp [hstays])]
  rfl

/-- A frame that carries no newer and no contradicting view leaves a purge to go on. -/
theorem handOn_purge_goes_on {f : Frame} {c : Option GasClass} {serial : Byte} {ended : Prop} (hcarries : f.Carries c serial ended)
    (src : Address) (n : SetNews) {s : State} (hfree : s.inhibited = false) (hpurging : s.agent.dstate = .purging)
    (hgoes : s.agent.endedBy f = false) :
    (s.handOn src f n).agent.dstate = .purging ∧ (s.handOn src f n).agent.purgeV = s.agent.purgeV := by
  have honly := hear_onlyView src f s.agent
  have hstays := honly.state.trans hpurging
  have hact : s.handOn src f n = s.setAgent (s.agent.hear src f) := by
    rw [handOn_of_carries hcarries src n hfree, hgoes, abortIf_eq_self (by simp)]
    exact takeView_eq_setAgent (by simp [hstays]) (by simp [hstays]) (by simp [hstays]) _
  rw [hact]
  exact ⟨hstays, honly.purge⟩

/-! ### O23 asks that every frame ends a purge -/

/-- A station in LOADED whose agent purges, with the view at serial 0. -/
def State.purgesAtSerialZero : State :=
  { State.reset with
    loader := { State.reset.loader with state := .loaded }
    agent := { State.reset.agent with dstate := .purging, sought := some .halo, purgeV := true } }

/-- A BEACON of an IDLE peer whose view is UNKNOWN at serial 255, which is older than 0. -/
def olderBeacon : BeaconPayload := ⟨0, 0, 0, 0, 255, 0, 0, 0, 0⟩

/-- The frame `olderBeacon` reads as. -/
def olderView : Beacon := ⟨.idle, none, 0, none, 255, false, 0, 0, 0, false, false, false, false⟩

theorem hears_olderBeacon : State.purgesAtSerialZero.hears (.beacon 1 olderBeacon) 1 (.beacon olderView) := by
  refine ⟨?_, rfl, ?_⟩ <;> decide

/-- Refutes O23: in the clause on a PURGING agent the arrow stands inside the scope of `∃ x y`, so that the clause asserts of
every frame that it is FLOW_ON, is newer, or carries the view's own serial. A BEACON with an older serial is none of these, and
leaves the purge to go on (`handOn_purge_goes_on`). -/
theorem not_framesMoveTheHeaderView : ¬ Obligations.FramesMoveTheHeaderView := fun ⟨_, _, hmoves⟩ => by
  obtain ⟨u, -, -, -, hpurging⟩ := hmoves (.beacon 1 olderBeacon) 1 (.beacon olderView) none 255 True .halo .purgesAtSerialZero
    hears_olderBeacon (.inl ⟨olderView, rfl, rfl, rfl, (eq_true (by decide)).symm⟩) rfl (by decide) rfl rfl (by decide)
  rcases (hpurging rfl).1 with ⟨x, hflow⟩ | hnewer | ⟨hserial, -⟩
  · cases hflow
  · exact absurd hnewer (by decide)
  · exact absurd hserial (by decide)

end Sys2Proof.Machine
end

section
/-! PROOFS. The input lines: their levels, filters and edges (O36). -/

namespace Sys2Proof.Machine

/-! ### One line of the field unit -/

theorem setInput_setInput (l : InputLine) (i j : LineInput) (x : FieldUnit) : (x.setInput l i).setInput l j = x.setInput l j := by
  cases l with
  | clamp p => cases p <;> rfl
  | confirm p => cases p <;> rfl
  | release p => cases p <;> rfl
  | _ => rfl

theorem input_setInput_self (l : InputLine) (i : LineInput) (x : FieldUnit) : (x.setInput l i).input l = i := by
  cases l with
  | clamp p => exact quad_get_set_self ..
  | confirm p => exact quad_get_set_self ..
  | release p => exact quad_get_set_self ..
  | _ => rfl

theorem setInput_input (l : InputLine) (x : FieldUnit) : x.setInput l (x.input l) = x := by
  cases l with
  | clamp p => cases p <;> rfl
  | confirm p => cases p <;> rfl
  | release p => cases p <;> rfl
  | _ => rfl

theorem setInput_sameBut (l : InputLine) (i : LineInput) (s : State) : s.SameBut [.field] (s.setInput l i) := by
  rw [sameBut_iff]
  simp [State.setInput]

theorem filterMs_setInput (l k : InputLine) (i : LineInput) (s : State) : (s.setInput k i).filterMs l = s.filterMs l := rfl

/-! ### The level turns (R161 to R163) -/

theorem change_eq_turned {i : LineInput} {b : Bool} (hlevel : i.level = some b) (hpending : i.isPending = false) :
    i.change = i.turned b := by
  unfold LineInput.change LineInput.turned LineInput.setLatch
  rw [hlevel]
  dsimp only
  rw [if_neg (by simp [hpending])]
  cases i.pauseRec with
  | none => simp only [Bool.not_not]
  | some r => rfl

theorem change_of_pending {i : LineInput} (hpending : i.isPending = true) : i.change = i := by
  unfold LineInput.change
  split
  · rfl
  · exact if_pos hpending

/-- The station with the pin moved, the level not yet judged. -/
abbrev State.pinMoved (l : InputLine) (high : Bool) (s : State) : State := s.setInput l { s.field.input l with pin := high }

theorem movePin_field (l : InputLine) (high : Bool) (s : State) :
    (s.movePin l high).field = s.field.setInput l ((s.movePin l high).field.input l) := by
  have hmoved : (s.pinMoved l high).field = s.field.setInput l ((s.pinMoved l high).field.input l) := by
    rw [show (s.pinMoved l high).field.input l = _ from input_setInput_self ..]
    rfl
  unfold State.movePin
  dsimp only
  split
  · rw [show ((s.pinMoved l high).setInput l ((s.pinMoved l high).field.input l).change).field.input l = _ from
      input_setInput_self ..]
    exact setInput_setInput ..
  · exact hmoved

theorem movePin_sameBut (l : InputLine) (high : Bool) (s : State) : s.SameBut [.field] (s.movePin l high) :=
  sameBut_ite (sameBut_trans (setInput_sameBut l _ s) (setInput_sameBut l _ _) (by simp) (by simp)) (setInput_sameBut l _ s)

theorem movePin_turns {l : InputLine} {high b : Bool} {s : State} (hlevel : (s.field.input l).level = some b)
    (hpending : (s.field.input l).isPending = false) (hfilter : s.filterMs l = 0) (hnow : (s.pinMoved l high).lineNow l = !b) :
    (s.movePin l high).field.input l = ((s.pinMoved l high).field.input l).turned b := by
  have hmoved : (s.pinMoved l high).field.input l = { s.field.input l with pin := high } := input_setInput_self ..
  have hturned : ((s.pinMoved l high).field.input l).change = ((s.pinMoved l high).field.input l).turned b :=
    change_eq_turned (by rw [hmoved]; exact hlevel) (by rw [hmoved]; exact hpending)
  have hlevel' : ((s.pinMoved l high).field.input l).level = some (!(s.pinMoved l high).lineNow l) := by
    rw [hnow, hmoved, Bool.not_not]
    exact hlevel
  have hmove : s.movePin l high = (s.pinMoved l high).setInput l ((s.pinMoved l high).field.input l).change :=
    if_pos ⟨hfilter, hlevel'⟩
  rw [hmove, ← hturned]
  exact input_setInput_self ..

theorem movePin_stays {l : InputLine} {high : Bool} {s : State}
    (hstays : s.filterMs l ≠ 0 ∨ (s.field.input l).isPending = true ∨ (s.field.input l).level = none ∨
      (s.field.input l).level = some ((s.pinMoved l high).lineNow l)) :
    (s.movePin l high).field.input l = (s.pinMoved l high).field.input l := by
  have hmoved : (s.pinMoved l high).field.input l = { s.field.input l with pin := high } := input_setInput_self ..
  unfold State.movePin
  dsimp only
  split
  next hmoves =>
    obtain ⟨hfilter, hlevel⟩ := hmoves
    rw [hmoved] at hlevel
    rcases hstays with h | hpending | hnone | hnow
    · exact absurd hfilter h
    · have hsame : ((s.pinMoved l high).field.input l).change = (s.pinMoved l high).field.input l :=
        change_of_pending (by rw [hmoved]; exact hpending)
      rw [hsame]
      exact input_setInput_self ..
    · exact absurd (hnone.symm.trans hlevel) (by simp)
    · exact absurd (hnow.symm.trans hlevel) (by simp)
  next => rfl

/-! ### What is due of the lines (R161, R162) -/

theorem mem_allLines (l : InputLine) : l ∈ allLines := by
  cases l with
  | clamp p => cases p <;> simp [allLines, PortId.all]
  | confirm p => cases p <;> simp [allLines, PortId.all]
  | release p => cases p <;> simp [allLines, PortId.all]
  | _ => simp [allLines]

theorem dueInputs_subset {s : State} {i : Instr} (h : i ∈ s.dueInputs) : i ∈ s.dueNow :=
  List.mem_append_left _ (List.mem_append_right _ h)

theorem edgeCommand_due {s : State} {l : InputLine} {b : Bool} (hlatch : (s.field.input l).latch b = true) :
    edgeCommand l b ∈ s.dueNow := by
  refine dueInputs_subset (List.mem_flatMap.mpr ⟨l, mem_allLines l, List.mem_append_left _ ?_⟩)
  cases b
  · have hset : (s.field.input l).deassertLatch = true := hlatch
    simp [hset]
  · have hset : (s.field.input l).assertLatch = true := hlatch
    simp [hset]

theorem settles_due {s : State} {l : InputLine} (hfilter : (s.field.input l).filter = .running 0) :
    Instr.debounceChange ⟨l, .settles⟩ ∈ s.dueNow :=
  dueInputs_subset (List.mem_flatMap.mpr ⟨l, mem_allLines l, List.mem_append_right _ (mem_dueIf hfilter _)⟩)

theorem edgeOf_edgeCommand (l : InputLine) (b : Bool) : edgeOf (edgeCommand l b) = some (l, b) := by
  cases l <;> cases b <;> rfl

/-! ### What a line shows (R161, R166) -/

theorem readback_shows (c : GasClass) (s : State) :
    s.filterMs (readbackLine c) = 2 ∧ s.lineNow (readbackLine c) = (!(s.field.input (readbackLine c)).pin || s.agent.sel c) := by
  cases c
  · refine ⟨rfl, ?_⟩
    show (!((s.field.input .selH).pin && !s.agent.selH)) = _
    rw [Bool.not_and, Bool.not_not]
    rfl
  · refine ⟨rfl, ?_⟩
    show (!((s.field.input .selK).pin && !s.agent.selK)) = _
    rw [Bool.not_and, Bool.not_not]
    rfl

theorem configured_shows {l : InputLine} (hl : l ∉ [InputLine.selH, InputLine.selK]) (s : State) :
    s.filterMs l = s.cfg.debounceMs ∧ s.lineNow l = ((s.field.input l).pin ^^ s.cfg.polarities.getLsbD (lineNumber l)) := by
  have hfixed : fixedLow l = false := by cases l <;> simp_all [fixedLow]
  have hwire : s.wire l = (s.field.input l).pin := by cases l <;> simp_all [State.wire]
  refine ⟨if_neg (by simp [hfixed]), ?_⟩
  unfold State.lineNow levelOf
  rw [hwire, hfixed]
  cases s.cfg.polarities.getLsbD (lineNumber l) <;> cases (s.field.input l).pin <;> rfl

/-! ### Edges that only a level takes -/

theorem portEdge_of_used {p : PortId} {s : State} (hused : (s.port p).state ≠ .unused) (level : Port → Port) (act : State → State) :
    s.portEdge p level act = act (s.modPort p level) := if_neg hused

theorem edgeTaken_port (l : InputLine) (s : State) (p : PortId) : (s.edgeTaken l).port p = s.port p :=
  port_eq_of_sameBut (edgeTaken_sameBut l s) (by simp) p

theorem modPort_sameBut (p : PortId) (f : Port → Port) (s : State) : s.SameBut [.ports] (s.modPort p f) := by
  rw [sameBut_iff]
  simp

/-- Settles O36: the level that follows its line, what is due of it, and the edges that change a level alone. -/
theorem levelsFollowTheirLines : Obligations.LevelsFollowTheirLines := fun s => by
  refine ⟨fun l high t ht => ?pin, fun l b n e hlevel hpending hfilter he => ?settles,
    fun l b hlatch => ⟨edgeOf_edgeCommand l b, edgeCommand_due hlatch⟩, fun l hfilter => settles_due hfilter,
    fun c => readback_shows c s, fun l hl => configured_shows hl s, fun p hlatch hused => ?release, fun c hlatch => ?readback,
    fun hlatch => ?estop⟩
  case pin =>
    subst ht
    exact ⟨s.movePin l high, rfl, movePin_sameBut l high s, movePin_field l high s,
      fun b hlevel hpending hfilter hnow => movePin_turns hlevel hpending hfilter hnow, fun hstays => movePin_stays hstays⟩
  case settles =>
    subst he
    have hinput : (s.elapse n).field.input l = (s.field.input l).elapse n := elapse_input n s.field l
    have hturned : ((s.elapse n).field.input l).change = ((s.elapse n).field.input l).turned b :=
      change_eq_turned (by rw [hinput]; exact hlevel) (by rw [hinput]; exact hpending)
    refine ⟨(s.elapse n).setInput l ((s.elapse n).field.input l).change, ?_, setInput_sameBut l _ _, ?_⟩
    · show Host.Outcome.next (State.finish (s.onExpiry (s.field.input l).filter _)) = _
      rw [hfilter]
      rfl
    · rw [← hturned]
      rfl
  case release =>
    have hused' : ((s.edgeTaken (.release p)).port p).state ≠ .unused := by rwa [edgeTaken_port]
    refine ⟨(s.edgeTaken (.release p)).modPort p fun x => { x with release := false }, ?_,
      sameBut_trans (edgeTaken_sameBut _ s) (modPort_sameBut p _ _) (by simp) (by simp), ?_, rfl, ?_⟩
    · show Host.Outcome.next (State.finish (s.takeEdge (.release p) false _)) = _
      rw [takeEdge_of_latch (l := .release p) (b := false) hlatch, portEdge_of_used hused']
    · exact samePortsBut_trans (fun q _ => edgeTaken_port _ s q) (modPort_samePortsBut p _ _)
    · rw [modPort_port_self, edgeTaken_port]
  case readback =>
    refine ⟨(s.edgeTaken (readbackLine c)).setAgent { s.agent with conflict := false }, ?_,
      sameBut_trans (edgeTaken_sameBut _ s) (setAgent_sameBut _ _) (by simp) (by simp), rfl, rfl⟩
    show Host.Outcome.next (State.finish (s.takeEdge (readbackLine c) false _)) = _
    rw [takeEdge_of_latch (l := readbackLine c) (b := false) hlatch]
    rfl
  case estop =>
    refine ⟨(s.edgeTaken .estop).estopReleased, ?_,
      sameBut_trans (edgeTaken_sameBut _ s) (setLc_sameBut _ _) (by simp) (by simp), rfl, rfl⟩
    show Host.Outcome.next (State.finish (s.takeEdge .estop false _)) = _
    rw [takeEdge_of_latch (l := .estop) (b := false) hlatch]

end Sys2Proof.Machine
end

section
/-! PROOFS. The end of the hydrocarbon inhibit (O38): what the re-check does at each port in WAIT (R16, R28, R158). -/

namespace Sys2Proof.Machine

theorem portInhibitEnd_of_not_wait {p : PortId} {s : State} (hstate : ∀ r, (s.port p).state ≠ .wait r) : s.portInhibitEnd p = s := by
  unfold State.portInhibitEnd
  split
  next r hwait => exact absurd hwait (hstate r)
  next => rfl

theorem portInhibitEnd_of_wait {p : PortId} {r : WaitReason} {s : State} (hwait : (s.port p).state = .wait r) :
    s.portInhibitEnd p = s.recheck p := by
  unfold State.portInhibitEnd
  rw [hwait]

theorem recheck_of_paused {s : State} (hpaused : s.lc.paused = true) (p : PortId) : s.recheck p = s := if_pos hpaused

theorem recheck_of_run {s : State} (hrun : s.lc.paused = false) (p : PortId) : s.recheck p = s.route p := if_neg (by simp [hrun])

theorem portInhibitEnd_samePortsBut (p : PortId) (s : State) : s.SamePortsBut p (s.portInhibitEnd p) := by
  unfold State.portInhibitEnd
  split
  next => exact recheck_samePortsBut p s
  next => exact fun _ _ => rfl

/-- R10 in RUN without an inhibit: the receiver alone decides. -/
theorem route_port_of_free {p : PortId} {c : GasClass} {s : State} (hgas : (s.port p).gas = some c) (hfree : s.inhibited = false)
    (hrun : s.lc.paused = false) :
    (s.route p).port p =
      if s.accepting c = true then
        { s.port p with
          state := .extract, valveH := decide (c = .halo), valveK := decide (c = .hydro), dwell := (s.port p).dwell.thaw }
      else (s.port p).toWait .receiver := by
  rw [route_port hgas, hfree, hrun, toExtract_run]
  cases s.accepting c <;> simp

/-- The station as the inhibit ends, before its ports are told. -/
abbrev State.inhibitOver (s : State) : State := s.setLc { s.lc with inhibit := .stopped }

theorem endInhibit_port_cases (s : State) (p : PortId) :
    ∃ t : State, (t.inhibited = false ∧ t.lc.paused = s.lc.paused ∧ ∀ c, t.accepting c = s.accepting c) ∧ t.port p = s.port p ∧
      s.endInhibit.port p = (t.portInhibitEnd p).port p := by
  obtain ⟨t, ht, hbefore, hafter⟩ := eachPort_port (f := State.portInhibitEnd)
    (keeps := fun t => t.inhibited = false ∧ t.lc.paused = s.lc.paused ∧ ∀ c, t.accepting c = s.accepting c)
    (fun q t ht => by simpa using ht) portInhibitEnd_samePortsBut (s := s.inhibitOver) ⟨rfl, rfl, fun c => by simp⟩ p
  exact ⟨t, ht, hbefore, (by simp [State.endInhibit] : s.endInhibit.port p = _).trans hafter⟩

theorem eachPort_portInhibitEnd_sameBut (s : State) : s.SameBut [.ports] (s.eachPort State.portInhibitEnd) := by
  rw [sameBut_iff]
  simp [State.eachPort]

theorem endInhibit_sameBut (s : State) : s.SameBut [.ports, .agent, .line, .conditions, .op] s.endInhibit := by
  have hports : s.SameBut [.conditions, .ports] (s.inhibitOver.eachPort State.portInhibitEnd) :=
    sameBut_trans (setLc_sameBut _ s) (eachPort_portInhibitEnd_sameBut _) (by simp) (by simp)
  exact sameBut_trans hports (idleCheck_sameBut _) (by simp) (by simp)

theorem endInhibit_lc (s : State) : s.endInhibit.lc = { s.lc with inhibit := .stopped } := by
  simp [State.endInhibit, State.eachPort]

theorem exec_inhibitTimerExpiry_of_running {n : Nat} {s : State} (hrunning : s.lc.inhibit = .running n) :
    exec .inhibitTimerExpiry s = .next (s.elapse n).endInhibit.finish := by
  show Host.Outcome.next (s.onExpiry s.lc.inhibit State.endInhibit).finish = _
  rw [hrunning, State.onExpiry_running]

/-- Settles O38: each port is asked once, in a state without the inhibit; R10 then turns on its receiver alone. -/
theorem inhibitEndReleasesItsPorts : Obligations.InhibitEndReleasesItsPorts := fun n s e hrunning he => by
  subst he
  refine ⟨(s.elapse n).endInhibit, exec_inhibitTimerExpiry_of_running hrunning, endInhibit_sameBut _, ?ended, endInhibit_lc _,
    fun p hstays => ?stays, fun p r c hwait hgas hrun => ?released⟩
  case ended =>
    unfold State.inhibited
    rw [endInhibit_lc]
    rfl
  case stays =>
    obtain ⟨t, ⟨-, hpaused, -⟩, hport, hafter⟩ := endInhibit_port_cases (s.elapse n) p
    have hstate : (t.port p).state = (s.port p).state := by rw [hport]; simp
    rw [hafter, ← hport]
    rcases hstays with hother | hpause
    · rw [portInhibitEnd_of_not_wait (by rwa [hstate])]
    · unfold State.portInhibitEnd
      split
      next => rw [recheck_of_paused (hpaused.trans (by simpa using hpause))]
      next => rfl
  case released =>
    obtain ⟨t, ⟨hfree, hpaused, haccepting⟩, hport, hafter⟩ := endInhibit_port_cases (s.elapse n) p
    have hstate : (t.port p).state = .wait r := by rw [hport]; simpa using hwait
    have hrun' : t.lc.paused = false := hpaused.trans (by simpa using hrun)
    have hroute := route_port_of_free (s := t) (p := p) (c := c) (by rw [hport]; simpa using hgas) hfree hrun'
    rw [portInhibitEnd_of_wait hstate, recheck_of_run hrun', hroute, hport] at hafter
    have hasks : t.accepting c = s.accepting c := (haccepting c).trans (by simp)
    refine ⟨fun haccepts => ?_, fun hrefuses => ?_⟩
    · rw [hasks, haccepts, if_pos rfl] at hafter
      rw [hafter]
      cases c <;> exact ⟨rfl, rfl, rfl, rfl, by simp, by simp⟩
    · rw [hasks, hrefuses, if_neg (by simp)] at hafter
      rw [hafter]
      exact ⟨rfl, rfl, rfl⟩

end Sys2Proof.Machine
end

section
/-! PROOFS. The edges of the port lines (O39): the level each updates, the connection test in OPENED (R7), the aborts (R22), and the
ways out of QUARANTINE and UNCLAMP (R21, R30). -/

namespace Sys2Proof.Machine

/-! ### An edge at its port -/

theorem tryConnect_sameBut (p : PortId) (s : State) : s.SameBut [.ports] (s.tryConnect p) := by
  unfold State.tryConnect
  dsimp only
  split
  next => exact setPort_sameBut p _ s
  next => exact sameBut_refl _ s

/-- The edge is taken, and the port has its level. -/
abbrev State.edgeNoted (l : InputLine) (p : PortId) (level : Port → Port) (s : State) : State := (s.edgeTaken l).modPort p level

theorem edgeNoted_port_self (l : InputLine) (p : PortId) (level : Port → Port) (s : State) :
    (s.edgeNoted l p level).port p = level (s.port p) :=
  (modPort_port_self p level _).trans (congrArg level (edgeTaken_port l s p))

theorem edgeNoted_samePortsBut (l : InputLine) (p : PortId) (level : Port → Port) (s : State) :
    s.SamePortsBut p (s.edgeNoted l p level) :=
  samePortsBut_trans (fun q _ => edgeTaken_port l s q) (modPort_samePortsBut p level _)

theorem edgeNoted_sameBut (l : InputLine) (p : PortId) (level : Port → Port) (s : State) :
    s.SameBut [.ports, .field] (s.edgeNoted l p level) :=
  sameBut_trans (edgeTaken_sameBut l s) (modPort_sameBut p level _) (by simp) (by simp)

section

variable {l : InputLine} {b : Bool} {p : PortId} {s : State}

theorem takeEdge_portEdge_of_used (hlatch : (s.field.input l).latch b = true) (hused : (s.port p).state ≠ .unused)
    (level : Port → Port) (act : State → State) :
    s.takeEdge l b (State.portEdge p level act) = act (s.edgeNoted l p level) := by
  rw [takeEdge_of_latch hlatch, portEdge_of_used (by rwa [edgeTaken_port])]

theorem takeEdge_portEdge_of_unused (hlatch : (s.field.input l).latch b = true) (hunused : (s.port p).state = .unused)
    (level : Port → Port) (act : State → State) : s.takeEdge l b (State.portEdge p level act) = s.edgeTaken l := by
  rw [takeEdge_of_latch hlatch]
  exact if_pos ((congrArg Port.state (edgeTaken_port l s p)).trans hunused)

/-- The port's edge commands, each with its line, its level and its reaction. -/
inductive PortEdge (p : PortId) : Instr → InputLine → Bool → (Port → Port) → (State → State) → Prop where
  | clampOn : PortEdge p (.clampAssert p) (.clamp p) true (fun x => { x with clamp := true }) (State.clampOn p)
  | clampOff : PortEdge p (.clampDeassert p) (.clamp p) false (fun x => { x with clamp := false }) (State.clampOff p)
  | confirm (b : Bool) : PortEdge p (.confirmEdge p b) (.confirm p) b (fun x => { x with confirm := b }) (State.clampOn p)
  | releaseOn : PortEdge p (.releaseReqAssert p) (.release p) true (fun x => { x with release := true }) (State.releasePressed p)
  | releaseOff : PortEdge p (.releaseReqDeassert p) (.release p) false (fun x => { x with release := false }) fun t => t

theorem exec_of_portEdge {i : Instr} {level : Port → Port} {act : State → State} (h : PortEdge p i l b level act) (s : State) :
    exec i s = .next (s.takeEdge l b (State.portEdge p level act)).finish := by
  cases h <;> rfl

theorem portEdge_of_edgeOf {i : Instr} (hedge : edgeOf i = some (l, b)) (hline : l ∈ [InputLine.clamp p, .confirm p, .release p]) :
    ∃ level act, PortEdge p i l b level act := by
  simp only [List.mem_cons, List.not_mem_nil, or_false] at hline
  cases i <;> simp only [edgeOf, Option.some.injEq, Prod.mk.injEq, reduceCtorEq] at hedge
  case clampAssert q =>
    obtain ⟨rfl, rfl⟩ := hedge
    obtain rfl : q = p := by simpa using hline
    exact ⟨_, _, .clampOn⟩
  case clampDeassert q =>
    obtain ⟨rfl, rfl⟩ := hedge
    obtain rfl : q = p := by simpa using hline
    exact ⟨_, _, .clampOff⟩
  case confirmEdge q c =>
    obtain ⟨rfl, rfl⟩ := hedge
    obtain rfl : q = p := by simpa using hline
    exact ⟨_, _, .confirm c⟩
  case releaseReqAssert q =>
    obtain ⟨rfl, rfl⟩ := hedge
    obtain rfl : q = p := by simpa using hline
    exact ⟨_, _, .releaseOn⟩
  case releaseReqDeassert q =>
    obtain ⟨rfl, rfl⟩ := hedge
    obtain rfl : q = p := by simpa using hline
    exact ⟨_, _, .releaseOff⟩
  case estopAssert => simp [← hedge.1] at hline
  case estopDeassert => simp [← hedge.1] at hline
  case readbackAssert c => cases c <;> simp [← hedge.1, readbackLine] at hline
  case readbackDeassert c => cases c <;> simp [← hedge.1, readbackLine] at hline

/-- An edge at a port in use: what its command does. -/
theorem exec_of_portEdge_of_used {i : Instr} {level : Port → Port} {act : State → State} (h : PortEdge p i l b level act)
    (hlatch : (s.field.input l).latch b = true) (hused : (s.port p).state ≠ .unused) :
    exec i s = .next (act (s.edgeNoted l p level)).finish := by
  rw [exec_of_portEdge h, takeEdge_portEdge_of_used hlatch hused]

end

/-! ### The reactions -/

/-- CLAMP and CONFIRM (R4, R7). -/
theorem clampOn_port_self (p : PortId) (s : State) :
    (s.clampOn p).port p =
      if (s.port p).state = .opened ∧ (s.port p).clamp = true ∧ (s.port p).confirm = true then
        { s.port p with
          state := .settle, connect := .stopped, settle := .running ((s.portSet (s.port p)).settleTenths * 100) }
      else s.port p := by
  unfold State.clampOn
  by_cases hopened : (s.port p).state = .opened
  · rw [if_pos hopened, tryConnect_port_self]
    simp only [Port.connected, hopened, true_and]
  · rw [if_neg hopened, if_neg fun h => hopened h.1]

theorem clampOn_samePortsBut (p : PortId) (s : State) : s.SamePortsBut p (s.clampOn p) := by
  unfold State.clampOn
  split
  next => exact tryConnect_samePortsBut p s
  next => exact fun _ _ => rfl

theorem clampOn_sameBut (p : PortId) (s : State) : s.SameBut [.ports] (s.clampOn p) := 
  sameBut_ite (tryConnect_sameBut p s) (sameBut_refl _ s)

theorem clampOff_of_abortable {p : PortId} {s : State} (habortable : (s.port p).state.abortable = true) :
    s.clampOff p = s.closeCase p .abortedClamp := by
  unfold State.clampOff
  split
  next h => simp [h, PortState.abortable] at habortable
  next h => simp [h, PortState.abortable] at habortable
  next => exact if_pos habortable

theorem clampOff_of_quarantine {p : PortId} {q : QReason} {s : State} (hstate : (s.port p).state = .quarantine q) :
    s.clampOff p = s.closeCase p .quarantined := by
  unfold State.clampOff
  rw [hstate]

theorem clampOff_of_unclamp {p : PortId} {s : State} (hstate : (s.port p).state = .unclamp) :
    s.clampOff p = s.modPort p fun x => { x with state := .vacant } := by
  unfold State.clampOff
  rw [hstate]

theorem clampOff_of_at_rest {p : PortId} {s : State}
    (hstate : (s.port p).state ∈ [PortState.vacant, PortState.opened, PortState.closing]) : s.clampOff p = s := by
  simp only [List.mem_cons, List.not_mem_nil, or_false] at hstate
  rcases hstate with h | h | h <;> simp [State.clampOff, h, PortState.abortable]

theorem releasePressed_of_quarantine {p : PortId} {q : QReason} {s : State} (hstate : (s.port p).state = .quarantine q) :
    s.releasePressed p = s.closeCase p .quarantined := if_pos (by rw [hstate]; rfl)

theorem releasePressed_of_not_quarantined {p : PortId} {s : State} (hstate : (s.port p).state.quarantined = false) :
    s.releasePressed p = s := if_neg (by simp [hstate])

/-! ### A case closed from the state after an edge -/

/-- The close of a case reads of the state its own port, the report queue, the configuration and the second. -/
theorem caseClosed_of_same {p : PortId} {r : CaseRecord} {res : CaseResult} {s t u : State} (hcfg : t.cfg = s.cfg)
    (hclock : t.clock = s.clock) (hstore : t.store = s.store) (h : t.CaseClosed p r res u) : s.CaseClosed p r res u := by
  have hrecord : closedRecord t r res = closedRecord s r res := by simp only [closedRecord, State.seconds, hcfg, hclock]
  unfold State.CaseClosed at h ⊢
  rwa [hrecord, hstore] at h

theorem closeCase_clamp (p : PortId) (res : CaseResult) (s : State) : ((s.closeCase p res).port p).clamp = (s.port p).clamp := by
  cases hslot : (s.port p).slot with
  | none => simp [State.closeCase, hslot]
  | some r =>
    rw [closeCase_eq hslot]
    split <;> simp [State.enqueueRecord, Port.closing, Port.closeValves, Port.stopTimers]

section

variable {l : InputLine} {p : PortId} {r : CaseRecord} {level : Port → Port} {s : State}

theorem closeCase_edgeNoted_caseClosed (hslot : (level (s.port p)).slot = some r) (res : CaseResult) :
    s.CaseClosed p r res ((s.edgeNoted l p level).closeCase p res) :=
  caseClosed_of_same (t := s.edgeNoted l p level) (by simp [State.setInput]) (by simp [State.setInput]) (by simp [State.setInput])
    (closeCase_caseClosed (by rwa [edgeNoted_port_self]) res)

theorem closeCase_edgeNoted_samePortsBut (res : CaseResult) : s.SamePortsBut p ((s.edgeNoted l p level).closeCase p res) :=
  samePortsBut_trans (edgeNoted_samePortsBut l p level s) (closeCase_samePortsBut p res _)

theorem closeCase_edgeNoted_sameBut (res : CaseResult) :
    s.SameBut [.ports, .store, .ana, .field, .op] ((s.edgeNoted l p level).closeCase p res) :=
  sameBut_trans (edgeNoted_sameBut l p level s) (closeCase_sameBut p res _) (by simp) (by simp)

theorem closeCase_edgeNoted_sameBut_of_not_classify (hstate : (level (s.port p)).state ≠ .classify) (res : CaseResult) :
    s.SameBut [.ports, .store, .field, .op] ((s.edgeNoted l p level).closeCase p res) :=
  sameBut_trans (edgeNoted_sameBut l p level s)
    (closeCase_sameBut_of_not_classify (by rwa [edgeNoted_port_self]) res) (by simp) (by simp)

end

/-- Settles O39: an UNUSED port, the connection test, the ends a CLAMP deassert makes, and RELEASE_REQ. -/
theorem portEdgesActByState : Obligations.PortEdgesActByState := fun p s => by
  refine ⟨fun i l b hedge hline hlatch hunused => ?unused, fun i x hi hused => ?connects,
    fun hlatch => ⟨fun r habortable hslot => ?aborts, fun q r hstate hslot => ?leaves, fun hstate => ?unclamps⟩,
    fun hlatch hused => ⟨fun q r hstate hslot => ?released, fun hstate => ?presses⟩⟩
  case unused =>
    obtain ⟨level, act, hport⟩ := portEdge_of_edgeOf hedge hline
    refine ⟨s.edgeTaken l, ?_, edgeTaken_sameBut l s, rfl⟩
    rw [exec_of_portEdge hport, takeEdge_portEdge_of_unused hlatch hunused]
  case connects =>
    have hconnects : ∀ {l b level}, PortEdge p i l b level (State.clampOn p) → (s.field.input l).latch b = true →
        x = level (s.port p) → (∀ y, s.portSet (level y) = s.portSet y) → ∃ u : State, exec i s = .next u.finish ∧
          s.SameBut [.ports, .field] u ∧ s.SamePortsBut p u ∧
          u.port p =
            (if x.state = .opened ∧ x.clamp = true ∧ x.confirm = true then
              { x with
                state := .settle, connect := .stopped, settle := .running ((s.portSet (s.port p)).settleTenths * 100) }
            else x) := by
      intro l b level hport hlatch hx hset
      refine ⟨_, exec_of_portEdge_of_used hport hlatch hused,
        sameBut_trans (edgeNoted_sameBut l p level s) (clampOn_sameBut p _) (by simp) (by simp),
        samePortsBut_trans (edgeNoted_samePortsBut l p level s) (clampOn_samePortsBut p _), ?_⟩
      have hsame : (s.edgeNoted l p level).portSet x = s.portSet (s.port p) := by
        rw [hx, ← hset (s.port p)]
        simp [State.setInput]
      rw [clampOn_port_self, edgeNoted_port_self, ← hx, hsame]
    rcases hi with ⟨rfl, hx, hlatch⟩ | ⟨b, rfl, hx, hlatch⟩
    · exact hconnects .clampOn hlatch hx fun _ => rfl
    · exact hconnects (.confirm b) hlatch hx fun _ => rfl
  case aborts =>
    have hused : (s.port p).state ≠ .unused := fun h => by simp [h, PortState.abortable] at habortable
    refine ⟨_, exec_of_portEdge_of_used .clampOff hlatch hused, ?_⟩
    rw [clampOff_of_abortable (by rw [edgeNoted_port_self]; exact habortable)]
    refine ⟨closeCase_edgeNoted_sameBut _, closeCase_edgeNoted_samePortsBut _, closeCase_edgeNoted_caseClosed hslot _, ?_⟩
    rw [closeCase_clamp, edgeNoted_port_self]
  case leaves =>
    refine ⟨_, exec_of_portEdge_of_used .clampOff hlatch (by simp [hstate]), ?_⟩
    rw [clampOff_of_quarantine (q := q) (by rw [edgeNoted_port_self]; exact hstate)]
    refine ⟨closeCase_edgeNoted_sameBut_of_not_classify (by simp [hstate]) _, closeCase_edgeNoted_samePortsBut _,
      closeCase_edgeNoted_caseClosed hslot _, ?_⟩
    rw [closeCase_clamp, edgeNoted_port_self]
  case unclamps =>
    have hused : (s.port p).state ≠ .unused := fun h => by simp [h] at hstate
    refine ⟨_, exec_of_portEdge_of_used .clampOff hlatch hused, ?_⟩
    by_cases hunclamp : (s.port p).state = .unclamp
    · rw [clampOff_of_unclamp (by rw [edgeNoted_port_self]; exact hunclamp), if_pos hunclamp]
      refine ⟨sameBut_trans (edgeNoted_sameBut _ p _ s) (modPort_sameBut p _ _) (by simp) (by simp),
        samePortsBut_trans (edgeNoted_samePortsBut _ p _ s) (modPort_samePortsBut p _ _), ?_⟩
      rw [modPort_port_self, edgeNoted_port_self]
    · have hrests : (s.port p).state ∈ [PortState.vacant, .opened, .closing] := by simpa [hunclamp] using hstate
      rw [clampOff_of_at_rest (by rw [edgeNoted_port_self]; exact hrests), if_neg hunclamp]
      exact ⟨edgeNoted_sameBut _ p _ s, edgeNoted_samePortsBut _ p _ s, edgeNoted_port_self _ p _ s⟩
  case released =>
    refine ⟨_, exec_of_portEdge_of_used .releaseOn hlatch hused, ?_⟩
    rw [releasePressed_of_quarantine (q := q) (by rw [edgeNoted_port_self]; exact hstate)]
    exact ⟨closeCase_edgeNoted_sameBut_of_not_classify (by simp [hstate]) _, closeCase_edgeNoted_samePortsBut _,
      closeCase_edgeNoted_caseClosed hslot _⟩
  case presses =>
    refine ⟨_, exec_of_portEdge_of_used .releaseOn hlatch hused, ?_⟩
    rw [releasePressed_of_not_quarantined (by rw [edgeNoted_port_self]; exact hstate)]
    exact ⟨edgeNoted_sameBut _ p _ s, edgeNoted_samePortsBut _ p _ s, edgeNoted_port_self _ p _ s⟩

end Sys2Proof.Machine
end

section
/-! PROOFS. Four of the port timers (O40): a port in QUARANTINE (R20) with its withdrawn request (R63), the way into the rise test
(R14, R18), and the settle's end (R8, R9). -/

namespace Sys2Proof.Machine

/-! ### The expiry of a port timer -/

section

variable {p : PortId} {st : PortState} {n : Nat} {s : State}

theorem portExpiry_of_running {t : Timer} (hstate : (s.port p).state = st) (ht : t = .running n) (act : State → State) :
    s.portExpiry p st t act = act (s.elapse n) := by
  rw [State.portExpiry, if_pos hstate, ht, State.onExpiry_running]

theorem exec_connectTimeout_of_running (hstate : (s.port p).state = .opened) (ht : (s.port p).connect = .running n) :
    exec (.connectTimeout p) s = .next ((s.elapse n).closeCase p .notConnected).finish :=
  congrArg (fun t => Host.Outcome.next (State.finish t)) (portExpiry_of_running hstate ht _)

theorem exec_classifyWaitExpiry_of_running (hstate : (s.port p).state = .classify) (ht : (s.port p).classifyWait = .running n) :
    exec (.classifyWaitExpiry p) s = .next ((s.elapse n).quarantine p .analyser).finish :=
  congrArg (fun t => Host.Outcome.next (State.finish t)) (portExpiry_of_running hstate ht _)

theorem exec_dwellExpiry_of_running (hstate : (s.port p).state = .extract) (ht : (s.port p).dwell = .running n) :
    exec (.dwellExpiry p) s = .next ((s.elapse n).dwellOver p).finish :=
  congrArg (fun t => Host.Outcome.next (State.finish t)) (portExpiry_of_running hstate ht _)

theorem exec_settleExpiry_of_running (hstate : (s.port p).state = .settle) (ht : (s.port p).settle = .running n) :
    exec (.settleExpiry p) s = .next ((s.elapse n).settled p).finish :=
  congrArg (fun t => Host.Outcome.next (State.finish t)) (portExpiry_of_running hstate ht _)

theorem exec_holdTimerExpiry_of_running (hstate : (s.port p).state = .riseTest) (ht : (s.port p).hold = .running n) :
    exec (.holdTimerExpiry p) s = .next ((s.elapse n).riseOver p).finish :=
  congrArg (fun t => Host.Outcome.next (State.finish t)) (portExpiry_of_running hstate ht _)

end

/-! ### A withdrawn request (R63) -/

theorem withdraw_queue (p : PortId) (a : Analyser) : (a.withdraw p).queue = a.queue.filter fun x => x.port ≠ p := by
  unfold Analyser.withdraw
  dsimp only
  (repeat' split) <;> rfl

/-- The sample of the port itself ends: its path closes, and its result will be discarded. -/
theorem withdraw_of_sample {p : PortId} {w : Bool} {a : Analyser} (hstate : a.state = .classifying p .sample w) :
    (a.withdraw p).state = .classifying p .result true ∧ (a.withdraw p).sampleV.get p = false ∧
      (a.withdraw p).resultT = .running 1000 := by
  simp [Analyser.withdraw, hstate, Analyser.closePath, quad_get_set_self, Config.resultMs]

/-! ### QUARANTINE (R20) -/

/-- A port as it enters QUARANTINE with its case. -/
def Port.quarantined (r : CaseRecord) (q : QReason) (x : Port) : Port :=
  { x.closeValves.stopTimers with
    slot := some { r with qReason := some q }, k := none, pStart := none, state := .quarantine q }

section

variable {p : PortId} {r : CaseRecord} {s : State}

theorem quarantine_port_self (hslot : (s.port p).slot = some r) (q : QReason) :
    (s.quarantine p q).port p = (s.port p).quarantined r q := by
  unfold State.quarantine
  simp [Port.quarantined, Port.mapSlot, Port.closeValves, Port.stopTimers, hslot]

theorem quarantine_samePortsBut (p : PortId) (q : QReason) (s : State) : s.SamePortsBut p (s.quarantine p q) := by
  intro o ho
  unfold State.quarantine
  exact (State.port_setPort_ne ho _ _).trans (by split <;> simp)

theorem quarantine_sameBut (p : PortId) (q : QReason) (s : State) : s.SameBut [.ports, .ana, .op] (s.quarantine p q) := by
  rw [sameBut_iff]
  simp

theorem quarantine_ana_of_classify (hstate : (s.port p).state = .classify) (q : QReason) :
    (s.quarantine p q).ana = s.ana.withdraw p := by
  unfold State.quarantine
  simp [hstate, State.withdraw]

theorem quarantine_flag_self (p : PortId) (q : QReason) (s : State) : (s.quarantine p q).op.flag .quarantine = true :=
  raise_flag_self .quarantine _

end

/-! ### The rise test (R14, R18) -/

theorem portSet_of_slot {x : Port} {r : CaseRecord} (hslot : x.slot = some r) (s : State) : s.portSet x = s.cfg.kindSet r.kind := by
  simp [State.portSet, hslot]

theorem toRiseTest_samePortsBut (p : PortId) (s : State) : s.SamePortsBut p (s.toRiseTest p) := modPort_samePortsBut p _ s

theorem toRiseTest_sameBut (p : PortId) (s : State) : s.SameBut [.ports] (s.toRiseTest p) := modPort_sameBut p _ s

theorem toRiseTest_port_self (p : PortId) (s : State) :
    (s.toRiseTest p).port p =
      { (s.port p).closeValves with
        state := .riseTest, dwell := (s.port p).dwell.freeze, hold := .running ((s.portSet (s.port p)).holdS * 1000), pStart := none } :=
  modPort_port_self p _ s

/-- The first stall is the one that stays (R14). -/
theorem stall_eq (k : Nat) (r : CaseRecord) : r.stall (some k) = { r with stallStep := some (r.stallStep.getD k) } := by
  unfold CaseRecord.stall
  cases hstall : r.stallStep with
  | none => rfl
  | some i =>
    show r = { r with stallStep := some i }
    rw [← hstall]

theorem dwellOver_sameBut (p : PortId) (s : State) : s.SameBut [.ports] (s.dwellOver p) :=
  sameBut_trans (modPort_sameBut p _ s) (toRiseTest_sameBut p _) (by simp) (by simp)

theorem dwellOver_samePortsBut (p : PortId) (s : State) : s.SamePortsBut p (s.dwellOver p) :=
  samePortsBut_trans (modPort_samePortsBut p _ s) (toRiseTest_samePortsBut p _)

theorem dwellOver_port_self {p : PortId} {r : CaseRecord} {s : State} (hslot : (s.port p).slot = some r) :
    (s.dwellOver p).port p =
      { (s.port p).closeValves with
        slot := some (r.stall (s.port p).k), state := .riseTest, dwell := .stopped
        hold := .running ((s.portSet (s.port p)).holdS * 1000), pStart := none } := by
  have hkind : (r.stall (s.port p).k).kind = r.kind := by
    unfold CaseRecord.stall
    split <;> rfl
  rw [State.dwellOver, toRiseTest_port_self, modPort_port_self, portSet_of_slot hslot,
    portSet_of_slot (r := r.stall (s.port p).k) (by simp [Port.mapSlot, hslot]), hkind]
  simp [Port.mapSlot, Port.closeValves, hslot, Timer.freeze, State.modPort]

/-! ### A pressure, or a free value (log 7) -/

theorem pressureOr_sameBut (x : Option Nat) (s : State) : s.SameBut [.free] (s.pressureOr x).2 := by
  rw [sameBut_iff]
  cases x <;> simp [State.pressureOr, State.drawPressure]

theorem pressureOr_cfg (x : Option Nat) (s : State) : (s.pressureOr x).2.cfg = s.cfg := by cases x <;> rfl

theorem pressureOr_of_some {x : Option Nat} {n : Nat} (hx : x = some n) (s : State) : s.pressureOr x = (n, s) := by rw [hx]; rfl

/-! ### The settle's end (R8, R9) -/

theorem toClassify_sameBut (p : PortId) (s : State) : s.SameBut [.ports, .ana] (s.toClassify p) := by
  rw [sameBut_iff]
  simp

theorem serve_port (s : State) (p : PortId) : s.serve.port p = s.port p := by simp

theorem joinClassify_port (p q : PortId) (s : State) : (s.joinClassify p).port q = s.port q := by simp

theorem toClassify_samePortsBut (p : PortId) (s : State) : s.SamePortsBut p (s.toClassify p) := fun q hq =>
  (joinClassify_port p q _).trans (modPort_samePortsBut p _ s q hq)

theorem toClassify_port_self (p : PortId) (s : State) :
    (s.toClassify p).port p =
      { s.port p with state := .classify, classifyWait := .running (s.cfg.analyser.classifyWaitS * 1000) } :=
  (joinClassify_port p p _).trans (modPort_port_self p _ s)

section

variable {p : PortId} {s : State}

theorem toClassify_ana_of_not_mayServe (hmay : s.mayServe = false) :
    (s.toClassify p).ana = { s.ana with queue := s.ana.queue ++ [⟨p, false⟩] } := by
  unfold State.toClassify State.joinClassify
  rw [serve_eq_self_of_not_mayServe (by simpa [State.mayServe] using hmay)]
  simp

theorem toClassify_ana_of_mayServe (hmay : s.mayServe = true) (hqueue : s.ana.queue = []) :
    (s.toClassify p).ana =
      ({ s.ana with state := .classifying p .sample false, queue := [] } : Analyser).openPath p false
        (s.cfg.analyser.sampleS * 1000) := by
  unfold State.toClassify State.joinClassify
  rw [serve_eq_of_queue_cons (x := ⟨p, false⟩) (rest := []) (by simpa [State.mayServe] using hmay) (by simp [hqueue])]
  simp

/-- The port as its initial pressure is recorded. -/
def Port.settledAt (hpa : Nat) (x : Port) : Port := { x.mapSlot (fun r => { r with initialHpa := some hpa }) with settle := .stopped }

/-- The station as a port's initial pressure is recorded. -/
abbrev State.settledAt (p : PortId) (s : State) : State :=
  (s.pressureOr (s.field.samples.get p).pressure).2.modPort p
    (Port.settledAt (s.pressureOr (s.field.samples.get p).pressure).1)

theorem settledAt_sameBut (p : PortId) (s : State) : s.SameBut [.ports, .free] (s.settledAt p) :=
  sameBut_trans (pressureOr_sameBut _ s) (modPort_sameBut p _ _) (by simp) (by simp)

theorem settledAt_samePortsBut (p : PortId) (s : State) : s.SamePortsBut p (s.settledAt p) :=
  samePortsBut_trans (fun q _ => pressureOr_port _ s q) (modPort_samePortsBut p _ _)

theorem settledAt_port_self (p : PortId) (s : State) :
    (s.settledAt p).port p = (s.port p).settledAt (s.pressureOr (s.field.samples.get p).pressure).1 :=
  (modPort_port_self p _ _).trans (congrArg _ (pressureOr_port _ s p))

theorem settled_eq (p : PortId) (s : State) :
    s.settled p =
      if (s.pressureOr (s.field.samples.get p).pressure).1 < ((s.settledAt p).portSet ((s.settledAt p).port p)).emptyThreshold then
        (s.settledAt p).closeCase p .empty
      else (s.settledAt p).toClassify p := rfl

end

/-- The blocks that a settle's end may change. -/
theorem settled_sameBut {p : PortId} {s : State} (hstate : (s.port p).state = .settle) :
    s.SameBut [.ports, .ana, .store, .op, .free] (s.settled p) := by
  have hsettled := settledAt_sameBut p s
  have hclose : (s.settledAt p).SameBut [.ports, .store, .op] ((s.settledAt p).closeCase p .empty) :=
    closeCase_sameBut_of_not_classify (by rw [settledAt_port_self]; simp [Port.settledAt, Port.mapSlot, hstate]) _
  rw [settled_eq]
  exact sameBut_ite (sameBut_trans hsettled hclose (by simp) (by simp))
    (sameBut_trans hsettled (toClassify_sameBut p _) (by simp) (by simp))

theorem settled_samePortsBut (p : PortId) (s : State) : s.SamePortsBut p (s.settled p) := by
  rw [settled_eq]
  split
  next => exact samePortsBut_trans (settledAt_samePortsBut p s) (closeCase_samePortsBut p _ _)
  next => exact samePortsBut_trans (settledAt_samePortsBut p s) (toClassify_samePortsBut p _)

/-- Settles O40: the four timers, each from the state in which it has run out. -/
theorem portTimersRunOut : Obligations.PortTimersRunOut := fun p r n s e hslot he => by
  subst he
  have hslot' : ((s.elapse n).port p).slot = some r := by simpa using hslot
  refine ⟨fun hstate ht => ?connect, fun hstate ht => ?classifyWait, fun k hstate hk ht => ?dwell, fun hstate ht => ?settle⟩
  case connect =>
    exact ⟨_, exec_connectTimeout_of_running hstate ht, closeCase_sameBut_of_not_classify (by simp [hstate]) _,
      closeCase_samePortsBut p _ _, closeCase_caseClosed hslot' _⟩
  case classifyWait =>
    have hport := quarantine_port_self hslot' .analyser
    have hana := quarantine_ana_of_classify (p := p) (s := s.elapse n) (by simpa using hstate) .analyser
    refine ⟨_, exec_classifyWaitExpiry_of_running hstate ht, quarantine_sameBut p _ _, quarantine_samePortsBut p _ _, ?_⟩
    rw [hport, hana]
    exact ⟨rfl, rfl, rfl, rfl, rfl, rfl, rfl, quarantine_flag_self p _ _, withdraw_queue p _, fun w hw => withdraw_of_sample hw⟩
  case dwell =>
    have hk' : ((s.elapse n).port p).k = some k := by simpa using hk
    refine ⟨_, exec_dwellExpiry_of_running hstate ht, dwellOver_sameBut p _, dwellOver_samePortsBut p _, ?_⟩
    rw [dwellOver_port_self hslot', hk', stall_eq]
    exact ⟨rfl, rfl, rfl, rfl, hk', by simp [State.portSet], rfl⟩
  case settle =>
    let x := ((s.elapse n).pressureOr (s.field.samples.get p).pressure).1
    let t := (s.elapse n).settledAt p
    have hport : t.port p = ((s.elapse n).port p).settledAt x := settledAt_port_self p _
    have hrecord : (t.port p).slot = some { r with initialHpa := some x } := by simp [hport, Port.settledAt, Port.mapSlot, hslot]
    have hdrawn : (s.elapse n).SameBut [.ports, .free] t := settledAt_sameBut p _
    have hcfg : t.cfg = s.cfg := pressureOr_cfg _ _
    have hset : t.portSet (t.port p) = s.portSet (s.port p) := by
      rw [portSet_of_slot hrecord, portSet_of_slot hslot, hcfg]
    have hclock : t.clock = (s.elapse n).clock := hdrawn .clock (by simp)
    have hstore : t.store = (s.elapse n).store := hdrawn .store (by simp)
    have hana : t.ana = (s.elapse n).ana := hdrawn .ana (by simp)
    have hlc : t.lc = (s.elapse n).lc := hdrawn .conditions (by simp)
    have hmay : t.mayServe = s.mayServe := by simp [State.mayServe, hana, hlc]
    have hsettled : (s.elapse n).settled p =
        if x < (s.portSet (s.port p)).emptyThreshold then t.closeCase p .empty else t.toClassify p := by
      rw [settled_eq, ← hset]
      rfl
    refine ⟨(s.elapse n).settled p, x, exec_settleExpiry_of_running hstate ht, settled_sameBut (by simpa using hstate),
      settled_samePortsBut p _, fun y hy => ?sample, fun hempty => ?empties, fun hfull => ?classifies⟩
    case sample =>
      have hdraw : (s.elapse n).pressureOr (s.field.samples.get p).pressure = (y, s.elapse n) := pressureOr_of_some hy _
      have ht : t.free = s.free := by
        show ((s.elapse n).pressureOr (s.field.samples.get p).pressure).2.free = s.free
        rw [hdraw]
        simp
      refine ⟨congrArg Prod.fst hdraw, ?_⟩
      rw [hsettled]
      split <;> simp [ht]
    case empties =>
      have hstate' : (t.port p).state ≠ .classify := by simp [hport, Port.settledAt, Port.mapSlot, hstate]
      rw [hsettled, if_pos hempty]
      exact ⟨caseClosed_of_same (hcfg.trans (by simp)) hclock hstore (closeCase_caseClosed hrecord _),
        (closeCase_sameBut_of_not_classify hstate' .empty .ana (by simp)).trans hana⟩
    case classifies =>
      rw [hsettled, if_neg (by omega), toClassify_port_self, hcfg]
      refine ⟨rfl, hrecord, by rw [hport]; rfl, rfl, ?_, fun hbusy => ?_, fun hserves hnone => ?_⟩
      · exact (toClassify_sameBut p t .store (by simp)).trans (by simpa using hstore)
      · rw [toClassify_ana_of_not_mayServe (hmay.trans hbusy), hana]
        simp
      · have hqueue : t.ana.queue = [] := by simpa [hana] using hnone
        rw [toClassify_ana_of_mayServe (hmay.trans hserves) hqueue, hcfg]
        exact ⟨rfl, rfl, quad_get_set_self _ p true, rfl, rfl⟩

end Sys2Proof.Machine
end

section
/-! PROOFS. The rise test judged (O41): the two pressures, R19's table, and the recycle through R10's tests. -/

namespace Sys2Proof.Machine

/-! ### R19's table -/

theorem riseOutcome_of_tight {g : KindSet} {rise : Nat} (htight : rise ≤ g.riseLimit) (r : CaseRecord) :
    riseOutcome g rise r = .close (if r.stallStep.isSome then .completeStalled else .complete) := if_pos htight

theorem riseOutcome_of_recycle {g : KindSet} {rise : Nat} {r : CaseRecord} (hrises : g.riseLimit < rise)
    (hmore : r.recycles < g.maxRecycles) : riseOutcome g rise r = .recycle := by
  rw [riseOutcome, if_neg (by omega), if_pos hmore]

theorem riseOutcome_of_residual {g : KindSet} {rise : Nat} {r : CaseRecord} (hrises : g.riseLimit < rise)
    (hmost : g.maxRecycles ≤ r.recycles) : riseOutcome g rise r = .close .residual := by
  rw [riseOutcome, if_neg (by omega), if_neg (by omega)]

/-! ### The pressures of the test -/

/-- The start pressure, and the station once it is known. -/
abbrev State.riseStart (p : PortId) (s : State) : Nat × State := s.pressureOr (s.port p).pStart

/-- The end pressure, and the station once it is known. -/
abbrev State.riseEnd (p : PortId) (s : State) : Nat × State :=
  (s.riseStart p).2.pressureOr (s.field.samples.get p).pressure

abbrev State.riseOf (p : PortId) (s : State) : Nat := (s.riseEnd p).1 - (s.riseStart p).1

/-- The port as its rise is recorded. -/
def Port.risen (rise : Nat) (x : Port) : Port :=
  { x.mapSlot (fun r => { r with lastRise := some rise }) with hold := .stopped, pStart := none }

/-- The station as the rise is recorded. -/
def State.risen (p : PortId) (s : State) : State := (s.riseEnd p).2.modPort p (Port.risen (s.riseOf p))

theorem riseEnd_sameBut (p : PortId) (s : State) : s.SameBut [.free] (s.riseEnd p).2 :=
  sameBut_trans (pressureOr_sameBut _ s) (pressureOr_sameBut _ _) (by simp) (by simp)

theorem riseEnd_port (p : PortId) (s : State) (q : PortId) : (s.riseEnd p).2.port q = s.port q :=
  (pressureOr_port _ _ q).trans (pressureOr_port _ s q)

theorem riseOf_of_samples {p : PortId} {a b : Nat} {s : State} (hstart : (s.port p).pStart = some a)
    (hend : (s.field.samples.get p).pressure = some b) : s.riseOf p = b - a := by
  unfold State.riseOf State.riseEnd State.riseStart
  rw [pressureOr_of_some hstart, pressureOr_of_some hend]

theorem risen_sameBut (p : PortId) (s : State) : s.SameBut [.ports, .free] (s.risen p) :=
  sameBut_trans (riseEnd_sameBut p s) (modPort_sameBut p _ _) (by simp) (by simp)

theorem risen_samePortsBut (p : PortId) (s : State) : s.SamePortsBut p (s.risen p) :=
  samePortsBut_trans (fun q _ => riseEnd_port p s q) (modPort_samePortsBut p _ _)

theorem risen_port_self (p : PortId) (s : State) : (s.risen p).port p = (s.port p).risen (s.riseOf p) :=
  (modPort_port_self p _ _).trans (congrArg _ (riseEnd_port p s p))

theorem risen_slot {p : PortId} {r : CaseRecord} {s : State} (hslot : (s.port p).slot = some r) :
    ((s.risen p).port p).slot = some { r with lastRise := some (s.riseOf p) } := by
  simp [risen_port_self, Port.risen, Port.mapSlot, hslot]

/-- The judgement, with the set of the case's kind. -/
theorem riseOver_eq {p : PortId} {r : CaseRecord} {s : State} (hslot : (s.port p).slot = some r) :
    s.riseOver p =
      match riseOutcome (s.portSet (s.port p)) (s.riseOf p) { r with lastRise := some (s.riseOf p) } with
      | .close res => (s.risen p).closeCase p res
      | .recycle => (s.risen p).recycle p := by
  have hcfg : (s.risen p).cfg = s.cfg := (pressureOr_cfg _ _).trans (pressureOr_cfg _ s)
  have hset : s.portSet (s.port p) = (s.risen p).portSet ((s.risen p).port p) := by
    rw [portSet_of_slot hslot, portSet_of_slot (risen_slot hslot), hcfg]
  have hunfold : s.riseOver p =
      match ((s.risen p).port p).slot with
      | none => s.risen p
      | some r =>
        match riseOutcome ((s.risen p).portSet ((s.risen p).port p)) (s.riseOf p) r with
        | .close res => (s.risen p).closeCase p res
        | .recycle => (s.risen p).recycle p := rfl
  rw [hunfold, risen_slot hslot, hset]

/-! ### The recycle (R19) -/

/-- The port at its last step again, with one recycle more. -/
def Port.recycled (g : KindSet) (x : Port) : Port :=
  (x.mapSlot fun r => { r with recycles := r.recycles + 1 }).startStep g g.stepCount

section

variable {p : PortId} {s : State}

theorem recycle_eq (p : PortId) (s : State) :
    s.recycle p = (s.modPort p (Port.recycled (s.portSet (s.port p)))).route p := by
  rw [State.recycle]
  congr 1

theorem route_sameBut (p : PortId) (s : State) : s.SameBut [.ports] (s.route p) := by
  rw [sameBut_iff]
  simp

theorem recycle_sameBut (p : PortId) (s : State) : s.SameBut [.ports] (s.recycle p) := by
  rw [recycle_eq]
  exact sameBut_trans (modPort_sameBut p _ s) (route_sameBut p _) (by simp) (by simp)

theorem recycle_samePortsBut (p : PortId) (s : State) : s.SamePortsBut p (s.recycle p) := by
  rw [recycle_eq]
  exact samePortsBut_trans (modPort_samePortsBut p _ s) (route_samePortsBut p _)

theorem recycled_gas (g : KindSet) (x : Port) : (x.recycled g).gas = x.gas := by
  cases hslot : x.slot <;> simp [Port.gas, Port.recycled, Port.startStep, Port.mapSlot, hslot]

theorem recycle_port_self {c : GasClass} (hgas : (s.port p).gas = some c) :
    (s.recycle p).port p =
      (let x := (s.port p).recycled (s.portSet (s.port p))
      if c = .hydro ∧ s.inhibited = true then x.toWait .inhibit
      else if s.accepting c = false then x.toWait .receiver
      else x.toExtract s.lc.paused c) := by
  have hgas' : ((s.modPort p (Port.recycled (s.portSet (s.port p)))).port p).gas = some c := by
    rw [modPort_port_self, recycled_gas, hgas]
  rw [recycle_eq, route_port hgas', modPort_port_self]
  simp

end

theorem toExtract_paused (c : GasClass) (x : Port) :
    x.toExtract true c = { x.closeValves with state := .extract, dwell := x.dwell.freeze } := rfl

theorem riseOver_samePortsBut {p : PortId} {r : CaseRecord} {s : State} (hslot : (s.port p).slot = some r) :
    s.SamePortsBut p (s.riseOver p) := by
  rw [riseOver_eq hslot]
  split
  next => exact samePortsBut_trans (risen_samePortsBut p s) (closeCase_samePortsBut p _ _)
  next => exact samePortsBut_trans (risen_samePortsBut p s) (recycle_samePortsBut p _)

theorem riseOver_sameBut {p : PortId} {r : CaseRecord} {s : State} (hslot : (s.port p).slot = some r)
    (hstate : (s.port p).state = .riseTest) : s.SameBut [.ports, .store, .op, .free] (s.riseOver p) := by
  have hrisen := risen_sameBut p s
  have hstate' : ((s.risen p).port p).state ≠ .classify := by simp [risen_port_self, Port.risen, Port.mapSlot, hstate]
  rw [riseOver_eq hslot]
  split
  next => exact sameBut_trans hrisen (closeCase_sameBut_of_not_classify hstate' _) (by simp) (by simp)
  next => exact sameBut_trans hrisen (recycle_sameBut p _) (by simp) (by simp)

section

variable {p : PortId} {r : CaseRecord} {c : GasClass} {s : State}

theorem risen_closeCase_caseClosed (hslot : (s.port p).slot = some r) (res : CaseResult) :
    s.CaseClosed p { r with lastRise := some (s.riseOf p) } res ((s.risen p).closeCase p res) :=
  caseClosed_of_same ((pressureOr_cfg _ _).trans (pressureOr_cfg _ s)) (risen_sameBut p s .clock (by simp))
    (risen_sameBut p s .store (by simp)) (closeCase_caseClosed (risen_slot hslot) res)

theorem risen_gas (p : PortId) (s : State) : ((s.risen p).port p).gas = (s.port p).gas := by
  rw [risen_port_self]
  cases hslot : (s.port p).slot <;> simp [Port.gas, Port.risen, Port.mapSlot, hslot]

/-- The port once the test has sent it back to its last step. -/
theorem risen_recycle_port (hslot : (s.port p).slot = some r) (hgas : (s.port p).gas = some c) :
    ((s.risen p).recycle p).port p =
      (let x := ((s.port p).risen (s.riseOf p)).recycled (s.portSet (s.port p))
      if c = .hydro ∧ s.inhibited = true then x.toWait .inhibit
      else if s.accepting c = false then x.toWait .receiver
      else x.toExtract s.lc.paused c) := by
  have hcfg : (s.risen p).cfg = s.cfg := (pressureOr_cfg _ _).trans (pressureOr_cfg _ s)
  have hset : (s.risen p).portSet ((s.risen p).port p) = s.portSet (s.port p) := by
    rw [portSet_of_slot hslot, portSet_of_slot (risen_slot hslot), hcfg]
  have hlc : (s.risen p).lc = s.lc := risen_sameBut p s .conditions (by simp)
  have hrcv : (s.risen p).rcv c = s.rcv c := risen_sameBut p s (.receiver c) (by simp)
  have hinhibited : (s.risen p).inhibited = s.inhibited := by rw [State.inhibited, hlc]; rfl
  have haccepting : (s.risen p).accepting c = s.accepting c := by rw [State.accepting, hrcv]; rfl
  rw [recycle_port_self ((risen_gas p s).trans hgas), hset, risen_port_self, hinhibited, haccepting, hlc]

end

/-- The case, the step and the start pressure of a port that recycles, whatever R10's tests say. -/
theorem recycled_kept {g : KindSet} {rise : Nat} {x y : Port} {r : CaseRecord} (hslot : x.slot = some r)
    (hy : (∃ w, y = ((x.risen rise).recycled g).toWait w) ∨ ∃ b c, y = ((x.risen rise).recycled g).toExtract b c) :
    y.pStart = none ∧ y.slot = some { r with lastRise := some rise, recycles := r.recycles + 1 } ∧ y.k = some g.steps.length := by
  have hrecord : ((x.risen rise).recycled g).slot = some { r with lastRise := some rise, recycles := r.recycles + 1 } := by
    simp [Port.recycled, Port.risen, Port.startStep, Port.mapSlot, hslot]
  rcases hy with ⟨w, rfl⟩ | ⟨b, c, rfl⟩
  · exact ⟨rfl, hrecord, rfl⟩
  · cases b <;> cases c <;> exact ⟨rfl, hrecord, rfl⟩

/-- Settles O41: the two closes of R19, and the recycle by R10's tests. -/
theorem riseTestIsJudged : Obligations.RiseTestIsJudged := fun p r c n g s e hslot hgas hstate ht he hg => by
  subst he hg
  have hslot' : ((s.elapse n).port p).slot = some r := by simpa using hslot
  have hgas' : ((s.elapse n).port p).gas = some c := by simpa using hgas
  have hset : (s.elapse n).portSet ((s.elapse n).port p) = s.portSet (s.port p) := by
    rw [portSet_of_slot hslot', portSet_of_slot hslot]
    simp
  let rise := (s.elapse n).riseOf p
  let u := (s.elapse n).riseOver p
  have hjudged : u = match riseOutcome (s.portSet (s.port p)) rise { r with lastRise := some rise } with
      | .close res => ((s.elapse n).risen p).closeCase p res
      | .recycle => ((s.elapse n).risen p).recycle p := by
    rw [← hset]
    exact riseOver_eq hslot'
  have hrecycled := risen_recycle_port hslot' hgas'
  rw [hset] at hrecycled
  have hkept : ∀ y, y = (((s.elapse n).risen p).recycle p).port p → y.pStart = none ∧
      y.slot = some { r with lastRise := some rise, recycles := r.recycles + 1 } ∧
      y.k = some (s.portSet (s.port p)).steps.length := by
    rintro _ rfl
    refine recycled_kept hslot' ?_
    rw [hrecycled]
    dsimp only
    split
    · exact .inl ⟨_, rfl⟩
    · split
      · exact .inl ⟨_, rfl⟩
      · exact .inr ⟨_, _, rfl⟩
  refine ⟨u, rise, exec_holdTimerExpiry_of_running hstate ht, riseOver_sameBut hslot' (by simpa using hstate),
    riseOver_samePortsBut hslot', ?pStart, fun a b ha hb => ?rise, fun htight => ?tight, fun hrises hmost => ?residual,
    fun hrises hmore => ?recycles⟩
  case pStart =>
    rw [hjudged]
    split
    next res _ =>
      obtain ⟨-, -, -, hnone, -⟩ := risen_closeCase_caseClosed hslot' res
      exact hnone
    next => exact (hkept _ rfl).1
  case rise => exact riseOf_of_samples (by simpa using ha) (by simpa using hb)
  case tight =>
    rw [hjudged, riseOutcome_of_tight htight]
    exact risen_closeCase_caseClosed hslot' _
  case residual =>
    rw [hjudged, riseOutcome_of_residual (r := { r with lastRise := some rise }) hrises hmost]
    exact risen_closeCase_caseClosed hslot' _
  case recycles =>
    have hu : u = ((s.elapse n).risen p).recycle p := by rw [hjudged, riseOutcome_of_recycle (r := { r with lastRise := some rise }) hrises hmore]
    obtain ⟨-, hrecord, hstep⟩ := hkept _ rfl
    rw [hu]
    refine ⟨hrecord, hmore, hstep, ?_, ?_⟩
    · have hstore : ((s.elapse n).risen p).store = s.store := (risen_sameBut p (s.elapse n) .store (by simp)).trans (by simp)
      exact (recycle_sameBut p _ .store (by simp)).trans hstore
    · rw [hrecycled]
      dsimp only
      have haccepting : (s.elapse n).accepting c = s.accepting c := by simp
      have hpaused : (s.elapse n).lc.paused = s.lc.paused := by simp
      rw [haccepting, hpaused]
      split
      · exact ⟨rfl, rfl, rfl, rfl⟩
      · split
        · exact ⟨rfl, rfl, rfl, rfl⟩
        · cases s.lc.paused
          · cases c <;> exact ⟨rfl, rfl, rfl, rfl⟩
          · exact ⟨rfl, rfl, rfl, rfl⟩

end Sys2Proof.Machine
end

section
/-! PROOFS. A port's pressure sample (O42): the sample as every block reads it (R170), the steps it completes (R13), and what each port
state makes of it. -/

namespace Sys2Proof.Machine

/-- Over-range stands as 9999 (R170). -/
theorem sampleOf_hpa_pressure (v : Nat) : (sampleOf (.hpa v)).pressure = some (min v 9999) := by
  unfold sampleOf
  dsimp only
  split
  next hle => rw [Nat.min_eq_left hle]; rfl
  next hover => rw [Nat.min_eq_right (by omega)]; rfl

/-! ### The steps a sample completes (R13) -/

theorem target_isSome {g : KindSet} {j : Nat} (hlow : 1 ≤ j) (hhigh : j ≤ g.steps.length) : ∃ t, g.target j = some t :=
  ⟨(g.steps[j - 1]'(by omega)).target, by simp [KindSet.target, List.getElem?_eq_getElem (show j - 1 < g.steps.length by omega)]⟩

/-- From step k on, every step up to m is completed and step m + 1 is not: the sample completes up to m. -/
theorem completedTo_eq {g : KindSet} {hpa m fuel : Nat} (hsteps : m ≤ g.steps.length)
    (hnext : ∀ t, g.target (m + 1) = some t → t < hpa) {k : Nat} (hfirst : 1 ≤ k) (hk : k ≤ m + 1) (hfuel : m + 1 ≤ k + fuel)
    (hdone : ∀ j t, k ≤ j → j ≤ m → g.target j = some t → hpa ≤ t) : completedTo g hpa fuel k = m := by
  induction fuel generalizing k with
  | zero =>
    show k - 1 = m
    omega
  | succ fuel ih =>
    by_cases hlast : k = m + 1
    · subst hlast
      unfold completedTo
      split
      next t ht => exact if_neg (by have := hnext t ht; omega)
      next => rfl
    · obtain ⟨t, ht⟩ := target_isSome (g := g) hfirst (by omega)
      have hle : hpa ≤ t := hdone k t le_rfl (by omega) ht
      unfold completedTo
      rw [ht]
      dsimp only
      rw [if_pos hle]
      exact ih (by omega) (by omega) (by omega) fun j t hj => hdone j t (by omega)

section

variable {p : PortId} {hpa k m : Nat} {g : KindSet} {r : CaseRecord} {s : State}

theorem takeStepSample_of_completes (hk : (s.port p).k = some k) (hset : s.portSet (s.port p) = g)
    (hcompletes : completedTo g hpa g.steps.length k = m) :
    s.takeStepSample p hpa =
      (if m < k then s
      else
        let y := (s.port p).mapSlot fun r => { r with stepsDone := m }
        if m < g.steps.length then s.setPort p { y with k := some (m + 1), dwell := .running (g.dwellMs (m + 1)) }
        else (s.setPort p y).toRiseTest p) := by
  unfold State.takeStepSample
  dsimp only
  rw [hk, hset]
  dsimp only
  rw [hcompletes]

/-- The three outcomes: no step, a step that remains, and the rise test. -/
theorem takeStepSample_outcome (hk : (s.port p).k = some k) (hslot : (s.port p).slot = some r) (hset : s.portSet (s.port p) = g)
    (hcompletes : completedTo g hpa g.steps.length k = m) (hkm : k ≤ m + 1) (hsteps : m ≤ g.steps.length) :
    s.SameBut [.ports] (s.takeStepSample p hpa) ∧ s.SamePortsBut p (s.takeStepSample p hpa) ∧
      (m + 1 = k → (s.takeStepSample p hpa).port p = s.port p) ∧
      (k ≤ m → m < g.steps.length →
        (s.takeStepSample p hpa).port p =
          { s.port p with
            slot := some { r with stepsDone := m }, k := some (m + 1), dwell := .running (g.dwellMs (m + 1)) }) ∧
      (k ≤ m → m = g.steps.length →
        ((s.takeStepSample p hpa).port p).state = .riseTest ∧
          ((s.takeStepSample p hpa).port p).slot = some { r with stepsDone := m } ∧
          ((s.takeStepSample p hpa).port p).valveH = false ∧ ((s.takeStepSample p hpa).port p).valveK = false ∧
          ((s.takeStepSample p hpa).port p).k = some k ∧
          ((s.takeStepSample p hpa).port p).hold = .running (g.holdS * 1000) ∧
          ((s.takeStepSample p hpa).port p).pStart = none) := by
  have hmapped : ((s.port p).mapSlot fun r => { r with stepsDone := m }) = { s.port p with slot := some { r with stepsDone := m } } := by
    simp [Port.mapSlot, hslot]
  rw [takeStepSample_of_completes hk hset hcompletes]
  dsimp only
  by_cases hnone : m < k
  · rw [if_pos hnone]
    exact ⟨sameBut_refl _ s, fun _ _ => rfl, fun _ => rfl, fun h => by omega, fun h => by omega⟩
  · rw [if_neg hnone]
    by_cases hmore : m < g.steps.length
    · rw [if_pos hmore, hmapped]
      exact ⟨setPort_sameBut p _ s, fun q hq => State.port_setPort_ne hq _ s, fun h => by omega,
        fun _ _ => State.port_setPort_self p _ s, fun _ h => by omega⟩
    · rw [if_neg hmore, hmapped]
      refine ⟨sameBut_trans (setPort_sameBut p _ s) (toRiseTest_sameBut p _) (by simp) (by simp),
        samePortsBut_trans (fun q hq => State.port_setPort_ne hq _ s) (toRiseTest_samePortsBut p _), fun h => by omega,
        fun _ h => by omega, fun _ _ => ?_⟩
      rw [toRiseTest_port_self, State.port_setPort_self]
      refine ⟨rfl, rfl, rfl, rfl, hk, ?_, rfl⟩
      rw [← hset, portSet_of_slot hslot, portSet_of_slot (r := { r with stepsDone := m }) rfl]
      simp

end

/-! ### A sample at its port (R13, R18, R23) -/

section

variable {p : PortId} {x : Sample} {s : State}

theorem portTakesSample_of_fault (hfault : x.pressure = none) :
    s.portTakesSample p x = if (s.port p).state.abortable then s.closeCase p .abortedSensor else s := by
  unfold State.portTakesSample
  rw [hfault]

variable {hpa : Nat}

theorem portTakesSample_of_extract (hpressure : x.pressure = some hpa) (hstate : (s.port p).state = .extract)
    (hopen : (s.port p).valveOpen = true) : s.portTakesSample p x = s.takeStepSample p hpa := by
  unfold State.portTakesSample
  simp [hpressure, hstate, hopen]

theorem portTakesSample_of_riseTest (hpressure : x.pressure = some hpa) (hstate : (s.port p).state = .riseTest) :
    s.portTakesSample p x =
      if (s.port p).pStart = none ∧ s.lc.paused = false then s.setPort p { s.port p with pStart := some hpa } else s := by
  unfold State.portTakesSample
  simp [hpressure, hstate, State.modPort]

theorem portTakesSample_of_other (hpressure : x.pressure = some hpa) (hrise : (s.port p).state ≠ .riseTest)
    (hshut : (s.port p).state = .extract → (s.port p).valveOpen = false) : s.portTakesSample p x = s := by
  unfold State.portTakesSample
  rw [hpressure]
  dsimp only
  split
  next h => exact if_neg (by simp [hshut h])
  next h => exact absurd h hrise
  next => rfl

end

/-! ### The command -/

/-- The sample is the latest, and the channel's timer runs again (R169, R171). -/
abbrev State.sampled (p : PortId) (x : Sample) (s : State) : State :=
  s.setField { s.field with samples := s.field.samples.set p x, sampleTs := s.field.sampleTs.set p (.running 50) }

theorem exec_portSample_of_running {p : PortId} {n : Nat} {s : State} (ht : s.field.sampleTs.get p = .running n) (signal : Signal) :
    exec (.portSample p signal) s =
      .next (if s.loaded then ((s.elapse n).sampled p (sampleOf signal)).portTakesSample p (sampleOf signal)
        else (s.elapse n).sampled p (sampleOf signal)).finish := by
  show Host.Outcome.next (State.finish (s.onExpiry (s.field.sampleTs.get p) _)) = _
  rw [ht, State.onExpiry_running]
  rfl

/-- Settles O42: the sample is the latest, and the port takes it by its state. -/
theorem portSampleActsByState : Obligations.PortSampleActsByState := fun p signal n s e ht he => by
  have he' : e = (s.elapse n).sampled p (sampleOf signal) := by
    rw [he]
    cases signal <;> rfl
  have hport : e.port p = (s.port p).elapse n := by simp [he']
  have hstate : (e.port p).state = (s.port p).state := by simp [hport]
  have hexec := exec_portSample_of_running ht signal
  rw [← he'] at hexec
  refine ⟨fun hunloaded => ?configFault, fun hloaded hfault => ⟨fun r habortable hslot => ?aborts, fun hnot => ?quiet⟩,
    fun v hloaded hgood => ⟨fun hrise hshut => ?other, fun hrise => ?rise, fun r g k m hextract hopen hslot hg hk hfirst hkm hsteps
      hdone hnext => ?steps⟩⟩
  case configFault => rw [hexec, if_neg (by simp [hunloaded])]
  all_goals rw [if_pos hloaded] at hexec
  case aborts =>
    rw [portTakesSample_of_fault (by rw [hfault]; rfl), hstate, if_pos habortable] at hexec
    exact ⟨_, hexec, closeCase_sameBut p _ e, closeCase_samePortsBut p _ e,
      closeCase_caseClosed (by rw [hport]; exact hslot) _⟩
  case quiet =>
    rw [hexec, portTakesSample_of_fault (by rw [hfault]; rfl), hstate, if_neg (by simp [hnot])]
  all_goals have hpressure : (sampleOf signal).pressure = some (min v 9999) := by rw [hgood, sampleOf_hpa_pressure]
  case other =>
    rw [hexec, portTakesSample_of_other hpressure (by rwa [hstate]) (by rw [hport]; exact hshut)]
  case rise =>
    have hlc : e.lc.paused = s.lc.paused := by simp [he']
    have hstart : (e.port p).pStart = (s.port p).pStart := by simp [hport]
    rw [hexec, portTakesSample_of_riseTest hpressure (by rwa [hstate]), hlc, hstart]
    split <;> rfl
  case steps =>
    have hset : e.portSet (e.port p) = g := by
      rw [hg, portSet_of_slot hslot, portSet_of_slot (r := r) (by rw [hport]; exact hslot)]
      simp [he']
    rw [portTakesSample_of_extract hpressure (by rwa [hstate]) (by rw [hport]; exact hopen)] at hexec
    have hcompletes := completedTo_eq hsteps hnext hfirst hkm (fuel := g.steps.length) (by omega) hdone
    exact ⟨_, hexec, takeStepSample_outcome (by rw [hport]; exact hk) (by rw [hport]; exact hslot) hset hcompletes hkm hsteps⟩

end Sys2Proof.Machine
end

section
/-! PROOFS. The header's gauge and its selector lines (O43): the effect of a hold against both classes (R118), the two flags (R116, R117),
their repeat timers, and a selector conflict (R132). -/

namespace Sys2Proof.Machine

/-! ### A hold against both classes (R115, R118) -/

section

variable {c : GasClass} {s t u : State}

theorem holdTaken_of_same (hdstate : t.agent.dstate = s.agent.dstate) (hserial : t.agent.purgeSerial = s.agent.purgeSerial)
    (h : t.HoldTaken c u) : s.HoldTaken c u := by
  unfold State.HoldTaken at h ⊢
  rwa [hdstate, hserial] at h

theorem holdTaken_holdEffect (hsought : s.agent.sought = some c) : s.HoldTaken c (s.holdEffect .all) := by
  obtain ⟨hlistens, hpurging, hflowing⟩ := holdEffect_of_bars (s := s) (h := .all) hsought rfl
  refine ⟨fun hstate => ?flowing, fun hstate => ?purging, fun hstate => ?listens, fun hstate => ?rests⟩
  case flowing =>
    obtain ⟨hback, hshut⟩ := endFlow_backoff_shut hsought false true
    rw [hflowing hstate]
    exact ⟨hback, hshut c⟩
  case purging =>
    rw [hpurging hstate, abortPurge_backoff_agent]
    exact ⟨rfl, rfl, rfl, rfl, rfl⟩
  case listens =>
    rw [hlistens hstate]
    exact ⟨hstate, rfl⟩
  case rests =>
    simp only [List.mem_cons, List.not_mem_nil, or_false] at hstate
    rw [holdEffect_eq_self] <;> rcases hstate with h | h | h <;> simp [h]

theorem holdEnd_eq_self (hidle : s.agent.dstate ≠ .idle) (hwaiting : s.agent.dstate ≠ .waiting) (h : HoldClass) :
    s.holdEnd h = s := by
  unfold State.holdEnd
  split
  next hstate => exact absurd hstate hidle
  next hstate => exact absurd hstate hwaiting
  next => rfl

/-- The end of another hold in the same event undoes none of it. -/
theorem holdTaken_holdEnd (h : s.HoldTaken c u) : s.HoldTaken c (u.holdEnd .all) := by
  obtain ⟨hflowing, hpurging, hlistens, hrests⟩ := h
  have hself : ∀ {d : DState}, u.agent.dstate = d → d ≠ .idle → d ≠ .waiting → u.holdEnd .all = u :=
    fun hu hidle hwaiting => holdEnd_eq_self (by rwa [hu]) (by rwa [hu]) .all
  refine ⟨fun hstate => ?flowing, fun hstate => ?purging, fun hstate => ?listens, fun hstate => ?rests⟩
  case flowing =>
    rw [hself (hflowing hstate).1 (by simp) (by simp)]
    exact hflowing hstate
  case purging =>
    rw [hself (hpurging hstate).1 (by simp) (by simp)]
    exact hpurging hstate
  case listens =>
    rw [hself (hlistens hstate).1 (by simp) (by simp)]
    exact hlistens hstate
  case rests =>
    have hu := hrests hstate
    simp only [List.mem_cons, List.not_mem_nil, or_false] at hstate
    rw [hself hu (by rcases hstate with h | h | h <;> simp [h]) (by rcases hstate with h | h | h <;> simp [h])]
    exact hu

/-! ### A HOLD of the station's own -/

theorem setHold_all (a : Agent) : a.setHold .all = { a with heldH := .running 2000, heldK := .running 2000 } := rfl

theorem offerHoldOnly_all_agent (r : HoldReason) (s : State) : (s.offerHoldOnly .all r).agent = s.agent.setHold .all :=
  offer_agent _ _

theorem offerHold_all_bothHeld (r : HoldReason) (s : State) : s.BothHeld (s.offerHold .all r) := by
  have hheld := holdEffect_holds .all (s.offerHoldOnly .all r)
  rw [offerHoldOnly_all_agent] at hheld
  exact hheld

theorem holdTaken_offerHold (hsought : s.agent.sought = some c) (r : HoldReason) : s.HoldTaken c (s.offerHold .all r) := by
  have hagent := offerHoldOnly_all_agent r s
  exact holdTaken_of_same (by rw [hagent]; rfl) (by rw [hagent]; rfl)
    (holdTaken_holdEffect (s := s.offerHoldOnly .all r) (by rw [hagent]; exact hsought))

theorem bothHeld_of_same (hreasonH : t.agent.reasonH = s.agent.reasonH) (hreasonK : t.agent.reasonK = s.agent.reasonK)
    (h : t.BothHeld u) : s.BothHeld u := by
  unfold State.BothHeld at h ⊢
  rwa [hreasonH, hreasonK] at h

end

/-! ### The gauge (R116, R117, R172) -/

theorem headerFaults_of_fault {s : State} (hfault : s.agent.headerFault = true) : s.headerFaults = s := if_pos hfault

theorem headerFaults_of_good {s : State} (hgood : s.agent.headerFault = false) :
    s.headerFaults = (s.setAgent { s.agent with headerFault := true }).holdEffect .all := if_neg (by simp [hgood])

theorem headerFaults_flags (s : State) :
    s.headerFaults.field = s.field ∧ s.headerFaults.agent.headerFault = true ∧
      s.headerFaults.agent.overpressure = s.agent.overpressure := by
  cases hfault : s.agent.headerFault with
  | true => rw [headerFaults_of_fault hfault]; exact ⟨rfl, hfault, rfl⟩
  | false => rw [headerFaults_of_good hfault]; simp

theorem holdTaken_headerFaults {c : GasClass} {s : State} (hgood : s.agent.headerFault = false) (hsought : s.agent.sought = some c) :
    s.HoldTaken c s.headerFaults := by
  rw [headerFaults_of_good hgood]
  exact holdTaken_of_same (t := s.setAgent { s.agent with headerFault := true }) rfl rfl (holdTaken_holdEffect hsought)

/-- What a good sample makes of the two flags and the repeat timer, and of nothing else. -/
theorem takePressure_eq (limit hpa : Nat) (a : Agent) :
    a.takePressure limit hpa =
      { a with
        headerFault := false
        overpressure := if limit < hpa then true else if hpa + 50 < limit then false else a.overpressure
        overRepeat :=
          if limit < hpa then (if a.overpressure then a.overRepeat else .running 1000)
          else if hpa + 50 < limit then .stopped else a.overRepeat } := by
  have hband : hpa < limit - Config.resumeBand ↔ hpa + 50 < limit := by
    have : Config.resumeBand = 50 := rfl
    omega
  unfold Agent.takePressure
  simp only [hband]
  split
  next =>
    cases hover : a.overpressure
    · rfl
    · simp [← hover]
  next => split <;> rfl

/-- The good sample's flags, before the holds that begin and end with them. -/
abbrev State.pressureTaken (hpa : Nat) (s : State) : State := s.setAgent (s.agent.takePressure s.cfg.header.overLimit hpa)

theorem headerPressure_cases (hpa : Nat) (s : State) :
    ∃ t, (t = s.pressureTaken hpa ∨ t = (s.pressureTaken hpa).offerHold .all .overpressure) ∧
      (s.cfg.header.overLimit < hpa → s.agent.overpressure = false → t = (s.pressureTaken hpa).offerHold .all .overpressure) ∧
      (s.headerPressure hpa = t ∨ s.headerPressure hpa = t.holdEnd .all) := by
  have heq := takePressure_eq s.cfg.header.overLimit hpa s.agent
  refine ⟨if ((s.agent.takePressure s.cfg.header.overLimit hpa).overpressure && !s.agent.overpressure) = true then
    (s.pressureTaken hpa).offerHold .all .overpressure else s.pressureTaken hpa, ?_, fun hover hlow => ?_, ?_⟩
  · split
    · exact .inr rfl
    · exact .inl rfl
  · rw [if_pos]
    simp [heq, hover, hlow]
  · unfold State.headerPressure
    dsimp only
    split
    · exact .inr rfl
    · exact .inl rfl

theorem headerPressure_flags (hpa : Nat) (s : State) :
    (s.headerPressure hpa).field = s.field ∧ (s.headerPressure hpa).agent.headerFault = false ∧
      (s.headerPressure hpa).agent.overpressure = (s.agent.takePressure s.cfg.header.overLimit hpa).overpressure ∧
      (s.headerPressure hpa).agent.overRepeat = (s.agent.takePressure s.cfg.header.overLimit hpa).overRepeat := by
  have hfault : (s.agent.takePressure s.cfg.header.overLimit hpa).headerFault = false := by rw [takePressure_eq]
  obtain ⟨t, ht, -, hu⟩ := headerPressure_cases hpa s
  rcases hu with hu | hu <;> rw [hu] <;> rcases ht with rfl | rfl <;> simp [hfault]

theorem headerPressure_rises {hpa : Nat} {s : State} (hover : s.cfg.header.overLimit < hpa) (hlow : s.agent.overpressure = false) :
    s.BothHeld (s.headerPressure hpa) ∧ ∀ c, s.agent.sought = some c → s.HoldTaken c (s.headerPressure hpa) := by
  have heq := takePressure_eq s.cfg.header.overLimit hpa s.agent
  obtain ⟨t, -, hrises, hu⟩ := headerPressure_cases hpa s
  have ht := hrises hover hlow
  have hheld : s.BothHeld t := by
    rw [ht]
    exact bothHeld_of_same (t := s.pressureTaken hpa) ((congrArg Agent.reasonH heq).trans rfl) ((congrArg Agent.reasonK heq).trans rfl)
      (offerHold_all_bothHeld _ _)
  have htaken : ∀ c, s.agent.sought = some c → s.HoldTaken c t := fun c hsought => by
    rw [ht]
    exact holdTaken_of_same (t := s.pressureTaken hpa) ((congrArg Agent.dstate heq).trans rfl) ((congrArg Agent.purgeSerial heq).trans rfl)
      (holdTaken_offerHold ((congrArg Agent.sought heq).trans hsought) _)
  rcases hu with hu | hu <;> rw [hu]
  · exact ⟨hheld, htaken⟩
  · exact ⟨by simpa [State.BothHeld] using hheld, fun c hsought => holdTaken_holdEnd (htaken c hsought)⟩

/-- The sample is the latest of the header's channel, whose timer runs again (R169, R172). -/
abbrev State.headerSampled (x : Sample) (s : State) : State :=
  s.setField { s.field with headerSample := x, headerT := .running 50 }

theorem exec_headerSample_of_running {n : Nat} {s : State} (hloaded : s.loaded = true) (ht : s.field.headerT = .running n)
    (signal : Signal) :
    exec (.headerSample signal) s =
      .next (((s.elapse n).headerSampled (sampleOf signal)).headerTakesSample (sampleOf signal)).finish := by
  show Host.Outcome.next (State.finish (s.onExpiry s.field.headerT _)) = _
  rw [ht, State.onExpiry_running]
  exact congrArg (fun t => Host.Outcome.next (State.finish t)) (if_pos hloaded)

theorem headerTakesSample_of_hpa (v : Nat) (s : State) :
    s.headerTakesSample (sampleOf (.hpa v)) = s.headerPressure (min v 9999) := by
  unfold State.headerTakesSample
  rw [sampleOf_hpa_pressure]

/-! ### The repeat timers (R116, R132) -/

section

variable {n : Nat} {s : State}

theorem exec_overpressureRepeat_of_running (ht : s.agent.overRepeat = .running n) :
    exec .overpressureRepeat s = .next (s.elapse n).overpressureAgain.finish := by
  show Host.Outcome.next (State.finish (s.onExpiry s.agent.overRepeat _)) = _
  rw [ht, State.onExpiry_running]

theorem exec_conflictRepeatExpiry_of_running (ht : s.agent.conflictRepeat = .running n) :
    exec .conflictRepeatExpiry s = .next (s.elapse n).conflictAgain.finish := by
  show Host.Outcome.next (State.finish (s.onExpiry s.agent.conflictRepeat _)) = _
  rw [ht, State.onExpiry_running]

theorem overpressureAgain_of_up (hup : s.agent.overpressure = true) :
    s.overpressureAgain.agent.overRepeat = .running 1000 ∧ s.BothHeld s.overpressureAgain := by
  have heq : s.overpressureAgain = (s.setAgent { s.agent with overRepeat := .running 1000 }).offerHold .all .overpressure := if_pos hup
  rw [heq]
  exact ⟨by simp, bothHeld_of_same rfl rfl (offerHold_all_bothHeld _ _)⟩

theorem overpressureAgain_of_down (hdown : s.agent.overpressure = false) :
    s.overpressureAgain = s.setAgent { s.agent with overRepeat := .stopped } := if_neg (by simp [hdown])

theorem conflictAgain_of_up (hup : s.agent.conflict = true) :
    s.conflictAgain.agent.conflictRepeat = .running 2000 ∧ s.BothHeld s.conflictAgain := by
  have heq : s.conflictAgain = (s.setAgent { s.agent with conflictRepeat := .running 2000 }).offerHold .all .conflict := if_pos hup
  rw [heq]
  exact ⟨by simp, bothHeld_of_same rfl rfl (offerHold_all_bothHeld _ _)⟩

theorem conflictAgain_of_down (hdown : s.agent.conflict = false) :
    s.conflictAgain = s.setAgent { s.agent with conflictRepeat := .stopped } := if_neg (by simp [hdown])

end

/-! ### A selector conflict (R132) -/

section

variable {s : State}

/-- The conflict as the agent first takes it: the flag, and the view UNKNOWN. -/
abbrev State.conflictNoted (s : State) : State :=
  (s.setAgent { s.agent with conflict := true, viewClass := none }).raise .headerConflict

/-- The conflict HOLD is due: no repeat of it runs. -/
abbrev State.conflictHoldDue (s : State) : Bool := !s.agent.conflictRepeat.isRunning

/-- The conflict once the agent has stopped and its repeat timer runs. -/
abbrev State.conflictHeld (s : State) : State :=
  let t := s.conflictNoted.conflictStops s.conflictHoldDue
  if s.conflictHoldDue then t.setAgent { t.agent with conflictRepeat := .running 2000 } else t

theorem conflictBegins_eq (s : State) :
    s.conflictBegins = s.conflictHeld.viewReaction s.conflictHeld.flowingPeers s.agent.viewClass.isSome := rfl

theorem conflictStops_agent_flags (hold : Bool) (t : State) :
    (t.conflictStops hold).agent.conflictRepeat = t.agent.conflictRepeat ∧ (t.conflictStops hold).agent.conflict = t.agent.conflict := by
  unfold State.conflictStops
  (repeat' split) <;> simp

theorem conflictStops_viewClass {t : State} (hview : t.agent.viewClass = none) (hold : Bool) :
    (t.conflictStops hold).agent.viewClass = none := by
  unfold State.conflictStops
  split
  · simpa using hview
  · split
    · unfold State.offerHold State.holdEffect
      have hoffered : (t.offerHoldOnly .all .conflict).agent.viewClass = none := by simpa using hview
      (repeat' split) <;> simp_all [abortPurge_backoff_agent, Agent.goTo]
    · exact hview

theorem conflictStops_of_flowing {d : GasClass} {t : State} (hstate : t.agent.dstate = .flowing) (hsought : t.agent.sought = some d)
    (hold : Bool) :
    (t.conflictStops hold).agent.dstate = .backoff ∧
      ∀ c, (t.conflictStops hold).agent.disch c = false ∧ (t.conflictStops hold).agent.sel c = false := by
  rw [State.conflictStops, if_pos hstate]
  exact endFlow_backoff_shut hsought hold true

theorem conflictStops_bothHeld {t : State} (hsought : t.agent.dstate = .flowing → t.agent.sought ≠ none) :
    t.BothHeld (t.conflictStops true) := by
  unfold State.conflictStops
  split
  next hstate =>
    obtain ⟨d, hd⟩ := Option.ne_none_iff_exists'.mp (hsought hstate)
    rw [State.BothHeld, endFlow_backoff_agent hd]
    exact ⟨rfl, rfl, rfl, rfl⟩
  next => exact offerHold_all_bothHeld _ t

theorem conflictStops_flag {t : State} {e : EventKind} (hflag : t.op.flag e = true) (hold : Bool) :
    (t.conflictStops hold).op.flag e = true := by
  unfold State.conflictStops
  split
  · exact endFlow_flag _ _ _ _ e hflag
  · split
    · exact offerHold_flag _ _ _ e hflag
    · exact hflag

theorem conflictBegins_shows (s : State) :
    s.conflictBegins.agent.conflict = true ∧ s.conflictBegins.agent.viewClass = none ∧
      s.conflictBegins.op.flag .headerConflict = true := by
  have hview := conflictStops_viewClass (t := s.conflictNoted) rfl s.conflictHoldDue
  have hconflict := (conflictStops_agent_flags s.conflictHoldDue s.conflictNoted).2
  have hflag := conflictStops_flag (t := s.conflictNoted) (raise_flag_self .headerConflict _) s.conflictHoldDue
  rw [conflictBegins_eq]
  unfold State.conflictHeld
  dsimp only
  split
  · exact ⟨by simp [hconflict], by simp [hview], viewReaction_flag _ _ _ _ hflag⟩
  · exact ⟨by simp [hconflict], by simp [hview], viewReaction_flag _ _ _ _ hflag⟩

theorem conflictBegins_of_due (hdue : s.agent.conflictRepeat.isRunning = false)
    (hsought : s.agent.dstate = .flowing → s.agent.sought ≠ none) :
    s.conflictBegins.agent.conflictRepeat = .running 2000 ∧ s.BothHeld s.conflictBegins := by
  have hhold : s.conflictHoldDue = true := by simp [State.conflictHoldDue, hdue]
  have hheld : s.BothHeld (s.conflictNoted.conflictStops true) :=
    bothHeld_of_same (t := s.conflictNoted) rfl rfl (conflictStops_bothHeld hsought)
  rw [conflictBegins_eq]
  unfold State.conflictHeld
  rw [hhold]
  exact ⟨by simp, by simpa [State.BothHeld] using hheld⟩

theorem conflictBegins_repeats (hsought : s.agent.dstate = .flowing → s.agent.sought ≠ none) :
    s.conflictBegins.agent.conflictRepeat.isRunning = true := by
  cases hdue : s.agent.conflictRepeat.isRunning with
  | false => rw [(conflictBegins_of_due hdue hsought).1]; rfl
  | true =>
    have hhold : s.conflictHoldDue = false := by simp [State.conflictHoldDue, hdue]
    have hkept := (conflictStops_agent_flags false s.conflictNoted).1
    rw [conflictBegins_eq]
    unfold State.conflictHeld
    rw [hhold]
    simp [hkept, hdue]

theorem conflictBegins_of_flowing {d : GasClass} (hstate : s.agent.dstate = .flowing) (hsought : s.agent.sought = some d) :
    s.conflictBegins.agent.dstate = .backoff ∧
      ∀ c, s.conflictBegins.agent.disch c = false ∧ s.conflictBegins.agent.sel c = false := by
  obtain ⟨hback, hshut⟩ := conflictStops_of_flowing (t := s.conflictNoted) hstate hsought s.conflictHoldDue
  have hstops : s.conflictHeld.agent.dstate = .backoff ∧ ∀ c, s.conflictHeld.agent.disch c = false ∧ s.conflictHeld.agent.sel c = false := by
    unfold State.conflictHeld
    dsimp only
    split
    · exact ⟨hback, fun c => ⟨by rw [← (hshut c).1]; cases c <;> rfl, by rw [← (hshut c).2]; cases c <;> rfl⟩⟩
    · exact ⟨hback, hshut⟩
  rw [conflictBegins_eq, viewReaction_eq_self (by simp [hstops.1]) (by simp [hstops.1]) (by simp [hstops.1])]
  exact hstops

theorem exec_readbackAssert_of_latch {c : GasClass} (hlatch : (s.field.input (readbackLine c)).assertLatch = true) :
    exec (.readbackAssert c) s = .next ((s.edgeTaken (readbackLine c)).readbackRises c).finish :=
  congrArg (fun t => Host.Outcome.next (State.finish t)) (takeEdge_of_latch (l := readbackLine c) (b := true) hlatch (State.readbackRises c))

theorem edgeTaken_other_readback (c : GasClass) (s : State) :
    (s.edgeTaken (readbackLine c)).field.input (readbackLine c.other) = s.field.input (readbackLine c.other) := by
  cases c <;> rfl

end

/-- Settles O43: the gauge's two flags, the two repeat timers, and the selector conflict. -/
theorem headerFlagsHoldTheStation : Obligations.HeaderFlagsHoldTheStation := fun s hloaded => by
  refine ⟨fun n ht => ⟨?fault, fun v => ?good⟩, fun n ht => ?overRepeat, fun n ht => ?conflictRepeat,
    fun c hlatch => ⟨fun hother hsought => ?conflict, fun hother => ?edge⟩⟩
  case fault =>
    have hexec := exec_headerSample_of_running hloaded ht .belowLiveZero
    let t := (s.elapse n).headerSampled .sensorFault
    obtain ⟨hfield, hfault, hover⟩ := headerFaults_flags t
    refine ⟨t.headerFaults, hexec, by rw [hfield]; rfl, by rw [hfield]; rfl, hfault, hover.trans (by simp [t]),
      fun hgood c hsought => ?_⟩
    exact holdTaken_of_same (t := t) (by simp [t]) (by simp [t])
      (holdTaken_headerFaults (s := t) (by simpa [t] using hgood) (by simpa [t] using hsought))
  case good =>
    have hexec := exec_headerSample_of_running hloaded ht (.hpa v)
    let t := (s.elapse n).headerSampled (sampleOf (.hpa v))
    have htakes : t.headerTakesSample (sampleOf (.hpa v)) = t.headerPressure (min v 9999) := headerTakesSample_of_hpa v t
    obtain ⟨hfield, hfault, hover, hrepeat⟩ := headerPressure_flags (min v 9999) t
    have hlimit : t.cfg = s.cfg := by simp [t]
    have hlow : t.agent.overpressure = s.agent.overpressure := by simp [t]
    rw [takePressure_eq, hlimit, hlow] at hover hrepeat
    refine ⟨t.headerPressure (min v 9999), by rw [hexec, htakes], by rw [hfield]; rfl, by rw [hfield]; rfl, hfault, hover,
      fun hbelow => ?_, fun habove hdown => ⟨?_, ?_⟩⟩
    · rw [hrepeat]
      dsimp only
      rw [if_neg (by omega), if_pos hbelow]
    · rw [hrepeat]
      simp [habove, hdown]
    · obtain ⟨hheld, htaken⟩ := headerPressure_rises (s := t) (by rwa [hlimit]) (hlow.trans hdown)
      exact ⟨bothHeld_of_same (t := t) (by simp [t]) (by simp [t]) hheld,
        fun c hsought => holdTaken_of_same (t := t) (by simp [t]) (by simp [t]) (htaken c (by simpa [t] using hsought))⟩
  case overRepeat =>
    refine ⟨_, exec_overpressureRepeat_of_running ht, fun hup => ?_, fun hdown => ?_⟩
    · obtain ⟨hrepeat, hheld⟩ := overpressureAgain_of_up (s := s.elapse n) (by simpa using hup)
      exact ⟨hrepeat, bothHeld_of_same (by simp) (by simp) hheld⟩
    · rw [overpressureAgain_of_down (by simpa using hdown)]
      exact ⟨setAgent_sameBut _ _, rfl⟩
  case conflictRepeat =>
    refine ⟨_, exec_conflictRepeatExpiry_of_running ht, fun hup => ?_, fun hdown => ?_⟩
    · obtain ⟨hrepeat, hheld⟩ := conflictAgain_of_up (s := s.elapse n) (by simpa using hup)
      exact ⟨hrepeat, bothHeld_of_same (by simp) (by simp) hheld⟩
    · rw [conflictAgain_of_down (by simpa using hdown)]
      exact ⟨setAgent_sameBut _ _, rfl⟩
  case conflict =>
    let t := s.edgeTaken (readbackLine c)
    have hagent : t.agent = s.agent := edgeTaken_sameBut _ s .agent (by simp)
    have hrises : t.readbackRises c = t.conflictBegins :=
      if_pos (by rw [isAsserted_eq, edgeTaken_other_readback, hother]; rfl)
    have hsought' : t.agent.dstate = .flowing → t.agent.sought ≠ none := by rwa [hagent]
    obtain ⟨hconflict, hview, hflag⟩ := conflictBegins_shows t
    refine ⟨t.conflictBegins, by rw [exec_readbackAssert_of_latch hlatch, hrises], hconflict, hview, hflag,
      conflictBegins_repeats hsought', fun hdue => ?_, fun d hd hstate => ?_⟩
    · obtain ⟨hrepeat, hheld⟩ := conflictBegins_of_due (s := t) (by rwa [hagent]) hsought'
      exact ⟨hrepeat, bothHeld_of_same (by rw [hagent]) (by rw [hagent]) hheld⟩
    · obtain ⟨hback, hshut⟩ := conflictBegins_of_flowing (s := t) (d := d) (by rwa [hagent]) (by rwa [hagent])
      exact ⟨hback, hshut d⟩
  case edge =>
    have hquiet : (s.edgeTaken (readbackLine c)).readbackRises c = s.edgeTaken (readbackLine c) :=
      if_neg (by rw [edgeTaken_other_readback, not_isAsserted hother]; simp)
    exact ⟨_, by rw [exec_readbackAssert_of_latch hlatch, hquiet], edgeTaken_sameBut _ s, rfl⟩

end Sys2Proof.Machine
end

section
/-! PROOFS. The faults and the stalls of a receiver (O45): what its notices leave at its ports (R47), at the receiver and at the header
agent (R46, R130, R134), and the entry to FAULT (R52, R53). -/

namespace Sys2Proof.Machine

/-! ### Notices to the ports (R15, R47) -/

theorem portNotice_shuts {p : PortId} {c : GasClass} {s : State} (hgas : (s.port p).gas = some c)
    (hstate : (s.port p).state = .extract) : (s.portNotice c false p).port p = (s.port p).toWait .receiver := by
  unfold State.portNotice
  rw [if_pos hgas, hstate]
  exact modPort_port_self p _ s

/-- A receiver that is not ACCEPTING shuts every port that extracts to it. -/
theorem tellPorts_shuts {p : PortId} {c : GasClass} {s : State} (hrefuses : s.accepting c = false)
    (hgas : (s.port p).gas = some c) (hstate : (s.port p).state = .extract) :
    (s.tellPorts c).port p = (s.port p).toWait .receiver := by
  obtain ⟨t, -, hbefore, hafter⟩ := eachPort_port (keeps := fun _ => True) (f := State.portNotice c (s.accepting c))
    (fun _ _ _ => trivial) (portNotice_samePortsBut c _) (s := s) trivial p
  rw [State.tellPorts, hafter, hrefuses, portNotice_shuts (by rwa [hbefore]) (by rwa [hbefore]), hbefore]

theorem toExtract_slot (paused : Bool) (c : GasClass) (x : Port) : (x.toExtract paused c).slot = x.slot := by
  cases paused <;> cases c <;> rfl

theorem route_slot (p : PortId) (s : State) : ((s.route p).port p).slot = (s.port p).slot := by
  cases hgas : (s.port p).gas with
  | none => simp [State.route, hgas]
  | some c =>
    rw [route_port hgas]
    split
    · rfl
    · split
      · rfl
      · exact toExtract_slot _ c _

theorem portNotice_slot (c : GasClass) (accepting : Bool) (p : PortId) (s : State) :
    ((s.portNotice c accepting p).port p).slot = (s.port p).slot := by
  unfold State.portNotice
  split
  · split
    · split
      · rfl
      · rw [modPort_port_self]
        rfl
    · split
      · unfold State.recheck
        split
        · rfl
        · exact route_slot p s
      · rfl
    · rfl
  · rfl

/-- A notice moves ports, and leaves their cases alone. -/
theorem tellPorts_slot (c : GasClass) (p : PortId) (s : State) : ((s.tellPorts c).port p).slot = (s.port p).slot := by
  obtain ⟨t, -, hbefore, hafter⟩ := eachPort_port (keeps := fun _ => True) (f := State.portNotice c (s.accepting c))
    (fun _ _ _ => trivial) (portNotice_samePortsBut c _) (s := s) trivial p
  rw [State.tellPorts, hafter, portNotice_slot, hbefore]

/-! ### Notices to the agent (R46, R130, R134) -/

theorem idleCheck_dstate_ne_flowing {s : State} (hstate : s.agent.dstate ≠ .flowing) : s.idleCheck.agent.dstate ≠ .flowing := by
  unfold State.idleCheck
  split
  · split
    · rcases toListen_cases .flow _ s with h | h <;> rw [h]
      · rw [listenTold_agent]
        simp [Agent.listens, Agent.goTo]
      · rw [toBackoff_agent]
        simp [Agent.goTo]
    · exact hstate
  · exact hstate

theorem toIdle_dstate_ne_flowing (s : State) : s.toIdle.agent.dstate ≠ .flowing := by
  refine idleCheck_dstate_ne_flowing (s := (s.setAgent { s.agent.goTo .idle with sought := none }).noticeChange s.agent.dstate) ?_
  simp [Agent.goTo]

theorem requestNotice_eq_self_of_flowing {s : State} (hstate : s.agent.dstate = .flowing) (c : GasClass) (was : Bool) :
    s.requestNotice c was = s := by
  unfold State.requestNotice
  rw [idleCheck_eq_self (by simp [hstate]), hstate]
  simp

theorem requestNotice_dstate_ne_flowing {s : State} (hstate : s.agent.dstate ≠ .flowing) (c : GasClass) (was : Bool) :
    (s.requestNotice c was).agent.dstate ≠ .flowing := by
  unfold State.requestNotice
  split
  · exact hstate
  · split
    · exact idleCheck_dstate_ne_flowing hstate
    · split
      · split <;> simp_all [toIdle_dstate_ne_flowing]
      · exact hstate

theorem flowNotice_of_flowing {s : State} {c : GasClass} (hstate : s.agent.dstate = .flowing) (hsought : s.agent.sought = some c)
    (n : NextState) : s.flowNotice c n = s.endFlow false true n := if_pos ⟨hstate, hsought⟩

theorem flowNotice_eq_self {s : State} {c : GasClass} (hother : ¬(s.agent.dstate = .flowing ∧ s.agent.sought = some c))
    (n : NextState) : s.flowNotice c n = s := if_neg hother

/-- The request's notice neither begins a flow nor ends one. -/
theorem requestNotice_flows_iff (c d : GasClass) (was : Bool) (s : State) :
    (s.requestNotice c was).agent.dstate = .flowing ∧ (s.requestNotice c was).agent.sought = some d ↔
      s.agent.dstate = .flowing ∧ s.agent.sought = some d := by
  by_cases hstate : s.agent.dstate = .flowing
  · rw [requestNotice_eq_self_of_flowing hstate]
  · exact ⟨fun h => absurd h.1 (requestNotice_dstate_ne_flowing hstate c was), fun h => absurd h.1 hstate⟩

theorem requestNotice_rcv (c d : GasClass) (was : Bool) (s : State) : (s.requestNotice c was).rcv d = s.rcv d := by simp

theorem requestNotice_port (c : GasClass) (was : Bool) (s : State) (p : PortId) : (s.requestNotice c was).port p = s.port p :=
  port_eq_of_sameBut (requestNotice_sameBut c was s) (by simp) p

/-- A flow that ends into IDLE: the outputs shut, and the agent no longer FLOWING. -/
theorem endFlow_idle_shut {c : GasClass} {s : State} (hsought : s.agent.sought = some c) (conflictHold sendOff : Bool) :
    (s.endFlow conflictHold sendOff .idle).agent.dstate ≠ .flowing ∧
      ∀ d, (s.endFlow conflictHold sendOff .idle).agent.disch d = false ∧
        (s.endFlow conflictHold sendOff .idle).agent.sel d = false := by
  rw [endFlow_eq hsought]
  refine ⟨toIdle_dstate_ne_flowing _, fun d => ?_⟩
  have hagent := flowEnded_agent conflictHold sendOff c s
  show (s.flowEnded conflictHold sendOff c).toIdle.agent.disch d = false ∧ (s.flowEnded conflictHold sendOff c).toIdle.agent.sel d = false
  cases conflictHold <;> cases d <;> simp [Agent.disch, Agent.sel, hagent, Agent.shut, setHold_all]

theorem flowNotice_rcv_self (c : GasClass) (n : NextState) (s : State) :
    (s.flowNotice c n).rcv c =
      if s.agent.dstate = .flowing ∧ s.agent.sought = some c then (s.rcv c).flowOver (s.cfg.rcvSet c) else s.rcv c := by
  unfold State.flowNotice
  split
  next h => exact endFlow_rcv_self h.2 false true n
  next => rfl

/-! ### The entry to FAULT (R52, R53) -/

/-- The receiver in FAULT, its event raised, before anyone is told. -/
abbrev State.faulted (c : GasClass) (cause : ReceiverCause) (s : State) : State :=
  (s.setRcv c ((s.rcv c).enterFault cause)).raise .receiverFault

section

variable {c : GasClass} {s : State}

theorem receiverFault_of_fault (hfault : (s.rcv c).state.isFault = true) (cause : ReceiverCause) : s.receiverFault c cause = s := by
  unfold State.receiverFault
  dsimp only
  split
  next => rfl
  all_goals simp_all [ReceiverState.isFault]

theorem receiverFault_of_accepting (hstate : (s.rcv c).state = .accepting) (cause : ReceiverCause) :
    s.receiverFault c cause = ((s.faulted c cause).tellPorts c).requestNotice c (s.rcv c).request := by
  unfold State.receiverFault
  dsimp only
  rw [hstate]

theorem receiverFault_of_discharging (hstate : (s.rcv c).state = .discharging) (cause : ReceiverCause) :
    s.receiverFault c cause = ((s.faulted c cause).requestNotice c (s.rcv c).request).flowNotice c .idle := by
  unfold State.receiverFault
  dsimp only
  rw [hstate]

theorem receiverFault_of_rest (hstate : (s.rcv c).state = .full ∨ (s.rcv c).state = .starting) (cause : ReceiverCause) :
    s.receiverFault c cause = (s.faulted c cause).requestNotice c (s.rcv c).request := by
  unfold State.receiverFault
  dsimp only
  rcases hstate with h | h <;> rw [h]

theorem flowOver_of_fault {g : ReceiverSet} {r : Receiver} {cause : ReceiverCause} (hstate : r.state = .fault cause) :
    r.flowOver g = r := by
  unfold Receiver.flowOver
  rw [hstate]

theorem faulted_rcv_self (cause : ReceiverCause) : (s.faulted c cause).rcv c = (s.rcv c).enterFault cause := by simp

theorem receiverFault_rcv_self (hgood : (s.rcv c).state.isFault = false) (cause : ReceiverCause) :
    (s.receiverFault c cause).rcv c = (s.rcv c).enterFault cause := by
  cases hstate : (s.rcv c).state with
  | accepting => rw [receiverFault_of_accepting hstate]; simp
  | full => rw [receiverFault_of_rest (.inl hstate)]; simp
  | starting => rw [receiverFault_of_rest (.inr hstate)]; simp
  | discharging =>
    rw [receiverFault_of_discharging hstate, flowNotice_rcv_self, requestNotice_rcv, faulted_rcv_self,
      flowOver_of_fault (cause := cause) rfl, ite_self]
  | fault k => simp [hstate, ReceiverState.isFault] at hgood

theorem receiverFault_flag_self (hgood : (s.rcv c).state.isFault = false) (cause : ReceiverCause) :
    (s.receiverFault c cause).op.flag .receiverFault = true := by
  have hraised : (s.faulted c cause).op.flag .receiverFault = true := raise_flag_self .receiverFault _
  cases hstate : (s.rcv c).state with
  | accepting => rw [receiverFault_of_accepting hstate]; exact requestNotice_flag _ _ _ _ (by simpa using hraised)
  | full => rw [receiverFault_of_rest (.inl hstate)]; exact requestNotice_flag _ _ _ _ hraised
  | starting => rw [receiverFault_of_rest (.inr hstate)]; exact requestNotice_flag _ _ _ _ hraised
  | discharging =>
    rw [receiverFault_of_discharging hstate]
    exact flowNotice_flag _ _ _ _ (requestNotice_flag _ _ _ _ hraised)
  | fault k => simp [hstate, ReceiverState.isFault] at hgood

/-- The ports that extract to an ACCEPTING receiver wait. -/
theorem receiverFault_shuts {p : PortId} (haccepting : (s.rcv c).state = .accepting) (hgas : (s.port p).gas = some c)
    (hstate : (s.port p).state = .extract) (cause : ReceiverCause) :
    (s.receiverFault c cause).port p = (s.port p).toWait .receiver := by
  have hport : (s.faulted c cause).port p = s.port p := by simp
  rw [receiverFault_of_accepting haccepting, requestNotice_port, tellPorts_shuts, hport]
  · rw [State.accepting, faulted_rcv_self]
    rfl
  · rwa [hport]
  · rwa [hport]

/-- The agent that flows from the receiver ends its flow. -/
theorem receiverFault_ends_flow (hdischarging : (s.rcv c).state = .discharging) (hflowing : s.agent.dstate = .flowing)
    (hsought : s.agent.sought = some c) (cause : ReceiverCause) :
    (s.receiverFault c cause).agent.dstate ≠ .flowing ∧
      ∀ d, (s.receiverFault c cause).agent.disch d = false ∧ (s.receiverFault c cause).agent.sel d = false := by
  have hagent : (s.faulted c cause).agent = s.agent := by simp
  rw [receiverFault_of_discharging hdischarging, requestNotice_eq_self_of_flowing (by rwa [hagent]),
    flowNotice_of_flowing (by rwa [hagent]) (by rwa [hagent])]
  exact endFlow_idle_shut (by rwa [hagent]) false true

end

theorem faulted_sameBut (c : GasClass) (cause : ReceiverCause) (s : State) : s.SameBut [.receiver c, .op] (s.faulted c cause) :=
  sameBut_trans (setRcv_sameBut c _ s) (raise_sameBut _ _) (by simp) (by simp)

theorem receiverFault_sameBut (c : GasClass) (cause : ReceiverCause) (s : State) :
    s.SameBut [.ports, .receiver c, .agent, .line, .op] (s.receiverFault c cause) := by
  have hfaulted := faulted_sameBut c cause s
  cases hstate : (s.rcv c).state with
  | accepting =>
    rw [receiverFault_of_accepting hstate]
    have htold := sameBut_trans hfaulted (tellPorts_sameBut c _) (n := [.ports, .receiver c, .op]) (by simp) (by simp)
    exact sameBut_trans htold (requestNotice_sameBut c _ _) (by simp) (by simp)
  | full => rw [receiverFault_of_rest (.inl hstate)]; exact sameBut_trans hfaulted (requestNotice_sameBut c _ _) (by simp) (by simp)
  | starting => rw [receiverFault_of_rest (.inr hstate)]; exact sameBut_trans hfaulted (requestNotice_sameBut c _ _) (by simp) (by simp)
  | discharging =>
    rw [receiverFault_of_discharging hstate]
    have hasked := sameBut_trans hfaulted (requestNotice_sameBut c (s.rcv c).request _)
      (n := [.receiver c, .agent, .line, .op]) (by simp) (by simp)
    exact sameBut_trans hasked (flowNotice_sameBut c .idle _) (by simp) (by simp [flowBlocks])
  | fault k => rw [receiverFault_of_fault (by rw [hstate]; rfl)]; exact sameBut_refl _ s

/-! ### The commands -/

/-- A record of the scale link at a station that takes it (R31, R200). -/
theorem onRecord_of_takes {l : RecordLink} {s : State} (hloaded : s.loaded = true) (hactive : (s.recordLink l).framer.active = true)
    (act : State → State) : s.onRecord l act = act (s.setRecordLink l ⟨.hunting, .stopped⟩) := by
  rw [State.onRecord, if_pos hloaded, if_pos hactive]

/-- A fault-marked record and a silence, past the record link or the time: the silence timer, and then the fault. -/
abbrev State.faultTaken (c : GasClass) (silence : Timer) (cause : ReceiverCause) (e : State) : State :=
  (e.setRcv c { e.rcv c with silence := silence }).receiverFault c cause

section

variable {c : GasClass} {silence : Timer} {cause : ReceiverCause} {e : State}

theorem faultTaken_of_fault (hfault : (e.rcv c).state.isFault = true) :
    e.faultTaken c silence cause = e.setRcv c { e.rcv c with silence := silence } :=
  receiverFault_of_fault (by simpa using hfault) cause

theorem faultTaken_sameBut : e.SameBut [.ports, .receiver c, .agent, .line, .op] (e.faultTaken c silence cause) :=
  sameBut_trans (setRcv_sameBut c _ e) (receiverFault_sameBut c cause _) (by simp) (by simp)

/-- The entry to FAULT, from whichever command makes it. -/
theorem faultTaken_of_good (hgood : (e.rcv c).state.isFault = false) :
    (e.faultTaken c silence cause).rcv c =
        { e.rcv c with
          silence := silence, state := .fault cause, request := false, stall := .stopped, lowest := none, doneSent := false,
          stallSent := false } ∧
      (e.faultTaken c silence cause).op.flag .receiverFault = true ∧
      ((e.rcv c).state = .accepting → ∀ p, (e.port p).state = .extract → (e.port p).gas = some c →
        ((e.faultTaken c silence cause).port p).state = .wait .receiver ∧ ((e.faultTaken c silence cause).port p).valveH = false ∧
          ((e.faultTaken c silence cause).port p).valveK = false) ∧
      ((e.rcv c).state = .discharging → e.agent.dstate = .flowing → e.agent.sought = some c →
        (e.faultTaken c silence cause).agent.dstate ≠ .flowing ∧ (e.faultTaken c silence cause).agent.disch c = false ∧
          (e.faultTaken c silence cause).agent.sel c = false) := by
  let t := e.setRcv c { e.rcv c with silence := silence }
  have hrcv : t.rcv c = { e.rcv c with silence := silence } := by simp [t]
  have hgood' : (t.rcv c).state.isFault = false := by rw [hrcv]; exact hgood
  refine ⟨?_, receiverFault_flag_self hgood' cause, fun haccepting p hstate hgas => ?_, fun hdischarging hflowing hsought => ?_⟩
  · rw [receiverFault_rcv_self hgood', hrcv]
    rfl
  · have hport : t.port p = e.port p := by simp [t]
    rw [receiverFault_shuts (by rw [hrcv]; exact haccepting) (by rwa [hport]) (by rwa [hport])]
    exact ⟨rfl, rfl, rfl⟩
  · obtain ⟨hends, hshut⟩ := receiverFault_ends_flow (s := t) (by rw [hrcv]; exact hdischarging)
      (by simpa [t] using hflowing) (by simpa [t] using hsought) cause
    exact ⟨hends, hshut c⟩

end

theorem exec_faultMarkedRecord_of_takes {s : State} (hloaded : s.loaded = true) (hactive : s.scaleLink.framer.active = true)
    (c : GasClass) :
    exec (.faultMarkedRecord c) s =
      .next (State.faultTaken c (.running 500) .scaleFaultRecord { s with scaleLink := ⟨.hunting, .stopped⟩ }).finish :=
  congrArg (fun t => Host.Outcome.next (State.finish t)) (onRecord_of_takes (l := .scale) hloaded hactive _)

theorem exec_silenceExpiry_of_running {c : GasClass} {n : Nat} {s : State} (ht : (s.rcv c).silence = .running n) :
    exec (.silenceExpiry c) s = .next (State.faultTaken c .stopped .scaleSilent (s.elapse n)).finish := by
  show Host.Outcome.next (State.finish (s.onExpiry (s.rcv c).silence _)) = _
  rw [ht, State.onExpiry_running]
  rfl

theorem exec_stallTimerExpiry_of_running {c : GasClass} {n : Nat} {s : State} (ht : (s.rcv c).stall = .running n) :
    exec (.stallTimerExpiry c) s = .next ((s.elapse n).stalled c).finish := by
  show Host.Outcome.next (State.finish (s.onExpiry (s.rcv c).stall _)) = _
  rw [ht, State.onExpiry_running]

/-! ### A stall (R50) -/

/-- The stall timer stops, and the flow's one stall notice is sent. -/
abbrev State.stallNoted (c : GasClass) (s : State) : State :=
  s.setRcv c { s.rcv c with stall := .stopped, stallSent := true }

theorem stalled_of_sent {c : GasClass} {s : State} (hsent : (s.rcv c).stallSent = true) :
    s.stalled c = s.stallNoted c := if_pos hsent

theorem stalled_of_first {c : GasClass} {s : State} (hfirst : (s.rcv c).stallSent = false) :
    s.stalled c = ((s.stallNoted c).raise .dischargeStall).flowNotice c .longBackoff := if_neg (by simp [hfirst])

theorem endFlow_longBackoff_agent {c : GasClass} {s : State} (hsought : s.agent.sought = some c) (conflictHold sendOff : Bool) :
    (s.endFlow conflictHold sendOff .longBackoff).agent =
      { (if conflictHold then s.agent.shut.setHold .all else s.agent.shut).goTo .backoff with
        backoff := .running (10 * (100 + 10 * s.cfg.address.val)) } := by
  rw [endFlow_eq hsought]
  refine (toBackoff_agent true _).trans ?_
  rw [flowEnded_agent]
  have hcfg : (s.flowEnded conflictHold sendOff c).cfg = s.cfg := by
    cases conflictHold <;> cases sendOff <;> simp [State.flowEnded]
  rw [hcfg]
  rfl

theorem stallNoted_raise_sameBut (c : GasClass) (s : State) :
    s.SameBut [.receiver c, .op] ((s.stallNoted c).raise .dischargeStall) :=
  sameBut_trans (setRcv_sameBut c _ s) (raise_sameBut _ _) (by simp) (by simp)

/-- Settles O45: the two ways into FAULT, and the stall. -/
theorem receiverFaultsAndStalls : Obligations.ReceiverFaultsAndStalls := fun c s => by
  refine ⟨fun i cause silence e hi => ?faults, fun n e ht he => ⟨fun hsent => ?again, fun hfirst => ?stalls⟩⟩
  case faults =>
    have hexec : exec i s = .next (e.faultTaken c silence cause).finish := by
      rcases hi with ⟨rfl, hloaded, hactive, rfl, rfl, rfl⟩ | ⟨n, rfl, ht, rfl, rfl, rfl⟩
      · exact exec_faultMarkedRecord_of_takes hloaded hactive c
      · exact exec_silenceExpiry_of_running ht
    have hstate : (e.rcv c).state = (s.rcv c).state := by
      rcases hi with ⟨-, -, -, -, -, rfl⟩ | ⟨n, -, -, -, -, rfl⟩
      · rfl
      · simp
    have hagent : e.agent.dstate = s.agent.dstate ∧ e.agent.sought = s.agent.sought := by
      rcases hi with ⟨-, -, -, -, -, rfl⟩ | ⟨n, -, -, -, -, rfl⟩
      · exact ⟨rfl, rfl⟩
      · simp
    have hports : ∀ p, (e.port p).state = (s.port p).state ∧ (e.port p).gas = (s.port p).gas := by
      rcases hi with ⟨-, -, -, -, -, rfl⟩ | ⟨n, -, -, -, -, rfl⟩
      · exact fun p => ⟨rfl, rfl⟩
      · exact fun p => by simp
    refine ⟨fun hfault => ⟨_, hexec, ?_⟩, fun hgood => ⟨_, hexec, faultTaken_sameBut, ?_⟩⟩
    · rw [faultTaken_of_fault (by rwa [hstate])]
      exact ⟨setRcv_sameBut c _ e, by simp⟩
    · obtain ⟨hrcv, hflag, hshuts, hends⟩ := faultTaken_of_good (silence := silence) (cause := cause) (e := e) (c := c) (by rwa [hstate])
      refine ⟨hrcv, hflag, fun haccepting p hp hgas => hshuts (hstate.trans haccepting) p ((hports p).1.trans hp) ((hports p).2.trans hgas),
        fun hdischarging hflowing hsought => hends (hstate.trans hdischarging) (hagent.1.trans hflowing) (hagent.2.trans hsought)⟩
  all_goals subst he
  case again =>
    refine ⟨_, exec_stallTimerExpiry_of_running ht, ?_⟩
    have hsent' : ((s.elapse n).rcv c).stallSent = true := by simpa using hsent
    rw [stalled_of_sent hsent']
    refine ⟨setRcv_sameBut c _ _, ?_⟩
    rw [State.stallNoted, State.rcv_setRcv_self, ← hsent']
  case stalls =>
    let t := (State.stallNoted c (s.elapse n)).raise .dischargeStall
    have hstalled : (s.elapse n).stalled c = t.flowNotice c .longBackoff := stalled_of_first (by simpa using hfirst)
    have hflag : t.op.flag .dischargeStall = true := raise_flag_self .dischargeStall _
    have hrcv : t.rcv c = { (s.elapse n).rcv c with stall := .stopped, stallSent := true } := by simp [t]
    have hdstate : t.agent.dstate = s.agent.dstate := by simp [t]
    have hsame : t.agent.sought = s.agent.sought := by simp [t]
    refine ⟨t.flowNotice c .longBackoff, by rw [exec_stallTimerExpiry_of_running ht, hstalled], flowNotice_flag _ _ _ _ hflag,
      fun hother => ?_, fun hflowing hsought => ?_⟩
    · rw [flowNotice_eq_self (by rwa [hdstate, hsame])]
      exact ⟨stallNoted_raise_sameBut c _, hrcv⟩
    · rw [flowNotice_of_flowing (hdstate.trans hflowing) (hsame.trans hsought), endFlow_longBackoff_agent (hsame.trans hsought),
        endFlow_rcv_self (hsame.trans hsought), hrcv]
      have hcfg : t.cfg = s.cfg := by simp [t]
      refine ⟨rfl, ?_, by cases c <;> rfl, by cases c <;> rfl, fun hdischarging => ?_⟩
      · rw [hcfg]
        show Timer.running _ = Timer.running _
        congr 1
        omega
      · rw [(flowOver_of_discharging (by simpa using hdischarging)).1, hcfg]
        have hlevel : (s.elapse n).level c = s.level c := by simp
        rw [← hlevel]
        simp [State.level, Receiver.level, Receiver.content]

end Sys2Proof.Machine
end

section
/-! PROOFS. The booking of a reading: the shares at the open ports (R17, R43), the account figures by R39's table, and what the checks
that follow leave of the account (R38, R45, R49). -/

namespace Sys2Proof.Machine

/-! ### The shares at the open ports (R17, R43) -/

theorem deliverShare_port_self (delta : Nat) (l : List Share) (x : Share) (s : State) :
    (s.deliverShare delta l x).port x.port = (s.port x.port).mapSlot (CaseRecord.addMass (finalShare delta l x)) :=
  modPort_port_self x.port _ s

theorem deliverShare_port_ne {p : PortId} {x : Share} (hp : p ≠ x.port) (delta : Nat) (l : List Share) (s : State) :
    (s.deliverShare delta l x).port p = s.port p := modPort_samePortsBut x.port _ s p hp

/-- Shares for distinct ports: each reaches its port, and no other port changes. -/
theorem foldl_deliverShare_port (delta : Nat) (l m : List Share) (hdistinct : (m.map Share.port).Nodup) (s : State) :
    (∀ x ∈ m, (m.foldl (fun t x => t.deliverShare delta l x) s).port x.port =
      (s.port x.port).mapSlot (CaseRecord.addMass (finalShare delta l x))) ∧
    ∀ p, p ∉ m.map Share.port → (m.foldl (fun t x => t.deliverShare delta l x) s).port p = s.port p := by
  induction m generalizing s with
  | nil => exact ⟨fun x hx => absurd hx (by simp), fun _ _ => rfl⟩
  | cons y rest ih =>
    simp only [List.map_cons, List.nodup_cons] at hdistinct
    obtain ⟨hy, hrest⟩ := hdistinct
    obtain ⟨hreaches, hleaves⟩ := ih hrest (s.deliverShare delta l y)
    refine ⟨fun x hx => ?_, fun p hp => ?_⟩
    · rcases List.mem_cons.mp hx with rfl | hx
      · exact (hleaves _ hy).trans (deliverShare_port_self delta l x s)
      · have hne : x.port ≠ y.port := fun h => hy (h ▸ List.mem_map_of_mem hx)
        exact (hreaches x hx).trans (by rw [deliverShare_port_ne hne])
    · simp only [List.map_cons, List.mem_cons, not_or] at hp
      exact (hleaves p hp.2).trans (deliverShare_port_ne hp.1 delta l s)

theorem weights_ports (s : State) (c : GasClass) : (s.weights c).map Share.port = s.openPorts c := by
  simp [State.weights, Function.comp_def]

theorem openPorts_nodup (s : State) (c : GasClass) : (s.openPorts c).Nodup :=
  List.Nodup.filter _ (by decide)

theorem mem_openPorts {s : State} {c : GasClass} {p : PortId} : p ∈ s.openPorts c ↔ (s.port p).valve c = true := by
  simp only [State.openPorts, List.mem_filter, and_iff_right_iff_imp]
  exact fun _ => by cases p <;> decide

section

variable {c : GasClass} {booking : Booking} {delta : Nat} {s : State}

theorem shared_port_of_share (hattributed : booking = .attributed) {x : Share} (hx : x ∈ s.weights c) :
    (s.shared c booking delta).port x.port =
      (s.port x.port).mapSlot (CaseRecord.addMass (finalShare delta (s.weights c) x)) := by
  unfold State.shared
  rw [if_pos hattributed]
  exact (foldl_deliverShare_port delta (s.weights c) _ (by rw [weights_ports]; exact openPorts_nodup s c) s).1 x hx

theorem shared_port_of_none {p : PortId} (hnone : ¬(booking = .attributed ∧ (s.port p).valve c = true)) :
    (s.shared c booking delta).port p = s.port p := by
  unfold State.shared
  by_cases hattributed : booking = .attributed
  · rw [if_pos hattributed]
    refine (foldl_deliverShare_port delta (s.weights c) _ (by rw [weights_ports]; exact openPorts_nodup s c) s).2 p ?_
    rw [weights_ports, mem_openPorts]
    exact fun h => hnone ⟨hattributed, h⟩
  · rw [if_neg hattributed]
    simp

/-- The mass that saturates with its mark (R17). -/
theorem addMass_eq (share : Nat) (r : CaseRecord) :
    r.addMass share =
      { r with massG := min 65535 (r.massG + share), massSat := r.massSat || decide (65535 < r.massG + share) } := by
  unfold CaseRecord.addMass
  split
  next h => rw [Nat.min_eq_left (by omega), decide_eq_true h, Bool.or_true]
  next h => rw [Nat.min_eq_right (by omega), decide_eq_false h, Bool.or_false]

/-- Shares change the mass of a case, and nothing that says where the port stands. -/
theorem shared_port_frame (p : PortId) :
    ((s.shared c booking delta).port p).state = (s.port p).state ∧ ((s.shared c booking delta).port p).gas = (s.port p).gas := by
  by_cases hshare : booking = .attributed ∧ (s.port p).valve c = true
  · obtain ⟨hattributed, hopen⟩ := hshare
    have hp : p ∈ (s.weights c).map Share.port := by rw [weights_ports, mem_openPorts]; exact hopen
    obtain ⟨x, hx, rfl⟩ := List.mem_map.mp hp
    rw [shared_port_of_share hattributed hx]
    refine ⟨rfl, ?_⟩
    cases hslot : (s.port x.port).slot with
    | none => simp [Port.gas, Port.mapSlot, hslot]
    | some r => simp [Port.gas, Port.mapSlot, hslot, addMass_measured]
  · rw [shared_port_of_none hshare]
    exact ⟨rfl, rfl⟩

end

/-! ### What no check touches -/

/-- The account and the last reading are the same. -/
structure Receiver.SameAccount (a b : Receiver) : Prop where
  first : b.first = a.first
  latest : b.latest = a.latest
  overMark : b.overMark = a.overMark
  baseline : b.baseline = a.baseline
  last : b.last = a.last
  attributed : b.attributed = a.attributed
  unattributed : b.unattributed = a.unattributed
  outflow : b.outflow = a.outflow
  drift : b.drift = a.drift
  silence : b.silence = a.silence

theorem sameAccount_refl (r : Receiver) : r.SameAccount r := ⟨rfl, rfl, rfl, rfl, rfl, rfl, rfl, rfl, rfl, rfl⟩

theorem Receiver.SameAccount.trans {a b d : Receiver} (hab : a.SameAccount b) (hbd : b.SameAccount d) : a.SameAccount d :=
  ⟨hbd.first.trans hab.first, hbd.latest.trans hab.latest, hbd.overMark.trans hab.overMark, hbd.baseline.trans hab.baseline,
    hbd.last.trans hab.last, hbd.attributed.trans hab.attributed, hbd.unattributed.trans hab.unattributed,
    hbd.outflow.trans hab.outflow, hbd.drift.trans hab.drift, hbd.silence.trans hab.silence⟩

theorem enterFault_sameAccount (cause : ReceiverCause) (r : Receiver) : r.SameAccount (r.enterFault cause) :=
  ⟨rfl, rfl, rfl, rfl, rfl, rfl, rfl, rfl, rfl, rfl⟩

theorem flowOver_sameAccount (g : ReceiverSet) (r : Receiver) : r.SameAccount (r.flowOver g) := by
  unfold Receiver.flowOver
  split
  · exact ⟨rfl, rfl, rfl, rfl, rfl, rfl, rfl, rfl, rfl, rfl⟩
  · exact sameAccount_refl r

/-- The content is a new lowest one of its flow (R49). -/
def Receiver.fell (g : ReceiverSet) (r : Receiver) : Bool :=
  match r.lowest with
  | some l => decide (r.level g < l)
  | none => true

theorem flowChecks_eq (g : ReceiverSet) (stallMs : Nat) (r : Receiver) :
    r.flowChecks g stallMs =
      { r with
        lowest := if r.fell g then some (r.level g) else r.lowest
        stall := if r.atDone g && !r.doneSent then .stopped else if r.fell g then .running stallMs else r.stall
        doneSent := r.doneSent || r.atDone g } := by
  have hunfold : r.flowChecks g stallMs =
      (let r1 : Receiver := if r.fell g then { r with lowest := some (r.level g), stall := .running stallMs } else r
      if r.atDone g && !r.doneSent then { r1 with doneSent := true, stall := .stopped } else r1) := rfl
  rw [hunfold]
  generalize r.fell g = fell
  generalize r.atDone g = done
  generalize r.level g = level
  obtain ⟨_, _, _, _, _, _, _, _, _, _, _, _, _, _, sent, _⟩ := r
  cases fell <;> cases done <;> cases sent <;> rfl

theorem checks_of_discharging {r : Receiver} (hstate : r.state = .discharging) (g : ReceiverSet) (stallMs : Nat) :
    r.checks g stallMs = (r.flowChecks g stallMs).checkRequest g := by
  unfold Receiver.checks
  rw [hstate]

theorem checks_of_other {r : Receiver} (hstate : r.state ≠ .discharging) (g : ReceiverSet) (stallMs : Nat) :
    r.checks g stallMs = ({ r with state := r.thresholdState g } : Receiver).checkRequest g := by
  unfold Receiver.checks
  dsimp only
  split
  next h => exact absurd h hstate
  next => rfl

theorem checks_sameAccount (g : ReceiverSet) (stallMs : Nat) (r : Receiver) : r.SameAccount (r.checks g stallMs) := by
  by_cases hstate : r.state = .discharging
  · rw [checks_of_discharging hstate, flowChecks_eq]
    exact ⟨rfl, rfl, rfl, rfl, rfl, rfl, rfl, rfl, rfl, rfl⟩
  · rw [checks_of_other hstate]
    exact ⟨rfl, rfl, rfl, rfl, rfl, rfl, rfl, rfl, rfl, rfl⟩

/-! ### The account's figures (R39, R40) -/

/-- A booking changes the figures of the account and nothing else. -/
theorem book_frame (b : Booking) (delta : Int) (r : Receiver) :
    (r.book b delta).state = r.state ∧ (r.book b delta).first = r.first ∧ (r.book b delta).latest = r.latest ∧
      (r.book b delta).overMark = r.overMark ∧ (r.book b delta).baseline = r.baseline ∧ (r.book b delta).last = r.last ∧
      (r.book b delta).silence = r.silence ∧ (r.book b delta).lowest = r.lowest ∧ (r.book b delta).stall = r.stall ∧
      (r.book b delta).doneSent = r.doneSent ∧ (r.book b delta).request = r.request := by
  cases b <;> exact ⟨rfl, rfl, rfl, rfl, rfl, rfl, rfl, rfl, rfl, rfl, rfl⟩

theorem book_figures (b : Booking) (delta : Int) (r : Receiver) :
    (r.book b delta).attributed = (if b = .attributed then r.attributed + BitVec.ofInt 32 delta else r.attributed) ∧
      (r.book b delta).unattributed = (if b = .unattributed then r.unattributed + BitVec.ofInt 32 delta else r.unattributed) ∧
      (r.book b delta).outflow = (if b = .outflow then r.outflow + BitVec.ofInt 32 (-delta) else r.outflow) ∧
      (r.book b delta).drift = (if b = .drift then r.drift + BitVec.ofInt 32 delta else r.drift) := by
  cases b <;> exact ⟨rfl, rfl, rfl, rfl⟩

section

variable {st : ReceiverState} {delta : Int} {shared : Bool}

theorem bookingOf_of_gain (hgain : 0 < delta) :
    bookingOf st delta shared =
      match st with
      | .accepting => if shared then .attributed else .unattributed
      | .full => .unattributed
      | _ => .drift := by
  cases st <;> simp [bookingOf, hgain, hgain.le]

theorem bookingOf_of_fall (hfall : delta < 0) :
    bookingOf st delta shared =
      match st with
      | .discharging => .outflow
      | _ => .drift := by
  cases st <;> simp [bookingOf, hfall, hfall.le, hfall.ne]

theorem bookingOf_zero :
    bookingOf st 0 shared =
      match st with
      | .accepting => .nothing
      | .full => .nothing
      | _ => .drift := by
  cases st <;> simp [bookingOf]

theorem bookingOf_eq_attributed_iff :
    bookingOf st delta shared = .attributed ↔ 0 < delta ∧ st = .accepting ∧ shared = true := by
  rcases lt_trichotomy delta 0 with h | rfl | h
  · rw [bookingOf_of_fall h]
    cases st <;> simp [h.le]
  · rw [bookingOf_zero]
    cases st <;> simp
  · rw [bookingOf_of_gain h]
    cases st <;> cases shared <;> simp [h]

theorem bookingOf_eq_unattributed_iff :
    bookingOf st delta shared = .unattributed ↔ 0 < delta ∧ (st = .accepting ∧ shared = false ∨ st = .full) := by
  rcases lt_trichotomy delta 0 with h | rfl | h
  · rw [bookingOf_of_fall h]
    cases st <;> simp [h.le]
  · rw [bookingOf_zero]
    cases st <;> simp
  · rw [bookingOf_of_gain h]
    cases st <;> cases shared <;> simp [h]

theorem bookingOf_eq_outflow_iff : bookingOf st delta shared = .outflow ↔ delta < 0 ∧ st = .discharging := by
  rcases lt_trichotomy delta 0 with h | rfl | h
  · rw [bookingOf_of_fall h]
    cases st <;> simp [h]
  · rw [bookingOf_zero]
    cases st <;> simp
  · rw [bookingOf_of_gain h]
    cases st <;> cases shared <;> simp [h.le]

theorem bookingOf_eq_drift_iff (hstarted : st ≠ .starting) :
    bookingOf st delta shared = .drift ↔
      delta < 0 ∧ (st = .accepting ∨ st = .full) ∨ 0 ≤ delta ∧ st = .discharging ∨ st.isFault = true := by
  rcases lt_trichotomy delta 0 with h | rfl | h
  · rw [bookingOf_of_fall h]
    cases st <;> simp_all [ReceiverState.isFault]
  · rw [bookingOf_zero]
    cases st <;> simp_all [ReceiverState.isFault]
  · rw [bookingOf_of_gain h]
    cases st <;> cases shared <;> simp_all [ReceiverState.isFault, h.le]

end

end Sys2Proof.Machine
end

section
/-! PROOFS. READING (O44): the record taken, the first reading (R37), the reading event with its booking, its checks and its notices (R38,
R39, R43, R45, R49). -/

namespace Sys2Proof.Machine

/-! ### The record taken (R35, R200) -/

/-- The station as a good record has come: the link hunts, and the receiver's silence timer runs again. -/
def State.readingTaken (c : GasClass) (s : State) : State := (s.setRecordLink .scale ⟨.hunting, .stopped⟩).restartSilence c

theorem readingTaken_rcv (c : GasClass) (s : State) : (s.readingTaken c).rcv c = { s.rcv c with silence := .running 500 } := by
  unfold State.readingTaken State.restartSilence State.modRcv
  rw [State.rcv_setRcv_self]
  cases c <;> rfl

theorem readingTaken_sameBut (c : GasClass) (s : State) : s.SameBut [.receiver c, .link .scale] (s.readingTaken c) := by
  have hlink : s.SameBut [.link .scale] (s.setRecordLink .scale ⟨.hunting, .stopped⟩) := by
    rw [sameBut_iff]
    simp [State.setRecordLink]
  exact sameBut_trans hlink (setRcv_sameBut c _ _) (by simp) (by simp)

theorem readingTaken_port (c : GasClass) (s : State) (p : PortId) : (s.readingTaken c).port p = s.port p :=
  port_eq_of_sameBut (readingTaken_sameBut c s) (by simp) p

theorem readingTaken_weights (c : GasClass) (s : State) : (s.readingTaken c).weights c = s.weights c := by
  have hfield : (s.readingTaken c).field = s.field := readingTaken_sameBut c s .field (by simp)
  have hfree : (s.readingTaken c).free = s.free := readingTaken_sameBut c s .free (by simp)
  simp only [State.weights, State.openPorts, readingTaken_port, hfield, hfree]

theorem readingTaken_cfg (c : GasClass) (s : State) : (s.readingTaken c).cfg = s.cfg := by
  have hloader : (s.readingTaken c).loader = s.loader := readingTaken_sameBut c s .loader (by simp)
  simp only [State.cfg, hloader]

theorem exec_reading_of_takes {s : State} (hloaded : s.loaded = true) (hactive : s.scaleLink.framer.active = true) (c : GasClass)
    (mark : Bool) (field : Word16) :
    exec (.reading c mark field) s =
      .next (if (s.rcv c).first then (s.readingTaken c).readingEvent c (readingValue mark field) mark
        else (s.readingTaken c).takeFirstReading c (readingValue mark field) mark).finish := by
  have hfirst : ((s.readingTaken c).rcv c).first = (s.rcv c).first := by rw [readingTaken_rcv]
  rw [← hfirst]
  exact congrArg (fun t => Host.Outcome.next (State.finish t)) (onRecord_of_takes (l := .scale) hloaded hactive _)

/-! ### The content that a reading shows (R33) -/

/-- The content for comparisons, from the reading and its mark. -/
def levelOfReading (g : ReceiverSet) (value : Word16) (mark : Bool) : Nat :=
  if mark then max (value.toNat - g.tare) g.full else value.toNat - g.tare

theorem level_eq {r : Receiver} {value : Word16} {mark : Bool} (hfirst : r.first = true) (hlatest : r.latest = value)
    (hmark : r.overMark = mark) (g : ReceiverSet) : r.level g = levelOfReading g value mark := by
  simp [Receiver.level, Receiver.content, levelOfReading, hfirst, hlatest, hmark]

/-! ### The first reading (R37) -/

section

variable {c : GasClass} {value : Word16} {mark : Bool} {t : State}

theorem firstReading_sameAccount (g : ReceiverSet) (value : Word16) (mark : Bool) (r : Receiver) :
    ({ r.record value mark with baseline := value, first := true } : Receiver).SameAccount (r.firstReading g value mark) := by
  unfold Receiver.firstReading
  dsimp only
  split
  · exact ⟨rfl, rfl, rfl, rfl, rfl, rfl, rfl, rfl, rfl, rfl⟩
  · exact sameAccount_refl _

theorem firstReading_of_starting {r : Receiver} (hstate : r.state = .starting) (g : ReceiverSet) (value : Word16) (mark : Bool) :
    (r.firstReading g value mark).state = (if levelOfReading g value mark < g.full then .accepting else .full) ∧
      (r.firstReading g value mark).request = decide (g.dOn ≤ levelOfReading g value mark) := by
  have hlevel : ∀ st, ({ r.record value mark with baseline := value, first := true, state := st } : Receiver).level g =
      levelOfReading g value mark := fun st => level_eq rfl rfl rfl g
  unfold Receiver.firstReading
  rw [hstate]
  refine ⟨?_, ?_⟩
  · show Receiver.restState g _ = _
    rw [Receiver.restState, level_eq (value := value) (mark := mark) rfl rfl rfl]
  · show Receiver.wantsDischarge g _ = _
    unfold Receiver.wantsDischarge Receiver.restState
    rw [hlevel, level_eq (value := value) (mark := mark) rfl rfl rfl]
    split <;> split at * <;> simp_all

theorem takeFirstReading_rcv (c : GasClass) (value : Word16) (mark : Bool) (t : State) :
    (t.takeFirstReading c value mark).rcv c = (t.rcv c).firstReading (t.cfg.rcvSet c) value mark := by
  unfold State.takeFirstReading
  dsimp only
  split
  · rw [requestNotice_rcv]
    simp
  · simp

theorem takeFirstReading_sameBut (c : GasClass) (value : Word16) (mark : Bool) (t : State) :
    t.SameBut [.ports, .receiver c, .agent, .line, .op] (t.takeFirstReading c value mark) := by
  have hset : t.SameBut [.receiver c] (t.setRcv c ((t.rcv c).firstReading (t.cfg.rcvSet c) value mark)) := setRcv_sameBut c _ t
  unfold State.takeFirstReading
  dsimp only
  split
  · have htold := sameBut_trans hset (tellPorts_sameBut c _) (n := [.ports, .receiver c]) (by simp) (by simp)
    exact sameBut_trans htold (requestNotice_sameBut c _ _) (by simp) (by simp)
  · exact sameBut_mono hset (by simp)

end

/-! ### The reading event (R38) -/

/-- How the reading's delta is booked. -/
def State.bookingFor (c : GasClass) (value : Word16) (t : State) : Booking :=
  bookingOf (t.rcv c).state ((t.rcv c).delta value) (decide (0 < totalWeight (t.weights c)))

/-- The receiver with its delta booked. -/
def State.rcvBooked (c : GasClass) (value : Word16) (mark : Bool) (t : State) : Receiver :=
  ((t.rcv c).record value mark).book (t.bookingFor c value) ((t.rcv c).delta value)

/-- The receiver after its checks. -/
def State.rcvChecked (c : GasClass) (value : Word16) (mark : Bool) (t : State) : Receiver :=
  (t.rcvBooked c value mark).checks (t.cfg.rcvSet c) (t.cfg.header.stallS * 1000)

/-- The station with the shares delivered. -/
def State.readingShared (c : GasClass) (value : Word16) (t : State) : State :=
  t.shared c (t.bookingFor c value) ((t.rcv c).delta value).toNat

/-- The station with the checks made, and the ports told where the receiver's state changed. -/
def State.readingChecked (c : GasClass) (value : Word16) (mark : Bool) (t : State) : State :=
  if (t.rcvChecked c value mark).state = (t.rcv c).state then (t.readingShared c value).setRcv c (t.rcvChecked c value mark)
  else ((t.readingShared c value).setRcv c (t.rcvChecked c value mark)).tellPorts c

/-- The fall of the reading is too great (R39). -/
def State.drops (c : GasClass) (value : Word16) (t : State) : Bool :=
  dropFault (t.cfg.rcvSet c) (t.rcv c).state ((t.rcv c).delta value)

section

variable {c : GasClass} {value : Word16} {mark : Bool} {t : State}

theorem readingEvent_of_drop (hdrops : t.drops c value = true) :
    t.readingEvent c value mark = ((t.readingShared c value).setRcv c (t.rcvBooked c value mark)).receiverFault c .scaleDrop := by
  rw [readingEvent_eq]
  exact if_pos hdrops

theorem readingEvent_of_keeps (hkeeps : t.drops c value = false) :
    t.readingEvent c value mark =
      (let asked := (t.readingChecked c value mark).requestNotice c (t.rcv c).request
      if (t.rcvChecked c value mark).doneSent && !(t.rcv c).doneSent then asked.flowNotice c .idle else asked) := by
  rw [readingEvent_eq]
  exact if_neg (by rw [State.drops] at hkeeps; simp [hkeeps])

theorem drops_iff :
    t.drops c value = true ↔ ((t.rcv c).state = .accepting ∨ (t.rcv c).state = .full) ∧
      (t.rcv c).delta value < -((t.cfg.rcvSet c).noise : Int) := by
  unfold State.drops dropFault
  cases (t.rcv c).state <;> simp

theorem rcvBooked_frame (c : GasClass) (value : Word16) (mark : Bool) (t : State) :
    (t.rcvBooked c value mark).state = (t.rcv c).state ∧ (t.rcvBooked c value mark).first = (t.rcv c).first ∧
      (t.rcvBooked c value mark).latest = value ∧ (t.rcvBooked c value mark).overMark = mark ∧
      (t.rcvBooked c value mark).baseline = (t.rcv c).baseline ∧ (t.rcvBooked c value mark).last = value ∧
      (t.rcvBooked c value mark).silence = (t.rcv c).silence ∧ (t.rcvBooked c value mark).lowest = (t.rcv c).lowest ∧
      (t.rcvBooked c value mark).stall = (t.rcv c).stall ∧ (t.rcvBooked c value mark).doneSent = (t.rcv c).doneSent ∧
      (t.rcvBooked c value mark).request = (t.rcv c).request :=
  book_frame _ _ _

theorem rcvBooked_level (hfirst : (t.rcv c).first = true) (g : ReceiverSet) :
    (t.rcvBooked c value mark).level g = levelOfReading g value mark := by
  obtain ⟨-, hbooked, hlatest, hmark, -⟩ := rcvBooked_frame c value mark t
  exact level_eq (hbooked.trans hfirst) hlatest hmark g

theorem readingShared_sameBut (c : GasClass) (value : Word16) (t : State) : t.SameBut [.ports, .free] (t.readingShared c value) :=
  shared_sameBut _ _ _ _

theorem readingChecked_rcv (c : GasClass) (value : Word16) (mark : Bool) (t : State) :
    (t.readingChecked c value mark).rcv c = t.rcvChecked c value mark := by
  unfold State.readingChecked
  split <;> simp

theorem readingChecked_agent (c : GasClass) (value : Word16) (mark : Bool) (t : State) :
    (t.readingChecked c value mark).agent = t.agent := by
  have hshared : (t.readingShared c value).agent = t.agent := readingShared_sameBut c value t .agent (by simp)
  unfold State.readingChecked
  split <;> simp [hshared]

theorem readingChecked_sameBut (c : GasClass) (value : Word16) (mark : Bool) (t : State) :
    t.SameBut [.ports, .receiver c, .free] (t.readingChecked c value mark) := by
  have hset : t.SameBut [.ports, .receiver c, .free] ((t.readingShared c value).setRcv c (t.rcvChecked c value mark)) :=
    sameBut_trans (readingShared_sameBut c value t) (setRcv_sameBut c _ _) (by simp) (by simp)
  unfold State.readingChecked
  exact sameBut_ite hset (sameBut_trans hset (tellPorts_sameBut c _) (by simp) (by simp))

theorem readingChecked_slot (p : PortId) :
    ((t.readingChecked c value mark).port p).slot = ((t.readingShared c value).port p).slot := by
  unfold State.readingChecked
  split
  · simp
  · rw [tellPorts_slot]
    simp

/-! ### The event as a whole -/

theorem readingEvent_sameBut (c : GasClass) (value : Word16) (mark : Bool) (t : State) :
    t.SameBut [.ports, .receiver c, .agent, .line, .op, .free] (t.readingEvent c value mark) := by
  cases hdrops : t.drops c value with
  | true =>
    rw [readingEvent_of_drop hdrops]
    have hset := sameBut_trans (readingShared_sameBut c value t) (setRcv_sameBut c (t.rcvBooked c value mark) _)
      (n := [.ports, .receiver c, .free]) (by simp) (by simp)
    exact sameBut_trans hset (receiverFault_sameBut c _ _) (by simp) (by simp)
  | false =>
    rw [readingEvent_of_keeps hdrops]
    have hasked := sameBut_trans (readingChecked_sameBut c value mark t) (requestNotice_sameBut c (t.rcv c).request _)
      (n := [.ports, .receiver c, .agent, .line, .op, .free]) (by simp) (by simp)
    exact sameBut_ite (sameBut_trans hasked (flowNotice_sameBut c .idle _) (by simp) (by simp [flowBlocks])) hasked

theorem rcvBooked_not_fault (hdrops : t.drops c value = true) :
    (((t.readingShared c value).setRcv c (t.rcvBooked c value mark)).rcv c).state.isFault = false := by
  obtain ⟨hstate, -⟩ := drops_iff.mp hdrops
  rw [State.rcv_setRcv_self, (rcvBooked_frame c value mark t).1]
  rcases hstate with h | h <;> rw [h] <;> rfl

theorem readingEvent_rcv_of_drop (hdrops : t.drops c value = true) :
    (t.readingEvent c value mark).rcv c = (t.rcvBooked c value mark).enterFault .scaleDrop := by
  rw [readingEvent_of_drop hdrops, receiverFault_rcv_self (rcvBooked_not_fault hdrops), State.rcv_setRcv_self]

theorem readingEvent_rcv_cases (c : GasClass) (value : Word16) (mark : Bool) (t : State) :
    (t.drops c value = true ∧ (t.readingEvent c value mark).rcv c = (t.rcvBooked c value mark).enterFault .scaleDrop) ∨
      (t.readingEvent c value mark).rcv c = t.rcvChecked c value mark ∨
      (t.readingEvent c value mark).rcv c = (t.rcvChecked c value mark).flowOver (t.cfg.rcvSet c) := by
  cases hdrops : t.drops c value with
  | true => exact .inl ⟨rfl, readingEvent_rcv_of_drop hdrops⟩
  | false =>
    have hasked : ((t.readingChecked c value mark).requestNotice c (t.rcv c).request).rcv c = t.rcvChecked c value mark := by
      rw [requestNotice_rcv, readingChecked_rcv]
    have hcfg : ((t.readingChecked c value mark).requestNotice c (t.rcv c).request).cfg = t.cfg := by
      have hloader : (t.readingChecked c value mark).loader = t.loader := readingChecked_sameBut c value mark t .loader (by simp)
      simp [State.cfg, hloader]
    rw [readingEvent_of_keeps hdrops]
    dsimp only
    split
    · rw [flowNotice_rcv_self, hasked, hcfg]
      split
      · exact .inr (.inr rfl)
      · exact .inr (.inl rfl)
    · exact .inr (.inl hasked)

/-- No check and no notice of the event touches the account again. -/
theorem readingEvent_sameAccount (c : GasClass) (value : Word16) (mark : Bool) (t : State) :
    (t.rcvBooked c value mark).SameAccount ((t.readingEvent c value mark).rcv c) := by
  have hchecked : (t.rcvBooked c value mark).SameAccount (t.rcvChecked c value mark) := checks_sameAccount _ _ _
  rcases readingEvent_rcv_cases c value mark t with ⟨-, h⟩ | h | h <;> rw [h]
  · exact enterFault_sameAccount _ _
  · exact hchecked
  · exact hchecked.trans (flowOver_sameAccount _ _)

theorem Move.slot {s u : State} (h : Move s u) (p : PortId) : (u.port p).slot = (s.port p).slot := by
  cases h with
  | agent a => rfl
  | offers f entry => simp
  | raises e => rfl
  | receiverTold c r _ =>
    rw [tellPorts_slot]
    simp

theorem Moves.slot {s u : State} (h : Moves s u) (p : PortId) : (u.port p).slot = (s.port p).slot :=
  moves_keep (P := fun u => (u.port p).slot = (s.port p).slot) (fun _ _ ht hmove => (hmove.slot p).trans ht) rfl h

theorem receiverFault_slot (c : GasClass) (cause : ReceiverCause) (s : State) (p : PortId) :
    ((s.receiverFault c cause).port p).slot = (s.port p).slot := by
  have hport : (s.faulted c cause).port p = s.port p := by simp
  cases hstate : (s.rcv c).state with
  | accepting => rw [receiverFault_of_accepting hstate, requestNotice_port, tellPorts_slot, hport]
  | full => rw [receiverFault_of_rest (.inl hstate), requestNotice_port, hport]
  | starting => rw [receiverFault_of_rest (.inr hstate), requestNotice_port, hport]
  | discharging =>
    have hmoves := moves_flowNotice c .idle ((s.faulted c cause).requestNotice c (s.rcv c).request)
    rw [receiverFault_of_discharging hstate, Moves.slot hmoves, requestNotice_port, hport]
  | fault k => rw [receiverFault_of_fault (by rw [hstate]; rfl)]

/-- After the shares, the cases stay as they are. -/
theorem readingEvent_slot (c : GasClass) (value : Word16) (mark : Bool) (t : State) (p : PortId) :
    ((t.readingEvent c value mark).port p).slot = ((t.readingShared c value).port p).slot := by
  cases hdrops : t.drops c value with
  | true =>
    rw [readingEvent_of_drop hdrops, receiverFault_slot]
    simp
  | false =>
    have hmoves : Moves ((t.readingChecked c value mark).requestNotice c (t.rcv c).request) (t.readingEvent c value mark) := by
      rw [readingEvent_of_keeps hdrops]
      exact moves_if (moves_flowNotice c .idle _) .refl
    rw [Moves.slot hmoves, requestNotice_port, readingChecked_slot]

/-- The delta is booked by R39's table. -/
theorem readingEvent_booked (hstarted : (t.rcv c).state ≠ .starting) :
    t.Booked c ((value.toNat : Int) - ((t.rcv c).last.toNat : Int)) (t.readingEvent c value mark) := by
  have haccount := readingEvent_sameAccount c value mark t
  obtain ⟨hattributed, hunattributed, houtflow, hdrift⟩ :=
    book_figures (t.bookingFor c value) ((t.rcv c).delta value) ((t.rcv c).record value mark)
  have hshared : t.bookingFor c value = .attributed ↔ 0 < (t.rcv c).delta value ∧ (t.rcv c).state = .accepting ∧
      0 < ((t.weights c).map Share.weight).sum := by
    rw [State.bookingFor, bookingOf_eq_attributed_iff, decide_eq_true_iff]
    rfl
  have hunshared : t.bookingFor c value = .unattributed ↔ 0 < (t.rcv c).delta value ∧
      ((t.rcv c).state = .accepting ∧ ((t.weights c).map Share.weight).sum = 0 ∨ (t.rcv c).state = .full) := by
    rw [State.bookingFor, bookingOf_eq_unattributed_iff, decide_eq_false_iff_not, Nat.not_lt, Nat.le_zero]
    rfl
  refine ⟨?_, ?_, ?_, ?_, fun hshare x hx => ?_, fun p hnone => ?_⟩
  · exact haccount.attributed.trans (hattributed.trans (if_congr hshared rfl rfl))
  · exact haccount.unattributed.trans (hunattributed.trans (if_congr hunshared rfl rfl))
  · exact haccount.outflow.trans (houtflow.trans (if_congr bookingOf_eq_outflow_iff rfl rfl))
  · exact haccount.drift.trans (hdrift.trans (if_congr (bookingOf_eq_drift_iff hstarted) rfl rfl))
  · rw [readingEvent_slot, State.readingShared, shared_port_of_share (hshared.mpr hshare) hx]
    rw [Port.mapSlot, funext (addMass_eq _)]
    rfl
  · rw [readingEvent_slot, State.readingShared,
      shared_port_of_none fun h => hnone ⟨hshared.mp h.1, h.2⟩]

/-! ### The receiver's state after the event (R45, R49) -/

theorem readingEvent_of_quiet (hkeeps : t.drops c value = false)
    (hquiet : (t.rcvChecked c value mark).doneSent = (t.rcv c).doneSent) :
    t.readingEvent c value mark = (t.readingChecked c value mark).requestNotice c (t.rcv c).request := by
  rw [readingEvent_of_keeps hkeeps, hquiet]
  dsimp only
  rw [if_neg (by simp)]

theorem readingEvent_rcv_of_quiet (hkeeps : t.drops c value = false)
    (hquiet : (t.rcvChecked c value mark).doneSent = (t.rcv c).doneSent) :
    (t.readingEvent c value mark).rcv c = t.rcvChecked c value mark := by
  rw [readingEvent_of_quiet hkeeps hquiet, requestNotice_rcv, readingChecked_rcv]

theorem rcvChecked_of_other (hstate : (t.rcv c).state ≠ .discharging) :
    t.rcvChecked c value mark =
      ({ t.rcvBooked c value mark with state := (t.rcvBooked c value mark).thresholdState (t.cfg.rcvSet c) } : Receiver).checkRequest
        (t.cfg.rcvSet c) :=
  checks_of_other (by rwa [(rcvBooked_frame c value mark t).1]) _ _

theorem rcvChecked_quiet_of_other (hstate : (t.rcv c).state ≠ .discharging) :
    (t.rcvChecked c value mark).doneSent = (t.rcv c).doneSent := by
  obtain ⟨-, -, -, -, -, -, -, -, -, hdone, -⟩ := rcvBooked_frame c value mark t
  rw [rcvChecked_of_other hstate]
  exact hdone

theorem thresholdState_of_fault {g : ReceiverSet} {r : Receiver} {cause : ReceiverCause} (hstate : r.state = .fault cause) :
    r.thresholdState g = .fault cause := by
  unfold Receiver.thresholdState
  rw [hstate]

/-- A receiver in FAULT stays there. -/
theorem readingEvent_of_fault {cause : ReceiverCause} (hstate : (t.rcv c).state = .fault cause) :
    ((t.readingEvent c value mark).rcv c).state = .fault cause := by
  have hother : (t.rcv c).state ≠ .discharging := by simp [hstate]
  have hkeeps : t.drops c value = false := by
    rw [Bool.eq_false_iff, Ne, drops_iff]
    simp [hstate]
  rw [readingEvent_rcv_of_quiet hkeeps (rcvChecked_quiet_of_other hother), rcvChecked_of_other hother]
  exact thresholdState_of_fault ((rcvBooked_frame c value mark t).1.trans hstate)

/-- ACCEPTING and FULL by their thresholds, with the request. -/
theorem rcvChecked_of_rest (hfirst : (t.rcv c).first = true) (hstate : (t.rcv c).state = .accepting ∨ (t.rcv c).state = .full) :
    (t.rcvChecked c value mark).state =
        (if (t.rcv c).state = .accepting then
          (if (t.cfg.rcvSet c).full ≤ levelOfReading (t.cfg.rcvSet c) value mark then .full else .accepting)
        else if levelOfReading (t.cfg.rcvSet c) value mark < (t.cfg.rcvSet c).dOn then .accepting else .full) ∧
      (t.rcvChecked c value mark).request = decide ((t.cfg.rcvSet c).dOn ≤ levelOfReading (t.cfg.rcvSet c) value mark) := by
  let g := t.cfg.rcvSet c
  have hlevel : (t.rcvBooked c value mark).level g = levelOfReading g value mark := rcvBooked_level hfirst g
  have hlevel' : ∀ st, ({ t.rcvBooked c value mark with state := st } : Receiver).level g = levelOfReading g value mark :=
    fun st => hlevel
  have hbooked : (t.rcvBooked c value mark).state = (t.rcv c).state := (rcvBooked_frame c value mark t).1
  have hrests : (t.rcvBooked c value mark).thresholdState g =
      if (t.rcv c).state = .accepting then (if g.full ≤ levelOfReading g value mark then .full else .accepting)
      else if levelOfReading g value mark < g.dOn then .accepting else .full := by
    unfold Receiver.thresholdState
    rw [hbooked, hlevel]
    rcases hstate with h | h <;> simp [h]
  have hwhere : (t.rcvBooked c value mark).thresholdState g = .accepting ∨ (t.rcvBooked c value mark).thresholdState g = .full := by
    rw [hrests]
    (repeat' split) <;> simp
  rw [rcvChecked_of_other (by rcases hstate with h | h <;> simp [h])]
  refine ⟨hrests, ?_⟩
  show Receiver.wantsDischarge g _ = _
  unfold Receiver.wantsDischarge
  rw [hlevel']
  rcases hwhere with h | h <;> rw [h]

/-- A port that extracts, once its receiver is no longer ACCEPTING. -/
theorem readingEvent_shuts {p : PortId} (haccepting : (t.rcv c).state = .accepting)
    (hleaves : ((t.readingEvent c value mark).rcv c).state ≠ .accepting) (hport : (t.port p).state = .extract)
    (hgas : (t.port p).gas = some c) :
    ((t.readingEvent c value mark).port p).state = .wait .receiver ∧ ((t.readingEvent c value mark).port p).valveH = false ∧
      ((t.readingEvent c value mark).port p).valveK = false := by
  obtain ⟨hsame, hgas'⟩ := shared_port_frame (s := t) (c := c) (booking := t.bookingFor c value)
    (delta := ((t.rcv c).delta value).toNat) p
  have hstate' : ((t.readingShared c value).port p).state = .extract := hsame.trans hport
  have hgas'' : ((t.readingShared c value).port p).gas = some c := hgas'.trans hgas
  suffices hwaits : (t.readingEvent c value mark).port p = ((t.readingShared c value).port p).toWait .receiver by
    rw [hwaits]
    exact ⟨rfl, rfl, rfl⟩
  cases hdrops : t.drops c value with
  | true =>
    rw [readingEvent_of_drop hdrops, receiverFault_shuts]
    · simp
    · rw [State.rcv_setRcv_self, (rcvBooked_frame c value mark t).1, haccepting]
    · simpa using hgas''
    · simpa using hstate'
  | false =>
    have hquiet : (t.rcvChecked c value mark).doneSent = (t.rcv c).doneSent := rcvChecked_quiet_of_other (by simp [haccepting])
    rw [readingEvent_rcv_of_quiet hdrops hquiet] at hleaves
    rw [readingEvent_of_quiet hdrops hquiet, requestNotice_port, State.readingChecked, if_neg (by rwa [haccepting]), tellPorts_shuts]
    · simp
    · unfold State.accepting
      rw [State.rcv_setRcv_self]
      split
      next h => exact absurd h hleaves
      next => rfl
    · simpa using hgas''
    · simpa using hstate'

theorem not_drops_of_discharging (hstate : (t.rcv c).state = .discharging) : t.drops c value = false := by
  rw [Bool.eq_false_iff, Ne, drops_iff]
  simp [hstate]

theorem rcvChecked_of_discharging (hfirst : (t.rcv c).first = true) (hstate : (t.rcv c).state = .discharging) :
    (t.rcvChecked c value mark).state = .discharging ∧
      (t.rcvChecked c value mark).lowest =
        (if (t.rcvBooked c value mark).fell (t.cfg.rcvSet c) then some (levelOfReading (t.cfg.rcvSet c) value mark)
        else (t.rcv c).lowest) ∧
      (t.rcvChecked c value mark).stall =
        (if decide (levelOfReading (t.cfg.rcvSet c) value mark ≤ (t.cfg.rcvSet c).dOff) && !(t.rcv c).doneSent then .stopped
        else if (t.rcvBooked c value mark).fell (t.cfg.rcvSet c) then .running (t.cfg.header.stallS * 1000) else (t.rcv c).stall) ∧
      (t.rcvChecked c value mark).doneSent =
        ((t.rcv c).doneSent || decide (levelOfReading (t.cfg.rcvSet c) value mark ≤ (t.cfg.rcvSet c).dOff)) := by
  obtain ⟨hbooked, -, -, -, -, -, -, hlowest, hstall, hdone, -⟩ := rcvBooked_frame c value mark t
  have hlevel := rcvBooked_level (value := value) (mark := mark) hfirst (t.cfg.rcvSet c)
  unfold State.rcvChecked
  rw [checks_of_discharging (hbooked.trans hstate), flowChecks_eq, Receiver.atDone, hlevel, hlowest, hstall, hdone]
  exact ⟨hbooked.trans hstate, rfl, rfl, rfl⟩

/-- A flow that goes on: the lowest content and the stall timer follow the reading. -/
theorem readingEvent_of_flow {low : Nat} (hfirst : (t.rcv c).first = true) (hstate : (t.rcv c).state = .discharging)
    (hlowest : (t.rcv c).lowest = some low) (habove : (t.cfg.rcvSet c).dOff < levelOfReading (t.cfg.rcvSet c) value mark) :
    ((t.readingEvent c value mark).rcv c).state = .discharging ∧
      ((t.readingEvent c value mark).rcv c).lowest = some (min low (levelOfReading (t.cfg.rcvSet c) value mark)) ∧
      ((t.readingEvent c value mark).rcv c).stall =
        (if levelOfReading (t.cfg.rcvSet c) value mark < low then .running (t.cfg.header.stallS * 1000) else (t.rcv c).stall) := by
  obtain ⟨hdischarging, hlow, hstall, hdone⟩ := rcvChecked_of_discharging (value := value) (mark := mark) hfirst hstate
  have hnotDone : decide (levelOfReading (t.cfg.rcvSet c) value mark ≤ (t.cfg.rcvSet c).dOff) = false := decide_eq_false (by omega)
  have hfell : (t.rcvBooked c value mark).fell (t.cfg.rcvSet c) = decide (levelOfReading (t.cfg.rcvSet c) value mark < low) := by
    obtain ⟨-, -, -, -, -, -, -, hbooked, -⟩ := rcvBooked_frame c value mark t
    unfold Receiver.fell
    rw [hbooked, hlowest, ← rcvBooked_level (value := value) (mark := mark) hfirst]
  rw [hfell] at hlow hstall
  rw [hnotDone] at hstall hdone
  rw [readingEvent_rcv_of_quiet (not_drops_of_discharging hstate) (by rw [hdone, Bool.or_false])]
  refine ⟨hdischarging, ?_, ?_⟩
  · rw [hlow, hlowest]
    by_cases h : levelOfReading (t.cfg.rcvSet c) value mark < low
    · rw [if_pos (decide_eq_true h), Nat.min_eq_right (by omega)]
    · rw [if_neg (by simpa using h), Nat.min_eq_left (by omega)]
  · rw [hstall]
    simp

/-- The content at or below D_off ends the flow of the agent that flows it, and is noted where none does. -/
theorem readingEvent_of_done (hfirst : (t.rcv c).first = true) (hstate : (t.rcv c).state = .discharging)
    (hdone : (t.rcv c).doneSent = false) (hbelow : levelOfReading (t.cfg.rcvSet c) value mark ≤ (t.cfg.rcvSet c).dOff) :
    (t.agent.dstate = .flowing → t.agent.sought = some c →
      ((t.readingEvent c value mark).rcv c).state =
          (if levelOfReading (t.cfg.rcvSet c) value mark < (t.cfg.rcvSet c).full then .accepting else .full) ∧
        (t.readingEvent c value mark).agent.disch c = false ∧ (t.readingEvent c value mark).agent.sel c = false ∧
        (t.readingEvent c value mark).agent.dstate ≠ .flowing) ∧
    (¬(t.agent.dstate = .flowing ∧ t.agent.sought = some c) →
      ((t.readingEvent c value mark).rcv c).state = .discharging ∧ ((t.readingEvent c value mark).rcv c).doneSent = true ∧
        ((t.readingEvent c value mark).rcv c).stall = .stopped) := by
  obtain ⟨hdischarging, -, hstall, hsent⟩ := rcvChecked_of_discharging (value := value) (mark := mark) hfirst hstate
  rw [hdone, decide_eq_true hbelow] at hstall hsent
  let checked := t.readingChecked c value mark
  let asked := checked.requestNotice c (t.rcv c).request
  have hevent : t.readingEvent c value mark = asked.flowNotice c .idle := by
    rw [readingEvent_of_keeps (not_drops_of_discharging hstate)]
    exact if_pos (by rw [hsent, hdone]; rfl)
  have hagent : checked.agent = t.agent := readingChecked_agent c value mark t
  have hrcv : asked.rcv c = t.rcvChecked c value mark := by
    rw [requestNotice_rcv, readingChecked_rcv]
  have hcfg : asked.cfg = t.cfg := by
    have hloader : checked.loader = t.loader := readingChecked_sameBut c value mark t .loader (by simp)
    simp [State.cfg, asked, hloader]
  have hflows : asked.agent.dstate = .flowing ∧ asked.agent.sought = some c ↔ t.agent.dstate = .flowing ∧ t.agent.sought = some c := by
    rw [requestNotice_flows_iff, hagent]
  rw [hevent]
  refine ⟨fun hflowing hsought => ?_, fun hother => ?_⟩
  · obtain ⟨hflowing', hsought'⟩ := hflows.mpr ⟨hflowing, hsought⟩
    obtain ⟨hends, hshut⟩ := endFlow_idle_shut hsought' false true
    rw [flowNotice_of_flowing hflowing' hsought', endFlow_rcv_self hsought', hrcv, hcfg,
      (flowOver_of_discharging hdischarging).1]
    have haccount : (t.rcvBooked c value mark).SameAccount (t.rcvChecked c value mark) := checks_sameAccount _ _ _
    obtain ⟨-, hbooked, hlatest, hmark, -⟩ := rcvBooked_frame c value mark t
    rw [level_eq (haccount.first.trans (hbooked.trans hfirst)) (haccount.latest.trans hlatest) (haccount.overMark.trans hmark)]
    exact ⟨rfl, (hshut c).1, (hshut c).2, hends⟩
  · rw [flowNotice_eq_self (fun h => hother (hflows.mp h)), hrcv]
    exact ⟨hdischarging, hsent, hstall⟩

/-! ### The command -/

/-- A booking said of the station with the record taken is one of the station before it. -/
theorem booked_of_readingTaken {d : Int} {s u : State} (h : (s.readingTaken c).Booked c d u) : s.Booked c d u := by
  unfold State.Booked at h ⊢
  rw [readingTaken_rcv, readingTaken_weights] at h
  simp only [readingTaken_port] at h
  exact h

end

/-- Settles O44: the record, the first reading, and the event. -/
theorem readingIsBooked : Obligations.ReadingIsBooked := fun c mark field value level g s hloaded hactive hg hvalue hlevel => by
  subst hg
  have hvalue' : readingValue mark field = value := hvalue.symm
  have hlevel' : level = levelOfReading (s.cfg.rcvSet c) value mark := hlevel
  subst hlevel'
  let t := s.readingTaken c
  have hrcv : t.rcv c = { s.rcv c with silence := .running 500 } := readingTaken_rcv c s
  have hstate : (t.rcv c).state = (s.rcv c).state := by rw [hrcv]
  have hcfg : t.cfg = s.cfg := readingTaken_cfg c s
  have hport : ∀ p, t.port p = s.port p := readingTaken_port c s
  have hagent : t.agent = s.agent := readingTaken_sameBut c s .agent (by simp)
  have htaken := readingTaken_sameBut c s
  have hlink : t.scaleLink = ⟨.hunting, .stopped⟩ := by simp [t, State.readingTaken, State.restartSilence, State.modRcv, State.setRecordLink]
  have hexec := exec_reading_of_takes hloaded hactive c mark field
  rw [hvalue'] at hexec
  cases hfirst : (s.rcv c).first with
  | false =>
    rw [hfirst] at hexec
    let u := t.takeFirstReading c value mark
    have hu : u.rcv c = (t.rcv c).firstReading (s.cfg.rcvSet c) value mark := hcfg ▸ takeFirstReading_rcv c value mark t
    have hsame : t.SameBut [.ports, .receiver c, .agent, .line, .op] u := takeFirstReading_sameBut c value mark t
    have haccount : ({ (t.rcv c).record value mark with baseline := value, first := true } : Receiver).SameAccount (u.rcv c) :=
      hu ▸ firstReading_sameAccount _ _ _ _
    refine ⟨u, hexec, sameBut_trans htaken hsame (by simp) (by simp), (hsame (.link .scale) (by simp)).trans hlink, haccount.first,
      haccount.latest, haccount.overMark, haccount.last, haccount.silence.trans (by rw [hrcv]; rfl),
      fun _ => ⟨haccount.baseline, ?figures, fun hstarting => ?starts, fun cause hfault => ?stays⟩, fun h => by simp at h⟩
    case figures =>
      exact ⟨haccount.attributed.trans (by rw [hrcv]; rfl), haccount.unattributed.trans (by rw [hrcv]; rfl),
        haccount.outflow.trans (by rw [hrcv]; rfl), haccount.drift.trans (by rw [hrcv]; rfl)⟩
    case starts =>
      rw [hu]
      exact firstReading_of_starting (hstate.trans hstarting) _ _ _
    case stays =>
      rw [hu]
      unfold Receiver.firstReading
      rw [hstate, hfault]
      exact hstate.trans hfault
  | true =>
    rw [hfirst] at hexec
    let u := t.readingEvent c value mark
    have hfirst' : (t.rcv c).first = true := by rw [hrcv]; exact hfirst
    have hsame : t.SameBut [.ports, .receiver c, .agent, .line, .op, .free] u := readingEvent_sameBut c value mark t
    have haccount : (t.rcvBooked c value mark).SameAccount (u.rcv c) := readingEvent_sameAccount c value mark t
    obtain ⟨-, hbfirst, hblatest, hbmark, hbbaseline, hblast, hbsilence, -⟩ := rcvBooked_frame c value mark t
    refine ⟨u, hexec, sameBut_trans htaken hsame (by simp) (by simp), (hsame (.link .scale) (by simp)).trans hlink,
      haccount.first.trans (hbfirst.trans hfirst'), haccount.latest.trans hblatest, haccount.overMark.trans hbmark,
      haccount.last.trans hblast, haccount.silence.trans (hbsilence.trans (by rw [hrcv])), fun h => by simp at h,
      fun _ => ⟨haccount.baseline.trans (hbbaseline.trans (by rw [hrcv])), fun hstarted => ?booked, fun cause hfault => ?stays,
        fun hrests => ⟨?thresholds, fun hleaves p hp hgas haccepting => ?shuts⟩, fun hdischarging low hlow habove => ?flows,
        fun hdischarging hbelow hdone => ?done⟩⟩
    case booked =>
      have hbooked := readingEvent_booked (value := value) (mark := mark) (t := t) (c := c) (by rwa [hstate])
      rw [hrcv] at hbooked
      exact booked_of_readingTaken hbooked
    case stays => exact readingEvent_of_fault (hstate.trans hfault)
    case thresholds =>
      have hrests' : (t.rcv c).state = .accepting ∨ (t.rcv c).state = .full := by rwa [hstate]
      have hdelta : (t.rcv c).delta value = (value.toNat : Int) - ((s.rcv c).last.toNat : Int) := by rw [hrcv]; rfl
      split
      next hfall =>
        have hdrops : t.drops c value = true := drops_iff.mpr ⟨hrests', by rw [hdelta, hcfg]; exact hfall⟩
        have hu : u.rcv c = (t.rcvBooked c value mark).enterFault .scaleDrop := readingEvent_rcv_of_drop hdrops
        rw [hu]
        refine ⟨rfl, rfl, ?_⟩
        show (t.readingEvent c value mark).op.flag .receiverFault = true
        rw [readingEvent_of_drop hdrops]
        exact receiverFault_flag_self (rcvBooked_not_fault hdrops) _
      next hkeeps =>
        have hdrops : t.drops c value = false := by
          rw [Bool.eq_false_iff, Ne, drops_iff, hdelta, hcfg]
          exact fun h => hkeeps h.2
        have hquiet : (t.rcvChecked c value mark).doneSent = (t.rcv c).doneSent :=
          rcvChecked_quiet_of_other (by rcases hrests' with h | h <;> simp [h])
        have hu : u.rcv c = t.rcvChecked c value mark := readingEvent_rcv_of_quiet hdrops hquiet
        have hchecked := rcvChecked_of_rest (value := value) (mark := mark) hfirst' hrests'
        rw [hcfg, hstate] at hchecked
        rwa [hu]
    case shuts =>
      exact readingEvent_shuts (hstate.trans haccepting) hleaves (by rwa [hport]) (by rwa [hport])
    case flows =>
      have hflow := readingEvent_of_flow (value := value) (mark := mark) (low := low) hfirst' (hstate.trans hdischarging)
        (by rw [hrcv]; exact hlow) (by rwa [hcfg])
      rw [hcfg, hrcv] at hflow
      exact hflow
    case done =>
      have hends := readingEvent_of_done (value := value) (mark := mark) hfirst' (hstate.trans hdischarging)
        (by rw [hrcv]; exact hdone) (by rwa [hcfg])
      rw [hcfg, hagent] at hends
      exact hends

end Sys2Proof.Machine
end

section
/-! PROOFS. Exact apportionment (O46): the floor shares and their remainders, the order of the leftover grams as a strict order, and the
ranks it gives, which are 0, 1, 2 and so on (R42). -/

namespace Sys2Proof.Machine

/-! ### Floors and remainders -/

/-- The shares and the remainders make up the whole delta. -/
theorem delta_mul_total (delta : Nat) (l : List Share) (total : Nat) :
    total * (l.map (floorShare delta total)).sum + (l.map (remainderOf delta total)).sum = delta * totalWeight l := by
  induction l with
  | nil => simp [totalWeight]
  | cons x rest ih =>
    have hx : total * floorShare delta total x + remainderOf delta total x = delta * x.weight := Nat.div_add_mod _ _
    simp only [totalWeight, List.map_cons, List.sum_cons] at ih ⊢
    rw [Nat.mul_add, Nat.mul_add, ← hx, ← ih]
    omega

section

variable {delta : Nat} {l : List Share} (htotal : 0 < totalWeight l)

include htotal

theorem floors_le : (l.map (floorShare delta (totalWeight l))).sum ≤ delta := by
  have h := delta_mul_total delta l (totalWeight l)
  refine Nat.le_of_mul_le_mul_left ?_ htotal
  rw [Nat.mul_comm _ delta, ← h]
  exact Nat.le_add_right _ _

theorem floors_add_leftover : (l.map (floorShare delta (totalWeight l))).sum + leftover delta l = delta := by
  have h := floors_le (delta := delta) htotal
  unfold leftover
  omega

/-- The remainders make up the leftover grams. -/
theorem remainders_eq : (l.map (remainderOf delta (totalWeight l))).sum = totalWeight l * leftover delta l := by
  have h := delta_mul_total delta l (totalWeight l)
  rw [← floors_add_leftover (delta := delta) htotal, Nat.mul_comm _ (totalWeight l), Nat.mul_add,
    floors_add_leftover (delta := delta) htotal] at h
  omega

end

/-- Remainders are below the total, so only those above 0 count. -/
theorem sum_remainders_le {total : Nat} (htotal : 0 < total) (delta : Nat) (l : List Share) :
    (l.map (remainderOf delta total)).sum ≤ total * (l.filter fun x => decide (0 < remainderOf delta total x)).length := by
  induction l with
  | nil => simp
  | cons x rest ih =>
    have hx : remainderOf delta total x < total := Nat.mod_lt _ htotal
    by_cases hpos : 0 < remainderOf delta total x
    · rw [List.filter_cons_of_pos (by simpa using hpos), List.map_cons, List.sum_cons, List.length_cons, Nat.mul_add]
      omega
    · rw [List.filter_cons_of_neg (by simpa using hpos), List.map_cons, List.sum_cons]
      omega

theorem sum_remainders_lt {total : Nat} (htotal : 0 < total) (delta : Nat) {l : List Share} (hl : l ≠ []) :
    (l.map (remainderOf delta total)).sum < total * l.length := by
  induction l with
  | nil => exact absurd rfl hl
  | cons x rest ih =>
    have hx : remainderOf delta total x < total := Nat.mod_lt _ htotal
    rw [List.map_cons, List.sum_cons, List.length_cons, Nat.mul_add]
    by_cases hrest : rest = []
    · simpa [hrest] using hx
    · have := ih hrest
      omega

theorem leftover_lt_length {delta : Nat} {l : List Share} (htotal : 0 < totalWeight l) : leftover delta l < l.length := by
  have hl : l ≠ [] := fun h => by simp [h, totalWeight] at htotal
  have h := sum_remainders_lt htotal delta hl
  rw [remainders_eq htotal] at h
  exact Nat.lt_of_mul_lt_mul_left h

/-! ### Ranks in a strict order -/

section

variable {α : Type*} [DecidableEq α] {before : α → α → Bool} {s : Finset α}

/-- How many of a set come before one of it. -/
def rankIn (before : α → α → Bool) (s : Finset α) (x : α) : Nat := (s.filter fun y => before x y = true).card

variable (hself : ∀ x ∈ s, before x x = false)
  (htrans : ∀ x ∈ s, ∀ y ∈ s, ∀ z ∈ s, before x y = true → before y z = true → before x z = true)
  (htotal : ∀ x ∈ s, ∀ y ∈ s, x ≠ y → before x y = true ∨ before y x = true)

include hself

theorem rankIn_lt_card {x : α} (hx : x ∈ s) : rankIn before s x < s.card :=
  Finset.card_lt_card (Finset.filter_ssubset.mpr ⟨x, hx, by simp [hself x hx]⟩)

include htrans

theorem rankIn_lt_rankIn {x y : α} (hx : x ∈ s) (hy : y ∈ s) (hbefore : before x y = true) : rankIn before s y < rankIn before s x := by
  refine Finset.card_lt_card (Finset.ssubset_iff_of_subset (fun z hz => ?_) |>.mpr ⟨y, ?_, ?_⟩)
  · obtain ⟨hz, hyz⟩ := Finset.mem_filter.mp hz
    exact Finset.mem_filter.mpr ⟨hz, htrans x hx y hy z hz hbefore hyz⟩
  · exact Finset.mem_filter.mpr ⟨hy, hbefore⟩
  · simp [hself y hy]

include htotal

theorem rankIn_injOn : Set.InjOn (rankIn before s) s := by
  intro x hx y hy heq
  by_contra hne
  rcases htotal x hx y hy hne with h | h
  · exact absurd heq (rankIn_lt_rankIn hself htrans hx hy h).ne'
  · exact absurd heq (rankIn_lt_rankIn hself htrans hy hx h).ne

/-- The ranks are 0, 1, 2 and so on. -/
theorem image_rankIn : s.image (rankIn before s) = Finset.range s.card := by
  refine Finset.eq_of_subset_of_card_le (fun n hn => ?_) ?_
  · obtain ⟨x, hx, rfl⟩ := Finset.mem_image.mp hn
    exact Finset.mem_range.mpr (rankIn_lt_card hself hx)
  · rw [Finset.card_range, Finset.card_image_of_injOn (rankIn_injOn hself htrans htotal)]

theorem card_filter_rankIn {k : Nat} (hk : k ≤ s.card) : (s.filter fun x => rankIn before s x < k).card = k := by
  have hinj : Set.InjOn (rankIn before s) ↑(s.filter fun x => rankIn before s x < k) :=
    (rankIn_injOn hself htrans htotal).mono fun x hx => (Finset.mem_filter.mp hx).1
  have himage : (s.filter fun x => rankIn before s x < k).image (rankIn before s) = Finset.range k := by
    have hfilter := Finset.filter_image (s := s) (f := rankIn before s) (p := fun n : Nat => n < k)
    rw [image_rankIn hself htrans htotal] at hfilter
    rw [← hfilter]
    ext n
    simp only [Finset.mem_filter, Finset.mem_range]
    omega
  rw [← Finset.card_image_of_injOn hinj, himage, Finset.card_range]

end

/-! ### The order of the leftover grams (R42) -/

section

variable {delta total : Nat} {x y z : Share}

theorem goesBefore_iff :
    goesBefore delta total x y = true ↔ remainderOf delta total x < remainderOf delta total y ∨
      remainderOf delta total x = remainderOf delta total y ∧ y.port.num < x.port.num := by
  simp [goesBefore]

theorem goesBefore_irrefl : goesBefore delta total x x = false := by
  rw [Bool.eq_false_iff, Ne, goesBefore_iff]
  omega

theorem goesBefore_trans (hxy : goesBefore delta total x y = true) (hyz : goesBefore delta total y z = true) :
    goesBefore delta total x z = true := by
  rw [goesBefore_iff] at *
  omega

theorem portNum_injective : Function.Injective PortId.num := fun p q => by
  cases p <;> cases q <;> simp [PortId.num]

theorem goesBefore_total (hports : x.port ≠ y.port) :
    goesBefore delta total x y = true ∨ goesBefore delta total y x = true := by
  have hnum : x.port.num ≠ y.port.num := portNum_injective.ne hports
  simp only [goesBefore_iff]
  omega

end

/-- Shares of distinct ports are distinct. -/
theorem port_ne_of_ne {l : List Share} (hdistinct : (l.map Share.port).Nodup) {x y : Share} (hx : x ∈ l) (hy : y ∈ l) (hne : x ≠ y) :
    x.port ≠ y.port := fun h => hne (List.inj_on_of_nodup_map hdistinct hx hy h)

/-- As many ports take a gram more as there are grams left over. -/
theorem length_filter_rankOf {delta k : Nat} {l : List Share} (hdistinct : (l.map Share.port).Nodup) (hk : k ≤ l.length) :
    (l.filter fun x => decide (rankOf delta l x < k)).length = k := by
  have hl : l.Nodup := hdistinct.of_map
  have hrank : ∀ x, rankOf delta l x = rankIn (goesBefore delta (totalWeight l)) l.toFinset x := fun x => by
    rw [rankIn, ← List.toFinset_filter, List.toFinset_card_of_nodup (hl.filter _)]
    rfl
  have hcard : k ≤ l.toFinset.card := by rwa [List.toFinset_card_of_nodup hl]
  have hcount := card_filter_rankIn (before := goesBefore delta (totalWeight l)) (s := l.toFinset)
    (fun _ _ => goesBefore_irrefl) (fun _ _ _ _ _ _ => goesBefore_trans)
    (fun x hx y hy hne => goesBefore_total (port_ne_of_ne hdistinct (List.mem_toFinset.mp hx) (List.mem_toFinset.mp hy) hne)) hcard
  refine Eq.trans ?_ hcount
  rw [← List.toFinset_card_of_nodup (hl.filter _), List.toFinset_filter]
  simp [hrank]

/-! ### The final shares (R43) -/

theorem sum_map_add_gram (f : Share → Nat) (p : Share → Prop) [DecidablePred p] (l : List Share) :
    (l.map fun x => f x + if p x then 1 else 0).sum = (l.map f).sum + (l.filter fun x => decide (p x)).length := by
  induction l with
  | nil => rfl
  | cons x rest ih =>
    rw [List.map_cons, List.sum_cons, ih, List.map_cons, List.sum_cons]
    by_cases hx : p x
    · rw [if_pos hx, List.filter_cons_of_pos (by simpa using hx), List.length_cons]
      omega
    · rw [if_neg hx, List.filter_cons_of_neg (by simpa using hx)]
      omega

theorem sum_finalShare {delta : Nat} {l : List Share} (hdistinct : (l.map Share.port).Nodup) (htotal : 0 < totalWeight l) :
    (l.map (finalShare delta l)).sum = delta := by
  have hsum := sum_map_add_gram (floorShare delta (totalWeight l)) (fun x => rankOf delta l x < leftover delta l) l
  rw [length_filter_rankOf hdistinct (leftover_lt_length htotal).le, floors_add_leftover htotal] at hsum
  exact hsum

/-- A port of weight 0 comes after every port with a remainder, and there are at least as many of these as grams left over. -/
theorem finalShare_of_weight_zero {delta : Nat} {l : List Share} (htotal : 0 < totalWeight l) {x : Share} (hx : x.weight = 0) :
    finalShare delta l x = 0 := by
  have hfloor : floorShare delta (totalWeight l) x = 0 := by simp [floorShare, hx]
  have hnone : remainderOf delta (totalWeight l) x = 0 := by simp [remainderOf, hx]
  have hmany : leftover delta l ≤ (l.filter fun y => decide (0 < remainderOf delta (totalWeight l) y)).length := by
    have h := sum_remainders_le htotal delta l
    rw [remainders_eq htotal] at h
    exact Nat.le_of_mul_le_mul_left h htotal
  have hrank : (l.filter fun y => decide (0 < remainderOf delta (totalWeight l) y)).length ≤ rankOf delta l x := by
    refine (List.monotone_filter_right l fun y hy => ?_).length_le
    rw [goesBefore_iff, hnone]
    exact .inl (by simpa using hy)
  rw [finalShare, hfloor, if_neg (by omega)]

theorem rankOf_eq (delta : Nat) (l : List Share) (x : Share) :
    rankOf delta l x = (l.filter fun y =>
      delta * x.weight % (l.map Share.weight).sum < delta * y.weight % (l.map Share.weight).sum ∨
        (delta * x.weight % (l.map Share.weight).sum = delta * y.weight % (l.map Share.weight).sum ∧
          y.port.num < x.port.num)).length := by
  unfold rankOf
  congr 2
  funext y
  rw [Bool.eq_iff_iff, goesBefore_iff, decide_eq_true_iff]
  rfl

/-- Settles O46: the shares by rank, their sum by the count of the ranks, and a weight of 0. -/
theorem apportionmentIsExact : Obligations.ApportionmentIsExact := fun delta l hdistinct htotal => by
  refine ⟨fun x _ => ?_, rfl, sum_finalShare hdistinct htotal, leftover_lt_length htotal,
    fun x _ hx => finalShare_of_weight_zero htotal hx⟩
  rw [finalShare, rankOf_eq]
  rfl

end Sys2Proof.Machine
end

section
/-! PROOFS. The record links' own commands (O55): a defect, a record that comes while the framer waits, and the quiet that ends both (R175,
R200). -/

namespace Sys2Proof.Machine

theorem setRecordLink_sameBut (l : RecordLink) (x : RecordLinkState) (s : State) : s.SameBut [.link l] (s.setRecordLink l x) := by
  rw [sameBut_iff]
  cases l <;> simp [State.setRecordLink]

theorem onRecord_of_waits {l : RecordLink} {n : Nat} {s : State} (hloaded : s.loaded = true)
    (hwaits : (s.recordLink l).framer.active = false) (hgap : (s.recordLink l).gap = .running n) (act : State → State) :
    s.onRecord l act = s.setRecordLink l { s.recordLink l with gap := .running 11 } := by
  rw [State.onRecord, if_pos hloaded, if_neg (by simp [hwaits]), hgap]
  rfl

/-- A framer that waits for quiet. -/
theorem waits_iff (x : LinkFramer) : x.active = false ↔ x = .waitingQuiet ∨ x = .skipping := by
  cases x <;> simp [LinkFramer.active]

theorem linkQuiet_of_waits {l : RecordLink} {n : Nat} {s : State} (hwaits : (s.recordLink l).framer.active = false)
    (hgap : (s.recordLink l).gap = .running n) : s.linkQuiet l = (s.elapse n).setRecordLink l ⟨.hunting, .stopped⟩ := by
  unfold State.linkQuiet
  rcases (waits_iff _).mp hwaits with h | h <;> rw [h, hgap] <;> exact State.onExpiry_running ..

theorem linkQuiet_of_inMessage {l : RecordLink} {b : List Byte} {s : State} (hmessage : (s.recordLink l).framer = .inMessage b) :
    s.linkQuiet l = (s.elapse (s.recordLink l).gap.left).setRecordLink l ⟨.hunting, .stopped⟩ := by
  unfold State.linkQuiet
  rw [hmessage]

theorem discard_hunting (d : RecordDefect) :
    (⟨.hunting, .stopped⟩ : RecordLinkState).discard d = if d = .lengthAbove40 then ⟨.skipping, .running 11⟩ else ⟨.hunting, .stopped⟩ := by
  cases d <;> rfl

/-- The commands of a record link, each through the link's framer. -/
theorem exec_eq_onRecord {i : Instr} {l : RecordLink}
    (hi : (∃ d, i = .recordDiscarded l d) ∨ (l = .scale ∧ ∃ c m v, i = .reading c m v) ∨
      (l = .scale ∧ ∃ c, i = .faultMarkedRecord c) ∨ (l = .analyser ∧ i = .ready) ∨ (l = .analyser ∧ ∃ h k, i = .result h k))
    (s : State) : ∃ act, exec i s = .next (s.onRecord l act).finish := by
  rcases hi with ⟨d, rfl⟩ | ⟨rfl, c, m, v, rfl⟩ | ⟨rfl, c, rfl⟩ | ⟨rfl, rfl⟩ | ⟨rfl, h, k, rfl⟩ <;> exact ⟨_, rfl⟩

/-- Settles O55: a defect, a record that is ignored whole, and the two ways the quiet ends. -/
theorem recordLinksSkipWhatIsNotGood : Obligations.RecordLinksSkipWhatIsNotGood := fun l s => by
  refine ⟨fun d hloaded hactive => ?discarded, fun i n hi hloaded hwaits hgap => ?ignored, fun n hwaits hgap => ?quiet,
    fun b hmessage => ?dropped⟩
  case discarded =>
    let t := s.setRecordLink l ⟨.hunting, .stopped⟩
    refine ⟨t.setRecordLink l ((t.recordLink l).discard d),
      congrArg (fun t => Host.Outcome.next (State.finish t)) (onRecord_of_takes hloaded hactive _),
      sameBut_trans (setRecordLink_sameBut l _ s) (setRecordLink_sameBut l _ t) (by simp) (by simp), ?_⟩
    rw [State.recordLink_setRecordLink_self, State.recordLink_setRecordLink_self, discard_hunting]
  case ignored =>
    obtain ⟨act, hexec⟩ := exec_eq_onRecord hi s
    rw [onRecord_of_waits hloaded hwaits hgap] at hexec
    exact ⟨_, hexec, setRecordLink_sameBut l _ s, State.recordLink_setRecordLink_self ..⟩
  case quiet =>
    exact ⟨_, congrArg (fun t => Host.Outcome.next (State.finish t)) (linkQuiet_of_waits hwaits hgap), setRecordLink_sameBut l _ _,
      State.recordLink_setRecordLink_self ..⟩
  case dropped =>
    exact ⟨_, congrArg (fun t => Host.Outcome.next (State.finish t)) (linkQuiet_of_inMessage hmessage), setRecordLink_sameBut l _ _,
      State.recordLink_setRecordLink_self ..⟩

end Sys2Proof.Machine
end

section
/-! PROOFS. The analyser's sample and result timers (O50): the end of a sample phase (R65, R74), the put-back of a classify request and the
two ways a timeout leaves the scheduler (R68, R69), and its entry to IDLE (R64, R66, R72). -/

namespace Sys2Proof.Machine

/-! ### The end of a sample phase (R65, R74) -/

theorem sampleOver_of_classifying {p : PortId} {w : Bool} {a : Analyser} (hstate : a.state = .classifying p .sample w) :
    a.sampleOver =
      { a with
        state := .classifying p .result w, sampleV := a.sampleV.set p false, sniffV := a.sniffV.set p false
        sampleT := .stopped, resultT := .running 1000 } := by
  unfold Analyser.sampleOver
  rw [hstate]
  rfl

theorem sampleOver_of_sniffing {p : PortId} {noted : Option Nat} {a : Analyser} (hstate : a.state = .sniffing p .sample noted) :
    a.sampleOver =
      { a with
        state := .sniffing p .result noted, sampleV := a.sampleV.set p false, sniffV := a.sniffV.set p false
        sampleT := .stopped, resultT := .running 1000 } := by
  unfold Analyser.sampleOver
  rw [hstate]
  rfl

theorem setAna_sameBut (a : Analyser) (s : State) : s.SameBut [.ana] (s.setAna a) := by
  rw [sameBut_iff]
  simp

theorem exec_sampleTimerExpiry_of_classifying {p : PortId} {w : Bool} {n : Nat} {s : State}
    (hstate : s.ana.state = .classifying p .sample w) (ht : s.ana.sampleT = .running n) :
    exec .sampleTimerExpiry s = .next ((s.elapse n).setAna (s.elapse n).ana.sampleOver).finish := by
  show Host.Outcome.next (State.finish (match s.ana.state with
    | .classifying _ .sample _ => s.onExpiry s.ana.sampleT fun t => t.setAna t.ana.sampleOver
    | _ => s)) = _
  rw [hstate, ht]
  exact congrArg (fun t => Host.Outcome.next (State.finish t)) (State.onExpiry_running ..)

theorem exec_sniffTimerExpiry_of_sniffing {p : PortId} {noted : Option Nat} {n : Nat} {s : State}
    (hstate : s.ana.state = .sniffing p .sample noted) (ht : s.ana.sampleT = .running n) :
    exec .sniffTimerExpiry s = .next ((s.elapse n).setAna (s.elapse n).ana.sampleOver).finish := by
  show Host.Outcome.next (State.finish (match s.ana.state with
    | .sniffing _ .sample _ => s.onExpiry s.ana.sampleT fun t => t.setAna t.ana.sampleOver
    | _ => s)) = _
  rw [hstate, ht]
  exact congrArg (fun t => Host.Outcome.next (State.finish t)) (State.onExpiry_running ..)

theorem exec_resultTimeout_of_awaits {n : Nat} {s : State} (hawaits : s.ana.state.awaitsResult = true)
    (ht : s.ana.resultT = .running n) : exec .resultTimeout s = .next (s.elapse n).timedOut.finish := by
  show Host.Outcome.next (State.finish (if s.ana.state.awaitsResult then s.onExpiry s.ana.resultT State.timedOut else s)) = _
  rw [if_pos hawaits, ht, State.onExpiry_running]

/-! ### The entry to IDLE (R64, R66, R72) -/

theorem serve_sameBut (s : State) : s.SameBut [.ana] s.serve := by
  rw [sameBut_iff]
  simp

theorem startSniff_sameBut (s : State) : s.SameBut [.ana] s.startSniff := by
  unfold State.startSniff
  split
  · exact setAna_sameBut _ s
  · exact sameBut_trans (setAna_sameBut _ s) (serve_sameBut _) (by simp) (by simp)

theorem analyserIdle_sameBut (s : State) : s.SameBut [.ana] s.analyserIdle := by
  unfold State.analyserIdle
  exact sameBut_ite (sameBut_trans (setAna_sameBut _ s) (startSniff_sameBut _) (by simp) (by simp))
    (sameBut_trans (setAna_sameBut _ s) (serve_sameBut _) (by simp) (by simp))

/-- What the start of a due sniff and the serving check leave: the count, and the flag and the timer of a recent leak. -/
theorem serve_keeps (s : State) :
    s.serve.ana.count = s.ana.count ∧ s.serve.ana.leakRecent = s.ana.leakRecent ∧ s.serve.ana.leakT = s.ana.leakT := by
  by_cases hmay : s.mayServe = true
  · cases hqueue : s.ana.queue with
    | nil => simp [serve_eq_self_of_queue_nil hqueue]
    | cons x rest => simp [serve_eq_of_queue_cons hmay hqueue, Analyser.openPath]
  · simp [serve_eq_self_of_not_mayServe (Bool.eq_false_of_not_eq_true hmay)]

theorem startSniff_keeps (s : State) :
    s.startSniff.ana.count = s.ana.count ∧ s.startSniff.ana.leakRecent = s.ana.leakRecent ∧
      s.startSniff.ana.leakT = s.ana.leakT := by
  unfold State.startSniff
  split
  · simp [Analyser.openPath]
  · exact serve_keeps _

theorem analyserIdle_keeps (s : State) :
    s.analyserIdle.ana.count = s.ana.count ∧ s.analyserIdle.ana.leakRecent = s.ana.leakRecent ∧
      s.analyserIdle.ana.leakT = s.ana.leakT := by
  unfold State.analyserIdle
  dsimp only
  split
  · exact startSniff_keeps _
  · exact serve_keeps _

theorem startSniff_of_target {p : PortId} {s : State} (htarget : s.sniffTarget = some p) :
    s.startSniff = s.setAna
      { s.ana with
        state := .sniffing p .sample (s.port p).openCase, pointer := p, warning := false, pendingSniff := false
        dueAt := some (s.clock + sweepPeriod s.cfg.analyser), amodeSniff := true, sniffV := s.ana.sniffV.set p true
        sampleT := .running 1000 } := by
  unfold State.startSniff
  rw [htarget]
  rfl

theorem startSniff_of_none {s : State} (hnone : s.sniffTarget = none) (hqueue : s.ana.queue = []) :
    s.startSniff = s.setAna (s.ana.skipSniff (sweepPeriod s.cfg.analyser)) := by
  unfold State.startSniff
  rw [hnone]
  exact serve_eq_self_of_queue_nil (s := s.setAna (s.ana.skipSniff (sweepPeriod s.cfg.analyser))) hqueue

/-! ### A timeout (R68, R69) -/

theorem putBack_queue (a : Analyser) :
    (∀ p, a.state = .classifying p .result false → a.putBack.queue = ⟨p, true⟩ :: a.queue) ∧
      (a.state.awaitsResult = true → (∀ p, a.state ≠ .classifying p .result false) → a.putBack.queue = a.queue) := by
  refine ⟨fun p hstate => by unfold Analyser.putBack; rw [hstate], fun hawaits hother => ?_⟩
  unfold Analyser.putBack
  split
  next q ph hstate =>
    cases ph with
    | sample => simp [hstate, AnalyserState.awaitsResult] at hawaits
    | result => exact absurd hstate (hother q)
  next => rfl

theorem putBack_eq (a : Analyser) : a.putBack = { a with queue := a.putBack.queue } := by
  unfold Analyser.putBack
  split <;> rfl

/-- The scheduler with a timeout counted. -/
def Analyser.missed (a : Analyser) : Analyser := { a.putBack with resultT := .stopped, count := min 2 (a.count + 1) }

theorem missed_eq (a : Analyser) :
    a.missed = { a with queue := a.putBack.queue, resultT := .stopped, count := min 2 (a.count + 1) } := by
  unfold Analyser.missed
  rw [putBack_eq a]

theorem timedOut_of_first {s : State} (hcount : s.ana.count = 0) : s.timedOut = (s.setAna s.ana.missed).analyserIdle :=
  have hone : min 2 (s.ana.count + 1) < 2 := by omega
  if_pos hone

theorem timedOut_of_second {s : State} (hcount : 1 ≤ s.ana.count) : s.timedOut = (s.setAna s.ana.missed).analyserFaults := by
  have htwo : ¬min 2 (s.ana.count + 1) < 2 := by omega
  exact if_neg htwo

theorem analyserFaults_ana (s : State) :
    s.analyserFaults.ana.state = .fault ∧ s.analyserFaults.ana.count = s.ana.count ∧ s.analyserFaults.ana.pendingSniff = false ∧
      s.analyserFaults.ana.queue = s.ana.queue := by
  unfold State.analyserFaults
  dsimp only
  split
  · exact ⟨rfl, rfl, rfl, rfl⟩
  next hnone => exact ⟨rfl, rfl, by simpa using hnone, rfl⟩

theorem analyserFaults_flag (s : State) : s.analyserFaults.op.flag .analyserFault = true := by
  have hraised : ((s.setAna { s.ana with state := .fault }).raise .analyserFault).op.flag .analyserFault = true :=
    raise_flag_self .analyserFault _
  unfold State.analyserFaults
  dsimp only
  split <;> exact hraised

theorem analyserFaults_sameBut (s : State) : s.SameBut [.ana, .op] s.analyserFaults := by
  have hraised : s.SameBut [.ana, .op] ((s.setAna { s.ana with state := .fault }).raise .analyserFault) :=
    sameBut_trans (setAna_sameBut _ s) (raise_sameBut _ _) (by simp) (by simp)
  unfold State.analyserFaults
  exact sameBut_ite (sameBut_trans hraised (setAna_sameBut _ _) (by simp) (by simp)) hraised

/-- Settles O50: the two sample timers, and the timeouts by their count and the pending sniff. -/
theorem samplesEndAndTimeOut : Obligations.SamplesEndAndTimeOut := fun n s e he => by
  subst he
  refine ⟨fun p w hstate ht => ?sample, fun p noted hstate ht => ?sniff, fun hawaits ht hcount => ?second,
    fun hawaits ht hcount hpending => ?first, fun hawaits ht hcount hpending q htarget => ?pending⟩
  case sample =>
    refine ⟨_, exec_sampleTimerExpiry_of_classifying hstate ht, setAna_sameBut _ _, ?_⟩
    exact (sampleOver_of_classifying (a := (s.elapse n).ana) hstate).trans rfl
  case sniff =>
    refine ⟨_, exec_sniffTimerExpiry_of_sniffing hstate ht, setAna_sameBut _ _, ?_⟩
    exact (sampleOver_of_sniffing (a := (s.elapse n).ana) hstate).trans rfl
  all_goals
    obtain ⟨hback, hstays⟩ := putBack_queue (s.elapse n).ana
    have hmissed := missed_eq (s.elapse n).ana
    have hcount' : (s.elapse n).ana.count = s.ana.count := rfl
  case second =>
    obtain ⟨hfault, hmany, hnone, hqueue⟩ := analyserFaults_ana ((s.elapse n).setAna (s.elapse n).ana.missed)
    have hputBack : ((s.elapse n).setAna (s.elapse n).ana.missed).ana.queue = (s.elapse n).ana.putBack.queue :=
      (congrArg Analyser.queue hmissed).trans rfl
    refine ⟨_, exec_resultTimeout_of_awaits hawaits ht, ?_⟩
    rw [timedOut_of_second (s := s.elapse n) hcount]
    refine ⟨sameBut_trans (setAna_sameBut _ _) (analyserFaults_sameBut _) (by simp) (by simp), hfault, ?_, analyserFaults_flag _, hnone,
      fun p hstate => (hqueue.trans hputBack).trans (hback p hstate),
      fun hother => (hqueue.trans hputBack).trans (hstays hawaits hother)⟩
    refine hmany.trans ((congrArg Analyser.count hmissed).trans ?_)
    show min 2 ((s.elapse n).ana.count + 1) = 2
    omega
  all_goals
    let t := (s.elapse n).setAna (s.elapse n).ana.missed
    have hone : t.ana.count = 1 := (congrArg Analyser.count hmissed).trans (by show min 2 _ = 1; rw [hcount', hcount]; rfl)
    have hqueue : t.ana.queue = (s.elapse n).ana.putBack.queue := (congrArg Analyser.queue hmissed).trans rfl
    have hsame : (s.elapse n).SameBut [.ana] t.analyserIdle :=
      sameBut_trans (setAna_sameBut _ _) (analyserIdle_sameBut _) (by simp) (by simp)
    have hexec : exec .resultTimeout s = .next t.analyserIdle.finish := by
      rw [exec_resultTimeout_of_awaits hawaits ht, timedOut_of_first (s := s.elapse n) hcount]
    have hwas : t.ana.pendingSniff = s.ana.pendingSniff := (congrArg Analyser.pendingSniff hmissed).trans rfl
  case first =>
    have hserves : t.analyserIdle = (t.setAna { t.ana with state := .idle }).serve := analyserIdle_eq_serve (hwas.trans hpending)
    have hwarning : t.ana.warning = s.ana.warning := (congrArg Analyser.warning hmissed).trans rfl
    have hpaused : t.lc.paused = s.lc.paused := rfl
    refine ⟨t.analyserIdle, hexec, hsame, (analyserIdle_keeps t).1.trans hone, fun p hstate => ⟨fun hwaits => ?_, fun hclear hrun => ?_⟩,
      fun hother hempty => ?_⟩
    · rw [hserves, serve_eq_self_of_idle (s := t.setAna { t.ana with state := .idle }) rfl (.inr (by rwa [← hwarning, ← hpaused] at hwaits))]
      exact ⟨rfl, hqueue.trans (hback p hstate)⟩
    · rw [hserves]
      exact serve_runs_head (s := t.setAna { t.ana with state := .idle }) (x := ⟨p, true⟩) rfl (hqueue.trans (hback p hstate))
        (hwarning.trans hclear) (hpaused.trans hrun)
    · have hnone : t.ana.queue = [] := (hqueue.trans (hstays hawaits hother)).trans hempty
      rw [hserves, serve_eq_self_of_idle (s := t.setAna { t.ana with state := .idle }) rfl (.inl hnone)]
      exact ⟨rfl, hnone⟩
  case pending =>
    have htarget' : (t.setAna { t.ana with state := .idle }).sniffTarget = some q := by
      rw [← htarget, ← State.elapse_sniffTarget n s]
      simp only [State.sniffTarget, t]
      rw [hmissed]
      rfl
    have hstarts : t.analyserIdle = (t.setAna { t.ana with state := .idle }).startSniff :=
      if_pos (hwas.trans hpending)
    refine ⟨t.analyserIdle, hexec, hsame, (analyserIdle_keeps t).1.trans hone, ?_⟩
    rw [hstarts, startSniff_of_target htarget']
    refine ⟨?_, rfl, rfl, quad_get_set_self _ q true, rfl⟩
    have hport : (t.setAna { t.ana with state := .idle }).port q = (s.port q).elapse n := by simp [t]
    show AnalyserState.sniffing q .sample ((t.setAna { t.ana with state := .idle }).port q).openCase = _
    rw [hport]
    rfl

end Sys2Proof.Machine
end

section
/-! PROOFS. A RESULT of a classify sample (O49): who takes it (R61, R66), and what its port makes of the class (R10, R11). -/

namespace Sys2Proof.Machine

/-! ### A RESULT and who takes it (R61) -/

section

variable {halo hydro : Word16} {p : PortId} {s : State}

theorem exec_result_of_takes (hloaded : s.loaded = true) (hactive : s.anaLink.framer.active = true) (halo hydro : Word16) :
    exec (.result halo hydro) s = .next ((s.setRecordLink .analyser ⟨.hunting, .stopped⟩).takeResult halo hydro).finish :=
  congrArg (fun t => Host.Outcome.next (State.finish t)) (onRecord_of_takes (l := .analyser) hloaded hactive _)

theorem takeResult_of_other (hclassify : ∀ p w, s.ana.state ≠ .classifying p .result w)
    (hsniff : ∀ p n, s.ana.state ≠ .sniffing p .result n) : s.takeResult halo hydro = s := by
  unfold State.takeResult
  dsimp only
  split
  next h => exact absurd h (hclassify _ _)
  next h => exact absurd h (hsniff _ _)
  next => rfl

/-- The station with its sample over and the count at 0. -/
abbrev State.sampleEnded (s : State) : State := s.setAna s.ana.endSample

theorem takeResult_of_withdrawn (hstate : s.ana.state = .classifying p .result true) :
    s.takeResult halo hydro = s.sampleEnded.analyserIdle := by
  unfold State.takeResult
  rw [hstate]
  rfl

theorem takeResult_of_classifying (hstate : s.ana.state = .classifying p .result false) :
    s.takeResult halo hydro =
      (s.sampleEnded.portClassify p (measurementOf s.cfg.analyser halo hydro)).analyserIdle := by
  unfold State.takeResult
  rw [hstate]
  rfl

theorem takeResult_of_sniffing {noted : Option Nat} (hstate : s.ana.state = .sniffing p .result noted) :
    s.takeResult halo hydro = (s.sampleEnded.takeSniff p noted halo.toNat hydro.toNat).analyserIdle := by
  unfold State.takeResult
  rw [hstate]

end

/-! ### The port's measured class (R10, R11) -/

/-- The port with its measurement, its wait for the analyser over. -/
def Port.classified (m : Measurement) (x : Port) : Port := { x.mapSlot (CaseRecord.measure m) with classifyWait := .stopped }

/-- The port with its class known, at step 1. -/
def Port.routedAt (g : KindSet) (m : Measurement) (x : Port) : Port := (x.classified m).startStep g 1

section

variable {p : PortId} {m : Measurement} {r : CaseRecord} {c : GasClass} {s : State}

theorem measure_of_gas (hgas : m.cls.gas = some c) (r : CaseRecord) :
    r.measure m =
      { r with
        measured := some m
        mismatch :=
          match r.declaredClass with
          | none => r.mismatch
          | some d => decide (d ≠ c) } := by
  unfold CaseRecord.measure
  rw [hgas]
  cases r.declaredClass <;> rfl

theorem measure_of_none (hnone : m.cls.gas = none) (r : CaseRecord) : r.measure m = { r with measured := some m } := by
  unfold CaseRecord.measure
  rw [hnone]

theorem classified_slot (hslot : (s.port p).slot = some r) : ((s.port p).classified m).slot = some (r.measure m) := by
  simp [Port.classified, Port.mapSlot, hslot]

theorem routedAt_gas (hgas : m.cls.gas = some c) (hslot : (s.port p).slot = some r) (g : KindSet) :
    ((s.port p).routedAt g m).gas = some c := by
  simp [Port.gas, Port.routedAt, Port.startStep, classified_slot hslot, CaseRecord.measure, hgas]

theorem portClassify_of_gas (hstate : (s.port p).state = .classify) (hslot : (s.port p).slot = some r) (hgas : m.cls.gas = some c) :
    s.portClassify p m = ((s.modPort p (Port.classified m)).modPort p fun x => x.startStep (s.portSet (s.port p)) 1).route p := by
  have hset : (s.modPort p (Port.classified m)).portSet ((s.modPort p (Port.classified m)).port p) = s.portSet (s.port p) := by
    rw [modPort_port_self, portSet_of_slot (classified_slot hslot), portSet_of_slot hslot]
    rfl
  have hunfold : s.portClassify p m =
      ((s.modPort p (Port.classified m)).modPort p fun x => x.startStep ((s.modPort p (Port.classified m)).portSet x) 1).route p := by
    rw [State.portClassify, if_pos hstate]
    cases hcls : m.cls <;> simp [hcls, MeasuredClass.gas] at hgas <;> rfl
  rw [hunfold, State.modPort, hset]
  rfl

theorem portClassify_of_mixed (hstate : (s.port p).state = .classify) (hmixed : m.cls = .mixed) :
    s.portClassify p m = (s.modPort p (Port.classified m)).quarantine p .mixed := by
  rw [State.portClassify, if_pos hstate, hmixed]
  rfl

theorem portClassify_of_none (hstate : (s.port p).state = .classify) (hnone : m.cls = .none) :
    s.portClassify p m = (s.modPort p (Port.classified m)).closeCase p .empty := by
  rw [State.portClassify, if_pos hstate, hnone]
  rfl

/-- A class with a receiver sends the port on by R10's three tests. -/
theorem portClassify_port_of_gas (hstate : (s.port p).state = .classify) (hslot : (s.port p).slot = some r)
    (hgas : m.cls.gas = some c) :
    (s.portClassify p m).port p =
      (let x := (s.port p).routedAt (s.portSet (s.port p)) m
      if c = .hydro ∧ s.inhibited = true then x.toWait .inhibit
      else if s.accepting c = false then x.toWait .receiver
      else x.toExtract s.lc.paused c) := by
  let g := s.portSet (s.port p)
  have hport : (((s.modPort p (Port.classified m)).modPort p fun x => x.startStep g 1).port p) = (s.port p).routedAt g m := by
    rw [modPort_port_self, modPort_port_self]
    rfl
  rw [portClassify_of_gas hstate hslot hgas, route_port (c := c) (by rw [hport]; exact routedAt_gas hgas hslot g), hport]
  simp [g]

/-- The three things a result makes of its port. -/
theorem portClassify_cases (hstate : (s.port p).state = .classify) (hslot : (s.port p).slot = some r) (m : Measurement) :
    (s.portClassify p m = ((s.modPort p (Port.classified m)).modPort p fun x => x.startStep (s.portSet (s.port p)) 1).route p) ∨
      s.portClassify p m = (s.modPort p (Port.classified m)).quarantine p .mixed ∨
      s.portClassify p m = (s.modPort p (Port.classified m)).closeCase p .empty := by
  cases hcls : m.cls with
  | halo => exact .inl (portClassify_of_gas (c := .halo) hstate hslot (by rw [hcls]; rfl))
  | hydro => exact .inl (portClassify_of_gas (c := .hydro) hstate hslot (by rw [hcls]; rfl))
  | mixed => exact .inr (.inl (portClassify_of_mixed hstate hcls))
  | none => exact .inr (.inr (portClassify_of_none hstate hcls))

theorem portClassify_sameBut (hstate : (s.port p).state = .classify) (hslot : (s.port p).slot = some r) (m : Measurement) :
    s.SameBut [.ports, .store, .ana, .op] (s.portClassify p m) := by
  have hmeasured := modPort_sameBut p (Port.classified m) s
  rcases portClassify_cases hstate hslot m with h | h | h <;> rw [h]
  · have hsteps := sameBut_trans hmeasured (modPort_sameBut p (fun x => x.startStep (s.portSet (s.port p)) 1) _) (n := [.ports])
      (by simp) (by simp)
    exact sameBut_trans hsteps (route_sameBut p _) (by simp) (by simp)
  · exact sameBut_trans hmeasured (quarantine_sameBut p _ _) (by simp) (by simp)
  · exact sameBut_trans hmeasured (closeCase_sameBut p _ _) (by simp) (by simp)

theorem portClassify_samePortsBut (hstate : (s.port p).state = .classify) (hslot : (s.port p).slot = some r) (m : Measurement) :
    s.SamePortsBut p (s.portClassify p m) := by
  have hmeasured := modPort_samePortsBut p (Port.classified m) s
  rcases portClassify_cases hstate hslot m with h | h | h <;> rw [h]
  · exact samePortsBut_trans (samePortsBut_trans hmeasured (modPort_samePortsBut p _ _)) (route_samePortsBut p _)
  · exact samePortsBut_trans hmeasured (quarantine_samePortsBut p _ _)
  · exact samePortsBut_trans hmeasured (closeCase_samePortsBut p _ _)

theorem withdraw_count (p : PortId) (a : Analyser) : (a.withdraw p).count = a.count := by
  unfold Analyser.withdraw
  dsimp only
  (repeat' split) <;> rfl

theorem portClassify_count (hstate : (s.port p).state = .classify) (hslot : (s.port p).slot = some r) (m : Measurement) :
    (s.portClassify p m).ana.count = s.ana.count := by
  rcases portClassify_cases hstate hslot m with h | h | h <;> rw [h]
  · simp
  · rcases quarantine_ana p .mixed (s.modPort p (Port.classified m)) with h | h <;> rw [h]
    · simp
    · rw [withdraw_count]
      simp
  · rcases closeCase_ana p .empty (s.modPort p (Port.classified m)) with h | h <;> rw [h]
    · simp
    · rw [withdraw_count]
      simp

/-- What R10's tests leave of a port at its first step. -/
theorem routedAt_kept (hgas : m.cls.gas = some c) (hslot : (s.port p).slot = some r) {g : KindSet} {y : Port}
    (hy : (∃ w, y = ((s.port p).routedAt g m).toWait w) ∨ ∃ b d, y = ((s.port p).routedAt g m).toExtract b d) :
    y.slot = some
        { r with
          measured := some m
          mismatch :=
            match r.declaredClass with
            | none => r.mismatch
            | some d => decide (d ≠ c) } ∧
      y.k = some 1 ∧ y.classifyWait = .stopped := by
  have hrecord : ((s.port p).routedAt g m).slot = some (r.measure m) := classified_slot hslot
  rw [measure_of_gas hgas] at hrecord
  rcases hy with ⟨w, rfl⟩ | ⟨b, d, rfl⟩
  · exact ⟨hrecord, rfl, rfl⟩
  · cases b <;> cases d <;> exact ⟨hrecord, rfl, rfl⟩

end

/-! ### The command -/

/-- The station with the record taken and the sample over. -/
abbrev State.resultTaken (s : State) : State := (s.setRecordLink .analyser ⟨.hunting, .stopped⟩).sampleEnded

theorem resultTaken_sameBut (s : State) : s.SameBut [.ana, .link .analyser] s.resultTaken :=
  sameBut_trans (setRecordLink_sameBut .analyser _ s) (setAna_sameBut _ _) (by simp) (by simp)

/-- Settles O49: a discarded RESULT, a withdrawn sample's, and one that reaches its port. -/
theorem classifyResultReachesItsPort : Obligations.ClassifyResultReachesItsPort := fun halo hydro s hloaded hactive => by
  have hexec := exec_result_of_takes hloaded hactive halo hydro
  have htaken := resultTaken_sameBut s
  refine ⟨fun hclassify hsniff => ?discarded, fun p hstate => ?withdrawn, fun p r m hstate hport hslot hm => ?reaches⟩
  case discarded =>
    rw [takeResult_of_other (s := s.setRecordLink .analyser ⟨.hunting, .stopped⟩) hclassify hsniff] at hexec
    exact ⟨_, hexec, setRecordLink_sameBut .analyser _ s⟩
  case withdrawn =>
    rw [takeResult_of_withdrawn (s := s.setRecordLink .analyser ⟨.hunting, .stopped⟩) hstate] at hexec
    exact ⟨_, hexec, sameBut_trans htaken (analyserIdle_sameBut _) (by simp) (by simp), (analyserIdle_keeps _).1⟩
  case reaches =>
    rw [takeResult_of_classifying (s := s.setRecordLink .analyser ⟨.hunting, .stopped⟩) hstate] at hexec
    let t := s.resultTaken
    have hmeasured : measurementOf s.cfg.analyser halo hydro = m := hm.symm
    let v := t.portClassify p m
    have hexec' : exec (.result halo hydro) s = .next v.analyserIdle.finish :=
      hexec.trans (congrArg (fun m => Host.Outcome.next (t.portClassify p m).analyserIdle.finish) hmeasured)
    have hsame : t.SameBut [.ports, .store, .ana, .op] v := portClassify_sameBut (s := t) hport hslot m
    have hidle : v.SameBut [.ana] v.analyserIdle := analyserIdle_sameBut v
    have hports : v.analyserIdle.ports = v.ports := hidle .ports (by simp)
    have hp : v.analyserIdle.port p = v.port p := by simp only [State.port, hports]
    have hstore : v.analyserIdle.store = v.store := hidle .store (by simp)
    have hop : v.analyserIdle.op = v.op := hidle .op (by simp)
    refine ⟨v.analyserIdle, hexec', ?same, ?others, ?count, fun c hgas => ?gas, fun hmixed => ?mixed, fun hnone => ?none⟩
    case same =>
      have hreached := sameBut_trans htaken hsame (n := [.ports, .store, .ana, .op, .link .analyser]) (by simp) (by simp)
      exact sameBut_trans hreached hidle (by simp) (by simp)
    case others =>
      have hothers : t.SamePortsBut p v := portClassify_samePortsBut (s := t) hport hslot m
      exact fun q hq => (by simp only [State.port, hports] : v.analyserIdle.port q = v.port q).trans (hothers q hq)
    case count => exact (analyserIdle_keeps v).1.trans (portClassify_count (s := t) hport hslot m)
    case gas =>
      have hv := portClassify_port_of_gas (s := t) hport hslot hgas
      have hkept : (v.port p).slot = some
          { r with
            measured := some m
            mismatch :=
              match r.declaredClass with
              | none => r.mismatch
              | some d => decide (d ≠ c) } ∧ (v.port p).k = some 1 ∧ (v.port p).classifyWait = .stopped := by
        refine routedAt_kept (s := s) hgas hslot (g := s.portSet (s.port p)) ?_
        rw [hv]
        dsimp only
        split
        · exact .inl ⟨_, rfl⟩
        · split
          · exact .inl ⟨_, rfl⟩
          · exact .inr ⟨_, _, rfl⟩
      obtain ⟨hrecord, hstep, hwait⟩ := hkept
      have hstored : v.store = s.store := by
        show (t.portClassify p m).store = s.store
        rw [portClassify_of_gas (s := t) hport hslot hgas]
        simp [t, State.setRecordLink]
      rw [hp]
      refine ⟨hrecord, hstep, hwait, hstore.trans hstored, ?_⟩
      rw [hv]
      dsimp only
      have hinhibited : t.inhibited = s.inhibited := rfl
      have haccepting : t.accepting c = s.accepting c := by cases c <;> rfl
      have hpaused : t.lc.paused = s.lc.paused := rfl
      rw [hinhibited, haccepting, hpaused]
      split
      · exact ⟨rfl, rfl, rfl, rfl⟩
      · split
        · exact ⟨rfl, rfl, rfl, rfl⟩
        · cases s.lc.paused
          · cases c <;> exact ⟨rfl, rfl, rfl, rfl⟩
          · exact ⟨rfl, rfl, rfl, rfl⟩
    case mixed =>
      have hv : v = (t.modPort p (Port.classified m)).quarantine p .mixed := portClassify_of_mixed (s := t) hport hmixed
      have hrecord : ((t.modPort p (Port.classified m)).port p).slot = some { r with measured := some m } := by
        rw [modPort_port_self, ← measure_of_none (by rw [hmixed]; rfl)]
        exact classified_slot (s := t) hslot
      rw [hp, hop, hv, quarantine_port_self hrecord]
      exact ⟨rfl, rfl, rfl, quarantine_flag_self ..⟩
    case none =>
      have hv : v = (t.modPort p (Port.classified m)).closeCase p .empty := portClassify_of_none (s := t) hport hnone
      have hrecord : ((t.modPort p (Port.classified m)).port p).slot = some { r with measured := some m } := by
        rw [modPort_port_self, ← measure_of_none (by rw [hnone]; rfl)]
        exact classified_slot (s := t) hslot
      have hclosed : s.CaseClosed p { r with measured := some m } .empty v :=
        hv ▸ caseClosed_of_same (t := t.modPort p (Port.classified m)) rfl rfl rfl (closeCase_caseClosed hrecord .empty)
      unfold State.CaseClosed at hclosed ⊢
      rwa [hp, hstore, hop]

end Sys2Proof.Machine
end

section
/-! PROOFS. The sweep (O51): the warning and the due time (R71 to R73), a sniff's result at its port and at the flags (R24, R75 to R77), and
the hydrocarbon alarm (R157). -/

namespace Sys2Proof.Machine

/-! ### The warning and the due time (R71, R72) -/

section

variable {d : Nat} {s : State}

theorem sniffWarns_of_due (hdue : s.ana.dueAt = some d) (hclear : s.ana.warning = false) :
    s.sniffWarns =
      (s.elapse (d - sweepLead s.cfg.analyser - s.clock)).setAna
        { (s.elapse (d - sweepLead s.cfg.analyser - s.clock)).ana with warning := true } := by
  unfold State.sniffWarns
  rw [hdue]
  exact if_neg (by simp [hclear])

theorem sniffDue_of_due (hdue : s.ana.dueAt = some d) (hnone : s.ana.pendingSniff = false) :
    s.sniffDue = (s.elapse (d - s.clock)).sniffIsDue := by
  unfold State.sniffDue
  rw [hdue]
  exact if_neg (by simp [hnone])

theorem sniffIsDue_of_idle (hidle : s.ana.state = .idle) :
    s.sniffIsDue = (s.setAna { s.ana with warning := true }).startSniff := by
  unfold State.sniffIsDue
  rw [hidle]

theorem sniffIsDue_of_unready (hunready : s.ana.state = .notReady ∨ s.ana.state = .fault) :
    s.sniffIsDue = s.setAna (({ s.ana with warning := true } : Analyser).skipSniff (sweepPeriod s.cfg.analyser)) := by
  unfold State.sniffIsDue
  rcases hunready with h | h <;> rw [h]

theorem sniffIsDue_of_busy (hidle : s.ana.state ≠ .idle) (hready : s.ana.state ≠ .notReady) (hfault : s.ana.state ≠ .fault) :
    s.sniffIsDue = s.setAna { s.ana with warning := true, pendingSniff := true } := by
  cases hstate : s.ana.state with
  | idle => exact absurd hstate hidle
  | notReady => exact absurd hstate hready
  | fault => exact absurd hstate hfault
  | classifying p ph w => simp only [State.sniffIsDue, hstate]
  | sniffing p ph n => simp only [State.sniffIsDue, hstate]

theorem withoutPending_eq {a : Analyser} (hnone : a.pendingSniff = false) : { a with pendingSniff := false } = a := by
  rw [← hnone]

/-- A skipped sniff, where none was pending. -/
theorem skipSniff_of_due {a : Analyser} (hdue : a.dueAt = some d) (hnone : a.pendingSniff = false) (period : Nat) :
    ({ a with warning := true } : Analyser).skipSniff period = { a with warning := false, dueAt := some (d + period) } := by
  unfold Analyser.skipSniff
  dsimp only
  rw [hdue, ← hnone]
  rfl

end

/-! ### A sniff's outcome at its port (R21, R24) -/

/-- A case with one trace hit more. -/
def CaseRecord.sniffed (r : CaseRecord) : CaseRecord := { r with traceHits := min 255 (r.traceHits + 1) }

section

variable {p : PortId} {r : CaseRecord} {s : State}

theorem portSniff_clean (p : PortId) (s : State) : s.portSniff p .clean = s := rfl

theorem portSniff_counts {o : SniffOutcome} (ho : o = .trace ∨ o = .leak ∧ (s.port p).state.quarantined = true) :
    s.portSniff p o = s.modPort p (Port.mapSlot CaseRecord.sniffed) := by
  rcases ho with rfl | ⟨rfl, hquarantined⟩
  · rfl
  · exact if_pos hquarantined

theorem portSniff_leak (hopen : (s.port p).state.quarantined = false) :
    s.portSniff p .leak = (s.modPort p (Port.mapSlot CaseRecord.sniffed)).quarantine p .leak := if_neg (by simp [hopen])

theorem portSniff_sameBut (p : PortId) (o : SniffOutcome) (s : State) : s.SameBut [.ports, .ana, .op] (s.portSniff p o) := by
  have hcounted := modPort_sameBut p (Port.mapSlot CaseRecord.sniffed) s
  cases o with
  | clean => exact sameBut_refl _ s
  | trace => rw [portSniff_counts (.inl rfl)]; exact sameBut_mono hcounted (by simp)
  | leak =>
    cases hstate : (s.port p).state.quarantined with
    | true => rw [portSniff_counts (.inr ⟨rfl, hstate⟩)]; exact sameBut_mono hcounted (by simp)
    | false => rw [portSniff_leak hstate]; exact sameBut_trans hcounted (quarantine_sameBut p _ _) (by simp) (by simp)

theorem withdraw_leak (p : PortId) (a : Analyser) : (a.withdraw p).leakRecent = a.leakRecent ∧ (a.withdraw p).leakT = a.leakT := by
  unfold Analyser.withdraw
  dsimp only
  (repeat' split) <;> exact ⟨rfl, rfl⟩

/-- The port's reaction leaves the scheduler's count and its leak flag alone. -/
theorem portSniff_keeps (p : PortId) (o : SniffOutcome) (s : State) :
    (s.portSniff p o).ana.count = s.ana.count ∧ (s.portSniff p o).ana.leakRecent = s.ana.leakRecent ∧
      (s.portSniff p o).ana.leakT = s.ana.leakT := by
  have hcounted : (s.modPort p (Port.mapSlot CaseRecord.sniffed)).ana = s.ana := rfl
  cases o with
  | clean => exact ⟨rfl, rfl, rfl⟩
  | trace => exact ⟨rfl, rfl, rfl⟩
  | leak =>
    cases hstate : (s.port p).state.quarantined with
    | true => rw [portSniff_counts (.inr ⟨rfl, hstate⟩), hcounted]; exact ⟨rfl, rfl, rfl⟩
    | false =>
      rw [portSniff_leak hstate]
      rcases quarantine_ana p .leak (s.modPort p (Port.mapSlot CaseRecord.sniffed)) with h | h <;> rw [h, hcounted]
      · exact ⟨rfl, rfl, rfl⟩
      · exact ⟨withdraw_count p _, withdraw_leak p _⟩

theorem portSniff_port_of_counts (hslot : (s.port p).slot = some r) {o : SniffOutcome}
    (ho : o = .trace ∨ o = .leak ∧ (s.port p).state.quarantined = true) :
    (s.portSniff p o).port p = { s.port p with slot := some r.sniffed } := by
  rw [portSniff_counts ho, modPort_port_self]
  simp [Port.mapSlot, hslot]

theorem portSniff_port_of_leak (hslot : (s.port p).slot = some r) (hopen : (s.port p).state.quarantined = false) :
    (s.portSniff p .leak).port p = Port.quarantined r.sniffed .leak { s.port p with slot := some r.sniffed } := by
  have hcounted : (s.modPort p (Port.mapSlot CaseRecord.sniffed)).port p = { s.port p with slot := some r.sniffed } := by
    rw [modPort_port_self]
    simp [Port.mapSlot, hslot]
  rw [portSniff_leak hopen, quarantine_port_self (r := r.sniffed) (by rw [hcounted]), hcounted]

end

/-! ### A port outside EXTRACT and WAIT takes no notice (R15, R28, R47) -/

/-- The receivers and the inhibit do not concern the port. -/
def PortState.aside : PortState → Bool
  | .extract => false
  | .wait _ => false
  | _ => true

section

variable {p : PortId} {s u : State}

theorem portNotice_of_aside (haside : (s.port p).state.aside = true) (c : GasClass) (accepting : Bool) :
    s.portNotice c accepting p = s := by
  unfold State.portNotice
  split
  · split
    next h => simp [h, PortState.aside] at haside
    next h => simp [h, PortState.aside] at haside
    next => rfl
  · rfl

theorem tellPorts_port_of_aside (haside : (s.port p).state.aside = true) (c : GasClass) : (s.tellPorts c).port p = s.port p := by
  obtain ⟨t, -, hbefore, hafter⟩ := eachPort_port (keeps := fun _ => True) (f := State.portNotice c (s.accepting c))
    (fun _ _ _ => trivial) (portNotice_samePortsBut c _) (s := s) trivial p
  rw [State.tellPorts, hafter, portNotice_of_aside (by rwa [hbefore]), hbefore]

theorem Move.port_of_aside (haside : (s.port p).state.aside = true) (h : Move s u) : u.port p = s.port p := by
  cases h with
  | agent a => rfl
  | offers f entry => simp
  | raises e => rfl
  | receiverTold c r _ =>
    rw [tellPorts_port_of_aside (by simpa using haside)]
    simp

theorem Moves.port_of_aside (haside : (s.port p).state.aside = true) (h : Moves s u) : u.port p = s.port p :=
  moves_keep (P := fun u => u.port p = s.port p) (fun _ _ ht hmove => (hmove.port_of_aside (by rwa [ht])).trans ht) rfl h

theorem inhibitStart_of_aside {x : Port} (haside : x.state.aside = true) : x.inhibitStart = x := by
  unfold Port.inhibitStart
  split
  next h => simp [h, PortState.aside] at haside
  next => rfl

theorem takeInhibit_port_of_aside (haside : (s.port p).state.aside = true) (seconds : Nat) :
    (s.takeInhibit seconds).port p = s.port p := by
  cases hinhibit : s.inhibited with
  | true => simp [State.takeInhibit, hinhibit]
  | false =>
    obtain ⟨-, -, hports⟩ := inhibitBegins_frame (.running (max s.lc.inhibit.left (seconds * 1000))) s
    have hstart := (hports p).trans (inhibitStart_of_aside haside)
    have hmoves := moves_agentInhibit (s.inhibitBegins (.running (max s.lc.inhibit.left (seconds * 1000))))
    have hsame := Moves.port_of_aside (p := p) (by rwa [hstart]) hmoves
    rw [takeInhibit_of_free hinhibit, hsame, hstart]

theorem hydroLeak_port_of_aside (haside : (s.port p).state.aside = true) : s.hydroLeak.port p = s.port p := by
  have hoffered : ((s.takeInhibit s.cfg.header.alarmS).lcOffer (.alarm s.cfg.header.alarmS)).port p =
      (s.takeInhibit s.cfg.header.alarmS).port p := by simp
  exact hoffered.trans (takeInhibit_port_of_aside haside _)

end

/-! ### The hydrocarbon alarm (R157) -/

theorem hydroLeak_sameBut (s : State) :
    s.SameBut [.ports, .receiver .halo, .receiver .hydro, .agent, .line, .conditions, .op] s.hydroLeak := by
  have hoffered := sameBut_trans (takeInhibit_sameBut s.cfg.header.alarmS s) (lcOffer_sameBut (.alarm s.cfg.header.alarmS) _)
    (n := [.ports, .receiver .halo, .receiver .hydro, .agent, .line, .conditions, .op]) (by simp) (by simp)
  exact sameBut_trans hoffered (raise_sameBut _ _) (by simp) (by simp)

theorem hydroLeak_inhibited (s : State) : s.hydroLeak.inhibited = true := by
  have hlc : s.hydroLeak.lc = { (s.takeInhibit s.cfg.header.alarmS).lc with owed := s.hydroLeak.lc.owed } :=
    lcOffer_lc (.alarm s.cfg.header.alarmS) _
  rw [State.inhibited, hlc, takeInhibit_lc]
  rfl

theorem hydroLeak_flag_self (s : State) : s.hydroLeak.op.flag .hydroAlarm = true := raise_flag_self .hydroAlarm _

theorem hydroLeak_willSend {s : State} (hloaded : s.loaded = true) (hclash : s.line.clash = false) :
    s.hydroLeak.willSend (.alarm s.cfg.header.alarmS) :=
  lcOffer_willSend (.alarm s.cfg.header.alarmS) (s.takeInhibit s.cfg.header.alarmS) (by simpa using hloaded) (by simpa using hclash)

/-! ### A sniff's result (R75, R76) -/

theorem sniffJudgement_of_leak {g : AnalyserSet} {halo hydro : Nat} (hleaks : g.haloLeak ≤ halo ∨ g.hydroLeak ≤ hydro) :
    sniffJudgement g halo hydro = .leak := if_pos hleaks

/-- The outcome as its port takes it, where the noted case is open there. -/
def State.sniffTold (p : PortId) (noted : Option Nat) (o : SniffOutcome) (s : State) : State :=
  if (noted.isSome && decide ((s.port p).openCase = noted)) = true then s.portSniff p o else s

/-- The outcome as the leak flag takes it. -/
def State.sniffNoted (p : PortId) (noted : Option Nat) (o : SniffOutcome) (s : State) : State :=
  if o = .leak then (s.sniffTold p noted o).leakFound else s.sniffTold p noted o

section

variable {p : PortId} {noted : Option Nat} {o : SniffOutcome} {s : State}

theorem takeSniff_eq (p : PortId) (noted : Option Nat) (halo hydro : Nat) (s : State) :
    s.takeSniff p noted halo hydro =
      (let t := s.sniffNoted p noted (sniffJudgement s.cfg.analyser halo hydro)
      if s.cfg.analyser.hydroLeak ≤ hydro then t.hydroLeak else t) := rfl

theorem sniffTold_of_open {k : Nat} (hnoted : noted = some k) (hopen : (s.port p).openCase = some k) (o : SniffOutcome) :
    s.sniffTold p noted o = s.portSniff p o := if_pos (by simp [hnoted, hopen])

theorem sniffTold_of_other (hother : noted = none ∨ (s.port p).openCase ≠ noted) (o : SniffOutcome) :
    s.sniffTold p noted o = s := if_neg (by rcases hother with h | h <;> simp [h])

theorem sniffTold_sameBut (p : PortId) (noted : Option Nat) (o : SniffOutcome) (s : State) :
    s.SameBut [.ports, .ana, .op] (s.sniffTold p noted o) := sameBut_ite (portSniff_sameBut p o s) (sameBut_refl _ s)

theorem sniffTold_keeps (p : PortId) (noted : Option Nat) (o : SniffOutcome) (s : State) :
    (s.sniffTold p noted o).ana.count = s.ana.count ∧ (s.sniffTold p noted o).ana.leakRecent = s.ana.leakRecent ∧
      (s.sniffTold p noted o).ana.leakT = s.ana.leakT := by
  unfold State.sniffTold
  split
  · exact portSniff_keeps p o s
  · exact ⟨rfl, rfl, rfl⟩

theorem leakFound_sameBut (s : State) : s.SameBut [.ana, .op] s.leakFound :=
  sameBut_trans (setAna_sameBut _ s) (raise_sameBut _ _) (by simp) (by simp)

theorem sniffNoted_sameBut (p : PortId) (noted : Option Nat) (o : SniffOutcome) (s : State) :
    s.SameBut [.ports, .ana, .op] (s.sniffNoted p noted o) :=
  sameBut_ite (sameBut_trans (sniffTold_sameBut p noted o s) (leakFound_sameBut _) (by simp) (by simp)) (sniffTold_sameBut p noted o s)

theorem sniffNoted_port (q : PortId) : (s.sniffNoted p noted o).port q = (s.sniffTold p noted o).port q := by
  unfold State.sniffNoted
  split <;> rfl

theorem sniffNoted_count : (s.sniffNoted p noted o).ana.count = s.ana.count := by
  unfold State.sniffNoted
  split <;> exact (sniffTold_keeps p noted o s).1

theorem sniffNoted_of_leak (hleak : o = .leak) :
    (s.sniffNoted p noted o).ana.leakRecent = true ∧
      (s.sniffNoted p noted o).ana.leakT = .running (sweepPeriod s.cfg.analyser) ∧
      (s.sniffNoted p noted o).op.flag .leak = true := by
  have hloader : (s.sniffTold p noted o).loader = s.loader := sniffTold_sameBut p noted o s .loader (by simp)
  have hcfg : (s.sniffTold p noted o).cfg = s.cfg := by simp only [State.cfg, hloader]
  rw [State.sniffNoted, if_pos hleak]
  refine ⟨rfl, ?_, raise_flag_self .leak _⟩
  rw [← hcfg]
  rfl

theorem sniffNoted_of_other (hother : o ≠ .leak) :
    (s.sniffNoted p noted o).ana.leakRecent = s.ana.leakRecent ∧ (s.sniffNoted p noted o).ana.leakT = s.ana.leakT := by
  rw [State.sniffNoted, if_neg hother]
  exact (sniffTold_keeps p noted o s).2

end

/-- The blocks that a sniff's result may change. -/
abbrev sniffBlocks : List Block := [.ports, .ana, .receiver .halo, .receiver .hydro, .agent, .line, .conditions, .op]

theorem takeSniff_sameBut (p : PortId) (noted : Option Nat) (halo hydro : Nat) (s : State) :
    s.SameBut sniffBlocks (s.takeSniff p noted halo hydro) := by
  have hnoted := sniffNoted_sameBut p noted (sniffJudgement s.cfg.analyser halo hydro) s
  rw [takeSniff_eq]
  exact sameBut_ite (sameBut_trans hnoted (hydroLeak_sameBut _) (by simp) (by simp)) (sameBut_mono hnoted (by simp))

theorem takeSniff_ana (p : PortId) (noted : Option Nat) (halo hydro : Nat) (s : State) :
    (s.takeSniff p noted halo hydro).ana = (s.sniffNoted p noted (sniffJudgement s.cfg.analyser halo hydro)).ana := by
  rw [takeSniff_eq]
  dsimp only
  split
  · exact hydroLeak_ana _
  · rfl

theorem exec_leakRecentExpiry_of_running {n : Nat} {s : State} (ht : s.ana.leakT = .running n) :
    exec .leakRecentExpiry s =
      .next ((s.elapse n).setAna { (s.elapse n).ana with leakRecent := false, leakT := .stopped }).finish := by
  show Host.Outcome.next (State.finish (s.onExpiry s.ana.leakT _)) = _
  rw [ht, State.onExpiry_running]

/-- What a hydrocarbon LEAK leaves to be seen, and the port of the sniff where it stands aside. -/
theorem takeSniff_of_hydro {p : PortId} {noted : Option Nat} {halo hydro : Nat} {s : State}
    (hleaks : s.cfg.analyser.hydroLeak ≤ hydro) :
    ∃ t, t = s.sniffNoted p noted .leak ∧ s.takeSniff p noted halo hydro = t.hydroLeak ∧ t.cfg = s.cfg := by
  have hleak : sniffJudgement s.cfg.analyser halo hydro = .leak := sniffJudgement_of_leak (.inr hleaks)
  have hloader : (s.sniffNoted p noted .leak).loader = s.loader := sniffNoted_sameBut p noted .leak s .loader (by simp)
  refine ⟨_, rfl, ?_, by simp only [State.cfg, hloader]⟩
  rw [takeSniff_eq, hleak]
  exact if_pos hleaks

theorem takeSniff_of_no_hydro {p : PortId} {noted : Option Nat} {halo hydro : Nat} {s : State}
    (hlow : hydro < s.cfg.analyser.hydroLeak) :
    s.takeSniff p noted halo hydro = s.sniffNoted p noted (sniffJudgement s.cfg.analyser halo hydro) := by
  rw [takeSniff_eq]
  exact if_neg (by omega)

/-- The port of a sniff whose noted case is open there, after everything that the result does. -/
theorem takeSniff_port {p : PortId} {noted : Option Nat} {halo hydro k : Nat} {s : State} (hnoted : noted = some k)
    (hopen : (s.port p).openCase = some k)
    (haside : s.cfg.analyser.hydroLeak ≤ hydro → ((s.portSniff p .leak).port p).state.aside = true) :
    (s.takeSniff p noted halo hydro).port p = (s.portSniff p (sniffJudgement s.cfg.analyser halo hydro)).port p := by
  have htold := fun o => (sniffNoted_port (p := p) (noted := noted) (o := o) (s := s) p).trans
    (congrArg (fun t => State.port t p) (sniffTold_of_open hnoted hopen o))
  by_cases hleaks : s.cfg.analyser.hydroLeak ≤ hydro
  · obtain ⟨t, ht, hsniff, -⟩ := takeSniff_of_hydro (p := p) (noted := noted) (halo := halo) hleaks
    have hport : t.port p = (s.portSniff p .leak).port p := by rw [ht, htold]
    rw [hsniff, hydroLeak_port_of_aside (by rw [hport]; exact haside hleaks), hport,
      sniffJudgement_of_leak (.inr hleaks)]
  · rw [takeSniff_of_no_hydro (by omega), htold]

/-- Settles O51: the warning, the due time by the scheduler's state, a sniff's result, and the end of the leak flag. -/
theorem sweepSniffsTheBusyPorts : Obligations.SweepSniffsTheBusyPorts := fun s => by
  refine ⟨fun d e hdue hclear he => ?warns, fun d e hdue hnone he => ?due,
    fun halo hydro p noted o hstate hloaded hactive ho => ?result, fun n ht => ?forgets⟩
  case warns =>
    subst he
    exact ⟨_, congrArg (fun t => Host.Outcome.next (State.finish t)) (sniffWarns_of_due hdue hclear), setAna_sameBut _ _, rfl⟩
  case due =>
    subst he
    let t := s.elapse (d - s.clock)
    have hport : ∀ p, (t.port p).openCase = (s.port p).openCase := fun p => by simp [t]
    have htarget : (t.setAna { t.ana with warning := true }).sniffTarget = s.sniffTarget :=
      State.elapse_sniffTarget (d - s.clock) s
    refine ⟨t.sniffIsDue, congrArg (fun t => Host.Outcome.next (State.finish t)) (sniffDue_of_due hdue hnone), sniffIsDue_sameBut t,
      fun p hidle hp => ?_, fun hidle hp hqueue => ?_, fun hunready => ?_, fun hidle hready hfault => ?_⟩
    · rw [sniffIsDue_of_idle (s := t) hidle, startSniff_of_target (htarget.trans hp)]
      have hopen : ((t.setAna { t.ana with warning := true }).port p).openCase = (s.port p).openCase := hport p
      rw [hopen]
      symm
      refine (withoutPending_eq ?_).symm.trans ?_
      · exact hnone
      · rfl
    · rw [sniffIsDue_of_idle (s := t) hidle, startSniff_of_none (htarget.trans hp) hqueue]
      exact skipSniff_of_due (a := t.ana) hdue hnone _
    · rw [sniffIsDue_of_unready (s := t) hunready]
      exact skipSniff_of_due (a := t.ana) hdue hnone _
    · rw [sniffIsDue_of_busy (s := t) hidle hready hfault]
      rfl
  case result =>
    let t := s.resultTaken
    let v := t.takeSniff p noted halo.toNat hydro.toNat
    have hexec : exec (.result halo hydro) s = .next v.analyserIdle.finish := by
      rw [exec_result_of_takes hloaded hactive, takeResult_of_sniffing (s := s.setRecordLink .analyser ⟨.hunting, .stopped⟩) hstate]
    have htaken := resultTaken_sameBut s
    have hidle : v.SameBut [.ana] v.analyserIdle := analyserIdle_sameBut v
    have hports : v.analyserIdle.ports = v.ports := hidle .ports (by simp)
    have hop : v.analyserIdle.op = v.op := hidle .op (by simp)
    have hlc : v.analyserIdle.lc = v.lc := hidle .conditions (by simp)
    have hline : v.analyserIdle.line = v.line := hidle .line (by simp)
    obtain ⟨hcount, hrecent, htimer⟩ := analyserIdle_keeps v
    have hana : v.ana = (t.sniffNoted p noted o).ana := ho ▸ takeSniff_ana p noted halo.toNat hydro.toNat t
    refine ⟨v.analyserIdle, hexec, ?count, ?same, fun hleak => ?leak, fun hother => ?other, fun hleaks => ?alarm, fun hlow => ?low,
      fun k r hnoted hopen hslot => ?port, fun hother hlow => ?untold⟩
    case count => exact hcount.trans ((congrArg Analyser.count hana).trans sniffNoted_count)
    case same =>
      have hsniffed := sameBut_trans htaken (takeSniff_sameBut p noted halo.toNat hydro.toNat t)
        (n := [.ports, .ana, .receiver .halo, .receiver .hydro, .agent, .line, .conditions, .op, .link .analyser]) (by simp) (by simp)
      exact sameBut_trans hsniffed hidle (by simp) (by simp)
    case leak =>
      obtain ⟨hset, hruns, hflag⟩ := sniffNoted_of_leak (p := p) (noted := noted) (s := t) hleak
      refine ⟨hrecent.trans ((congrArg Analyser.leakRecent hana).trans hset),
        htimer.trans ((congrArg Analyser.leakT hana).trans hruns), ?_⟩
      rw [hop]
      show (t.takeSniff p noted halo.toNat hydro.toNat).op.flag .leak = true
      rw [takeSniff_eq]
      have hnoted : (t.sniffNoted p noted (sniffJudgement t.cfg.analyser halo.toNat hydro.toNat)).op.flag .leak = true := ho ▸ hflag
      dsimp only
      split
      · exact hydroLeak_flag _ _ hnoted
      · exact hnoted
    case other =>
      obtain ⟨hset, hruns⟩ := sniffNoted_of_other (p := p) (noted := noted) (s := t) hother
      exact ⟨hrecent.trans ((congrArg Analyser.leakRecent hana).trans hset),
        htimer.trans ((congrArg Analyser.leakT hana).trans hruns)⟩
    case alarm =>
      obtain ⟨w, hw, hsniff, hcfg⟩ := takeSniff_of_hydro (p := p) (noted := noted) (halo := halo.toNat) (s := t) hleaks
      have hvw : v = w.hydroLeak := hsniff
      refine ⟨?_, ?_, fun hclash => ?_⟩
      · rw [State.inhibited, hlc, hvw]
        exact hydroLeak_inhibited w
      · rw [hop, hvw]
        exact hydroLeak_flag_self w
      · have hwline : w.line = t.line := hw ▸ sniffNoted_sameBut p noted .leak t .line (by simp)
        have hwloader : w.loader = t.loader := hw ▸ sniffNoted_sameBut p noted .leak t .loader (by simp)
        have hsends : w.hydroLeak.willSend (.alarm w.cfg.header.alarmS) :=
          hydroLeak_willSend (by rw [State.loaded, hwloader]; exact hloaded) (by rw [hwline]; exact hclash)
        rw [hcfg] at hsends
        unfold State.willSend at hsends ⊢
        rw [hline, hlc, hvw]
        exact hsends
    case low =>
      have hvn : v = t.sniffNoted p noted o := ho ▸ takeSniff_of_no_hydro (p := p) (noted := noted) (s := t) hlow
      have hsniffed := sameBut_trans htaken (hvn ▸ sniffNoted_sameBut p noted o t : t.SameBut [.ports, .ana, .op] v)
        (n := [.ports, .ana, .op, .link .analyser]) (by simp) (by simp)
      exact sameBut_trans hsniffed hidle (by simp) (by simp)
    case port =>
      have hp : v.analyserIdle.port p = v.port p := by simp only [State.port, hports]
      have hleaves : ((t.portSniff p .leak).port p).state.aside = true := by
        cases hquarantined : (t.port p).state.quarantined with
        | true =>
          obtain ⟨q, hq⟩ := (quarantined_iff _).mp hquarantined
          rw [portSniff_port_of_counts (s := t) hslot (.inr ⟨rfl, hquarantined⟩)]
          show (t.port p).state.aside = true
          rw [hq]
          rfl
        | false => rw [portSniff_port_of_leak (s := t) hslot hquarantined]; rfl
      have hv : v.port p = (t.portSniff p o).port p := ho ▸ takeSniff_port (s := t) hnoted hopen fun _ => hleaves
      rw [hp, hv]
      refine ⟨fun hclean => ?_, fun hcounts => ?_, fun hleak hquarantined => ?_⟩
      · rw [hclean]
        rfl
      · exact portSniff_port_of_counts (s := t) hslot hcounts
      · rw [hleak, portSniff_port_of_leak (s := t) hslot hquarantined]
        exact ⟨rfl, rfl, rfl, rfl⟩
    case untold =>
      have hvn : v = t.sniffNoted p noted o := ho ▸ takeSniff_of_no_hydro (p := p) (noted := noted) (s := t) hlow
      rw [hports, hvn]
      unfold State.sniffNoted
      rw [sniffTold_of_other (s := t) hother]
      split <;> rfl
  case forgets =>
    exact ⟨_, exec_leakRecentExpiry_of_running ht, setAna_sameBut _ _, rfl⟩

end Sys2Proof.Machine
end

section
/-! PROOFS. The start of a flow (R48, R129) as the statements about the agent's windows use it: how the receiver answers, the outputs, the
frames, and the ports; with what an offer can add to the queue. -/

namespace Sys2Proof.Machine

/-! ### What an offer can add to the queue (R104) -/

theorem mem_of_mem_replaceIn {q x : QueuedFrame} {l w : List QueuedFrame} (hw : replaceIn q l = some w) (hx : x ∈ w) :
    x ∈ l ∨ x = q := by
  induction l generalizing w with
  | nil => cases hw
  | cons y rest ih =>
    simp only [replaceIn] at hw
    split at hw
    next =>
      obtain rfl := Option.some.inj hw
      rcases List.mem_cons.mp hx with h | h
      · exact .inr h
      · exact .inl (List.mem_cons_of_mem y h)
    next =>
      obtain ⟨v, hv, rfl⟩ := Option.map_eq_some_iff.mp hw
      rcases List.mem_cons.mp hx with rfl | h
      · exact .inl List.mem_cons_self
      · exact (ih hv h).imp_left (List.mem_cons_of_mem y)

theorem mem_of_mem_dropBeacon {x : QueuedFrame} {l w : List QueuedFrame} (hw : dropBeacon l = some w) (hx : x ∈ w) : x ∈ l := by
  induction l generalizing w with
  | nil => cases hw
  | cons y rest ih =>
    simp only [dropBeacon] at hw
    split at hw
    next =>
      obtain rfl := Option.some.inj hw
      exact List.mem_cons_of_mem y hx
    next =>
      obtain ⟨v, hv, rfl⟩ := Option.map_eq_some_iff.mp hw
      rcases List.mem_cons.mp hx with rfl | h
      · exact List.mem_cons_self
      · exact List.mem_cons_of_mem y (ih hv h)

theorem mem_of_mem_offer {q x : QueuedFrame} {l : LineIf} (hx : x ∈ (l.offer q).1.queue) : x ∈ l.queue ∨ x = q := by
  have hparts := sendingPart_append_waitingPart l
  have hsending : ∀ {y}, y ∈ l.sendingPart → y ∈ l.queue := fun h => hparts ▸ List.mem_append_left _ h
  have hwaiting : ∀ {y}, y ∈ l.waitingPart → y ∈ l.queue := fun h => hparts ▸ List.mem_append_right _ h
  unfold LineIf.offer at hx
  split at hx
  · exact .inl hx
  · split at hx
    next w hw =>
      rcases List.mem_append.mp hx with h | h
      · exact .inl (hsending h)
      · exact (mem_of_mem_replaceIn hw h).imp_left hwaiting
    next =>
      split at hx
      · rw [wake_queue] at hx
        simpa using hx
      · split at hx
        next w hw =>
          rcases List.mem_append.mp hx with h | h
          · rcases List.mem_append.mp h with h | h
            · exact .inl (hsending h)
            · exact .inl (hwaiting (mem_of_mem_dropBeacon hw h))
          · exact .inr (by simpa using h)
        next => exact .inl hx

/-- Every FLOW_ON of the queue is one of a list. -/
def State.FlowOnsIn (l : List QueuedFrame) (s : State) : Prop := ∀ q ∈ s.line.queue, q.frame.isFlowOn = true → q ∈ l

section

variable {l : List QueuedFrame} {s : State}

theorem flowOnsIn_offerEntry {f : Frame} (hs : s.FlowOnsIn l) (hf : f.isFlowOn = false) (entry : Nat) :
    (s.offerEntry f entry).1.FlowOnsIn l := by
  intro q hq hflow
  rw [offerEntry_line] at hq
  split at hq
  · rcases mem_of_mem_offer hq with h | rfl
    · exact hs q h hflow
    · exact absurd hflow (by simp [hf])
  · exact hs q hq hflow

theorem flowOnsIn_noticeChange (hs : s.FlowOnsIn l) (before : DState) : (s.noticeChange before).FlowOnsIn l := by
  unfold State.noticeChange
  split
  · exact hs
  · exact flowOnsIn_offerEntry hs rfl 0

theorem flowOnsIn_toBackoff (hs : s.FlowOnsIn l) (long : Bool) : (s.toBackoff long).FlowOnsIn l := by
  unfold State.toBackoff
  exact flowOnsIn_noticeChange (by exact hs) _

theorem flowOnsIn_toListen (hs : s.FlowOnsIn l) (u : Purpose) (c : GasClass) : (s.toListen u c).FlowOnsIn l := by
  have htold : (s.listenTold u c).FlowOnsIn l :=
    flowOnsIn_noticeChange (flowOnsIn_offerEntry (s := s.setAgent (s.agent.listens u c (s.band c))) hs rfl _) _
  rcases toListen_cases u c s with h | h <;> rw [h]
  · exact htold
  · exact flowOnsIn_toBackoff htold false

theorem flowOnsIn_idleCheck (hs : s.FlowOnsIn l) : s.idleCheck.FlowOnsIn l := by
  unfold State.idleCheck
  split
  · split
    · exact flowOnsIn_toListen hs _ _
    · exact hs
  · exact hs

theorem flowOnsIn_toIdle (hs : s.FlowOnsIn l) : s.toIdle.FlowOnsIn l :=
  flowOnsIn_idleCheck (flowOnsIn_noticeChange (s := s.setAgent { s.agent.goTo .idle with sought := none }) hs _)

end

/-! ### The receiver's answer (R48) -/

section

variable {c : GasClass} {s : State}

theorem receiverFlowStart_of_fault (hstate : (s.rcv c).state = .starting ∨ (s.rcv c).state.isFault = true) :
    s.receiverFlowStart c = (s, .faultNotice) := by
  unfold State.receiverFlowStart
  dsimp only
  split
  next => rfl
  next => rfl
  all_goals next h => simp [h, ReceiverState.isFault] at hstate

theorem receiverFlowStart_of_discharging (hstate : (s.rcv c).state = .discharging) :
    s.receiverFlowStart c = (s, .flowing false) := by
  unfold State.receiverFlowStart
  dsimp only
  rw [hstate]

/-- The receiver as a flow starts. -/
abbrev State.rcvFlows (c : GasClass) (s : State) : Receiver :=
  (s.rcv c).startFlow (s.cfg.rcvSet c) (s.cfg.header.stallS * 1000)

theorem receiverFlowStart_of_rests (hrests : (s.rcv c).state = .accepting ∨ (s.rcv c).state = .full) :
    s.receiverFlowStart c =
      ((s.setRcv c (s.rcvFlows c)).tellPorts c, .flowing ((s.rcv c).atDone (s.cfg.rcvSet c))) := by
  unfold State.receiverFlowStart
  dsimp only
  rcases hrests with h | h <;> rw [h]

theorem startFlow_of_fault (hstate : (s.rcv c).state = .starting ∨ (s.rcv c).state.isFault = true) : s.startFlow c = s.toIdle := by
  unfold State.startFlow
  rw [receiverFlowStart_of_fault hstate]

theorem startFlow_of_flowing {done : Bool} (hanswer : (s.receiverFlowStart c).2 = .flowing done) :
    s.startFlow c = if done then (s.flowBegun c).endFlow false true .idle else s.flowBegun c := by
  unfold State.startFlow
  dsimp only
  rw [hanswer]
  rfl

/-! ### A flow that has begun (R129) -/

theorem flowBegun_rcv (c d : GasClass) (s : State) : (s.flowBegun c).rcv d = (s.receiverFlowStart c).1.rcv d := by
  simp [State.flowBegun]

theorem flowBegun_port (c : GasClass) (s : State) (p : PortId) : (s.flowBegun c).port p = (s.receiverFlowStart c).1.port p := by
  simp [State.flowBegun]

theorem flowBegun_rcv_of_rests (hrests : (s.rcv c).state = .accepting ∨ (s.rcv c).state = .full) :
    (s.flowBegun c).rcv c = s.rcvFlows c := by
  rw [flowBegun_rcv, receiverFlowStart_of_rests hrests]
  simp

theorem flowBegun_shuts {p : PortId} (hrests : (s.rcv c).state = .accepting ∨ (s.rcv c).state = .full)
    (hstate : (s.port p).state = .extract) (hgas : (s.port p).gas = some c) :
    (s.flowBegun c).port p = (s.port p).toWait .receiver := by
  have hport : (s.setRcv c (s.rcvFlows c)).port p = s.port p := by simp
  rw [flowBegun_port, receiverFlowStart_of_rests hrests]
  dsimp only
  rw [tellPorts_shuts (by rw [State.accepting, State.rcv_setRcv_self]; rfl) (by rwa [hport]) (by rwa [hport]), hport]

theorem flowBegun_runs (hdischarging : ((s.flowBegun c).rcv c).state = .discharging) : (s.flowBegun c).FlowRuns c := by
  unfold State.FlowRuns
  rw [flowBegun_agent]
  cases c <;> exact ⟨rfl, rfl, rfl, rfl, rfl, rfl, hdischarging⟩

/-- The station as its FLOW_ON is offered. -/
def State.flowReady (c : GasClass) (s : State) : State :=
  let s2 := (s.receiverFlowStart c).1.setAgent ({ s.agent.goTo .flowing with sought := some c } : Agent).shut
  s2.setAgent (s2.agent.flowOut c)

theorem flowReady_line (c : GasClass) (s : State) : (s.flowReady c).line = s.line := by
  have hline : (s.receiverFlowStart c).1.line = s.line := by simp
  exact hline

theorem flowReady_loaded (c : GasClass) (s : State) : (s.flowReady c).loaded = s.loaded := by
  have hloader : (s.receiverFlowStart c).1.loader = s.loader := by simp
  show (s.receiverFlowStart c).1.loaded = s.loaded
  rw [State.loaded, hloader]
  rfl

theorem flowBegun_eq (c : GasClass) (s : State) :
    s.flowBegun c = ((s.flowReady c).offer (.flowOn c s.agent.viewSerial)).noticeChange s.agent.dstate := by
  have hserial : (s.flowReady c).agent.viewSerial = s.agent.viewSerial := by cases c <;> rfl
  rw [← hserial]
  rfl

theorem mem_flowBegun (hroom : s.HasRoom 1) :
    (⟨.flowOn c s.agent.viewSerial, 0⟩ : QueuedFrame) ∈ (s.flowBegun c).line.queue := by
  have hready : (s.flowReady c).HasRoom 1 :=
    ⟨(flowReady_loaded c s).trans hroom.loaded, by rw [flowReady_line]; exact hroom.clash, by rw [flowReady_line]; exact hroom.room⟩
  rw [flowBegun_eq]
  exact Moves.mem_queue (mem_offer hready _) rfl (moves_noticeChange _ _)

theorem length_flowBegun (c : GasClass) (s : State) : (s.flowBegun c).line.queue.length ≤ s.line.queue.length + 2 := by
  have hoffered := length_offer (.flowOn c s.agent.viewSerial) (s.flowReady c)
  have htold := length_noticeChange s.agent.dstate ((s.flowReady c).offer (.flowOn c s.agent.viewSerial))
  rw [flowReady_line] at hoffered
  rw [flowBegun_eq]
  omega

theorem flowBegun_sends (c : GasClass) (s : State) :
    (s.flowBegun c).loaded = s.loaded ∧ (s.flowBegun c).line.clash = s.line.clash := by
  have hloader : (s.flowBegun c).loader = s.loader := flowBegun_sameBut c s .loader (by simp)
  exact ⟨by simp only [State.loaded, hloader], (flowBegun_conditions c s).2⟩

/-- A flow's end offers its FLOW_OFF. -/
theorem mem_endFlow_flowOff (hsought : s.agent.sought = some c) (hroom : s.HasRoom 1) (n : NextState) :
    (⟨.flowOff c, 0⟩ : QueuedFrame) ∈ (s.endFlow false true n).line.queue := by
  have hline : ((s.setAgent s.agent.shut).receiverFlowEnd c).line = s.line := by simp
  have hloader : ((s.setAgent s.agent.shut).receiverFlowEnd c).loader = s.loader := by simp
  have hready : ((s.setAgent s.agent.shut).receiverFlowEnd c).HasRoom 1 :=
    ⟨by simpa only [State.loaded, hloader] using hroom.loaded, by rw [hline]; exact hroom.clash, by rw [hline]; exact hroom.room⟩
  rw [endFlow_eq hsought]
  exact Moves.mem_queue (mem_offer hready _) rfl (moves_goNext n _)

end

end Sys2Proof.Machine
end

section
/-! PROOFS. Entry to FLOWING of a class (R129), by how its receiver answers: the statement that the ends of the agent's windows share. -/

namespace Sys2Proof.Machine

/-- What an event has left of the station `e` when it starts a flow of a class in `t`: the receiver of the class, the ports and the
outputs as they were, and at most one frame more, no FLOW_ON. -/
structure State.FlowsFrom (c : GasClass) (e t : State) : Prop where
  cfg : t.cfg = e.cfg
  rcv : t.rcv c = e.rcv c
  port : ∀ p, t.port p = e.port p
  outputs : ∀ d, t.agent.disch d = e.agent.disch d ∧ t.agent.sel d = e.agent.sel d
  loaded : t.loaded = e.loaded
  clash : t.line.clash = e.line.clash
  length : t.line.queue.length ≤ e.line.queue.length + 1
  flowOns : t.FlowOnsIn e.line.queue

theorem flowOnsIn_self (s : State) : s.FlowOnsIn s.line.queue := fun _ hq _ => hq

theorem flowsFrom_self (c : GasClass) (s : State) : s.FlowsFrom c s :=
  ⟨rfl, rfl, fun _ => rfl, fun _ => ⟨rfl, rfl⟩, rfl, rfl, Nat.le_succ _, flowOnsIn_self s⟩

section

variable {c : GasClass} {s : State}

/-! ### The receiver of the flow (R48, R49) -/

theorem startFlow_level (g : ReceiverSet) (stallMs : Nat) (r : Receiver) : (r.startFlow g stallMs).level g = r.level g := rfl

theorem atDone_of_above {g : ReceiverSet} {r : Receiver} (habove : g.dOff < r.level g) : r.atDone g = false :=
  decide_eq_false (Nat.not_le.mpr habove)

theorem atDone_of_low {g : ReceiverSet} {r : Receiver} (hlow : r.level g ≤ g.dOff) : r.atDone g = true := decide_eq_true hlow

/-- The flow of a resting receiver above D_off begins. -/
theorem startFlow_of_above (hrests : (s.rcv c).state = .accepting ∨ (s.rcv c).state = .full)
    (habove : (s.cfg.rcvSet c).dOff < s.level c) : s.startFlow c = s.flowBegun c := by
  rw [startFlow_of_flowing (congrArg Prod.snd (receiverFlowStart_of_rests hrests)), atDone_of_above habove]
  exact if_neg Bool.false_ne_true

/-- At or below D_off it ends in the same event. -/
theorem startFlow_of_low (hrests : (s.rcv c).state = .accepting ∨ (s.rcv c).state = .full)
    (hlow : s.level c ≤ (s.cfg.rcvSet c).dOff) : s.startFlow c = (s.flowBegun c).endFlow false true .idle := by
  rw [startFlow_of_flowing (congrArg Prod.snd (receiverFlowStart_of_rests hrests)), atDone_of_low hlow]
  exact if_pos rfl

theorem startFlow_of_discharging (hstate : (s.rcv c).state = .discharging) : s.startFlow c = s.flowBegun c := by
  rw [startFlow_of_flowing (congrArg Prod.snd (receiverFlowStart_of_discharging hstate))]
  exact if_neg Bool.false_ne_true

theorem flowBegun_sought (c : GasClass) (s : State) : (s.flowBegun c).agent.sought = some c := by
  rw [flowBegun_agent]
  exact (flowOut_duty c _).2.1

/-- A receiver that answers to the flow-start notice has its FLOW_ON offered, whether or not the flow ends at once. -/
theorem mem_startFlow (hanswers : ((s.rcv c).state = .accepting ∨ (s.rcv c).state = .full) ∨ (s.rcv c).state = .discharging)
    (hroom : s.HasRoom 1) : (⟨.flowOn c s.agent.viewSerial, 0⟩ : QueuedFrame) ∈ (s.startFlow c).line.queue := by
  rcases hanswers with hrests | hdischarging
  · rcases Nat.lt_or_ge (s.cfg.rcvSet c).dOff (s.level c) with habove | hlow
    · rw [startFlow_of_above hrests habove]
      exact mem_flowBegun hroom
    · rw [startFlow_of_low hrests hlow]
      exact Moves.mem_queue (mem_flowBegun hroom) rfl (moves_endFlow _ _ _ _)
  · rw [startFlow_of_discharging hdischarging]
    exact mem_flowBegun hroom

/-! ### The flow by its receiver's answer -/

theorem startFlow_runs (hrests : (s.rcv c).state = .accepting ∨ (s.rcv c).state = .full)
    (habove : (s.cfg.rcvSet c).dOff < s.level c) :
    (s.startFlow c).FlowRuns c ∧ ((s.startFlow c).rcv c).stall = .running (s.cfg.header.stallS * 1000) ∧
      ((s.startFlow c).rcv c).lowest = some ((s.rcv c).content (s.cfg.rcvSet c)) ∧
      ∀ p, (s.port p).state = .extract → (s.port p).gas = some c →
        ((s.startFlow c).port p).state = .wait .receiver ∧ ((s.startFlow c).port p).valveH = false ∧
          ((s.startFlow c).port p).valveK = false := by
  have hrcv : (s.flowBegun c).rcv c = s.rcvFlows c := flowBegun_rcv_of_rests hrests
  rw [startFlow_of_above hrests habove]
  refine ⟨flowBegun_runs (congrArg Receiver.state hrcv), ?_, congrArg Receiver.lowest hrcv, fun p hstate hgas => ?_⟩
  · rw [hrcv]
    simp only [State.rcvFlows, Receiver.startFlow, atDone_of_above habove, Bool.false_eq_true, if_false]
  · rw [flowBegun_shuts hrests hstate hgas]
    exact ⟨rfl, rfl, rfl⟩

theorem startFlow_ends (hrests : (s.rcv c).state = .accepting ∨ (s.rcv c).state = .full)
    (hlow : s.level c ≤ (s.cfg.rcvSet c).dOff) :
    (s.startFlow c).agent.dstate ≠ .flowing ∧
      (∀ d, (s.startFlow c).agent.disch d = false ∧ (s.startFlow c).agent.sel d = false) ∧
      ((s.startFlow c).rcv c).state = (if s.level c < (s.cfg.rcvSet c).full then .accepting else .full) ∧
      ((s.startFlow c).rcv c).stall = .stopped ∧ ((s.startFlow c).rcv c).lowest = none := by
  have hcfg : (s.flowBegun c).cfg = s.cfg := by simp [State.flowBegun]
  have hsought := flowBegun_sought c s
  obtain ⟨hstate, hshut⟩ := endFlow_idle_shut hsought false true
  rw [startFlow_of_low hrests hlow, endFlow_rcv_self hsought, flowBegun_rcv_of_rests hrests, hcfg]
  exact ⟨hstate, hshut, flowOver_of_discharging rfl⟩

theorem mem_startFlow_flowOff (hrests : (s.rcv c).state = .accepting ∨ (s.rcv c).state = .full)
    (hlow : s.level c ≤ (s.cfg.rcvSet c).dOff) (hroom : s.HasRoom 3) :
    (⟨.flowOff c, 0⟩ : QueuedFrame) ∈ (s.startFlow c).line.queue := by
  obtain ⟨hloaded, hclash⟩ := flowBegun_sends c s
  have hlength := length_flowBegun c s
  have hfits := hroom.room
  rw [startFlow_of_low hrests hlow]
  exact mem_endFlow_flowOff (flowBegun_sought c s) ⟨hloaded.trans hroom.loaded, hclash.trans hroom.clash, by omega⟩ .idle

theorem startFlow_refused (hstate : (s.rcv c).state = .starting ∨ (s.rcv c).state.isFault = true) :
    (s.startFlow c).agent.dstate ≠ .flowing ∧ (s.startFlow c).rcv c = s.rcv c ∧
      ∀ d, (s.startFlow c).agent.disch d = s.agent.disch d ∧ (s.startFlow c).agent.sel d = s.agent.sel d := by
  rw [startFlow_of_fault hstate]
  refine ⟨toIdle_dstate_ne_flowing s, by simp, fun d => ?_⟩
  cases d <;> simp [Agent.disch, Agent.sel]

theorem startFlow_continues (hstate : (s.rcv c).state = .discharging) :
    (s.startFlow c).FlowRuns c ∧ (s.startFlow c).rcv c = s.rcv c := by
  have hrcv : (s.flowBegun c).rcv c = s.rcv c := by rw [flowBegun_rcv, receiverFlowStart_of_discharging hstate]
  rw [startFlow_of_discharging hstate]
  exact ⟨flowBegun_runs ((congrArg Receiver.state hrcv).trans hstate), hrcv⟩

end

/-! ### Entry to FLOWING -/

theorem State.FlowsFrom.hasRoom {c : GasClass} {n : Nat} {e t : State} (hfrom : e.FlowsFrom c t)
    (hoffers : e.loaded = true ∧ e.line.clash = false) (hroom : e.line.queue.length + 1 + n ≤ Config.frameRoom) : t.HasRoom n :=
  ⟨hfrom.loaded.trans hoffers.1, hfrom.clash.trans hoffers.2, by have hlength := hfrom.length; omega⟩

/-- The entry to FLOWING, from where an event has brought the station. -/
theorem flowStarted_startFlow {c : GasClass} {e t : State} (hfrom : e.FlowsFrom c t) :
    e.FlowStarted c t.agent.viewSerial (t.startFlow c) := by
  have hlevel : t.level c = e.level c := by simp only [State.level, hfrom.rcv, hfrom.cfg]
  have hset : t.cfg.rcvSet c = e.cfg.rcvSet c := by rw [hfrom.cfg]
  unfold State.FlowStarted
  dsimp only
  rw [← hfrom.rcv, ← hset, ← hlevel]
  refine ⟨fun hanswers hoffers hlength => ?_, fun hrests habove => ?_, fun hrests hlow => ?_, fun hrefuses => ?_, startFlow_continues⟩
  · exact ⟨_, mem_startFlow hanswers (hfrom.hasRoom hoffers (by simp only [Config.frameRoom]; omega)), rfl⟩
  · obtain ⟨hruns, hstall, hlowest, hports⟩ := startFlow_runs hrests habove
    exact ⟨hruns, hfrom.cfg ▸ hstall, hlowest, fun p => hfrom.port p ▸ hports p⟩
  · obtain ⟨hstate, hshut, hrest, hstall, hlowest⟩ := startFlow_ends hrests hlow
    refine ⟨hstate, hshut, hrest, hstall, hlowest, fun hoffers hlength => ⟨_, mem_startFlow_flowOff hrests hlow ?_, rfl⟩⟩
    exact hfrom.hasRoom hoffers (by simp only [Config.frameRoom]; omega)
  · obtain ⟨hstate, hrcv, houtputs⟩ := startFlow_refused hrefuses
    refine ⟨hstate, hrcv, fun d => ?_, fun q hq hflow => ?_⟩
    · exact ⟨(houtputs d).1.trans (hfrom.outputs d).1, (houtputs d).2.trans (hfrom.outputs d).2⟩
    · rw [startFlow_of_fault hrefuses] at hq
      obtain ⟨d, n, hframe⟩ := hflow
      exact flowOnsIn_toIdle hfrom.flowOns q hq (by rw [hframe]; rfl)

end Sys2Proof.Machine
end

section
/-! PROOFS. The end of the window in LISTEN_FLOW (R121): O52. -/

namespace Sys2Proof.Machine

/-- An expiry that exists in one discharge state, with its timer running in that state. -/
theorem expiryIn_of_running {d : DState} {t : Timer} {n : Nat} {s : State} (hstate : s.agent.dstate = d) (ht : t = .running n)
    (act : State → State) : s.expiryIn d t act = act (s.elapse n) := by
  rw [State.expiryIn, if_pos hstate, ht, State.onExpiry_running]

theorem agentBlocks_subset_flowBlocks (c : GasClass) : [.agent, .line, .op] ⊆ flowBlocks c := by simp [flowBlocks]

section

variable {c : GasClass} {s : State}

theorem flowWindowEnds_of_barred (hsought : s.agent.sought = some c) (hbarred : s.agent.held c = true ∨ s.agent.contended = true) :
    s.flowWindowEnds = s.toBackoff false := by
  unfold State.flowWindowEnds
  rw [hsought]
  rcases hbarred with h | h <;> simp [h]

theorem flowWindowEnds_of_free (hsought : s.agent.sought = some c) (hheld : s.agent.held c = false)
    (hcontended : s.agent.contended = false) :
    s.flowWindowEnds =
      if s.agent.viewClass = some c then (if s.noOther c then s.startFlow c else s.toWaiting)
      else if s.flowingPeers = [] then s.toDrain else s.toWaiting := by
  simp [State.flowWindowEnds, hsought, hheld, hcontended]

theorem flowWindowEnds_sameBut (hsought : s.agent.sought = some c) : s.SameBut (flowBlocks c) s.flowWindowEnds := by
  have hwaiting := sameBut_mono (toWaiting_sameBut s) (agentBlocks_subset_flowBlocks c)
  by_cases hbarred : s.agent.held c = true ∨ s.agent.contended = true
  · rw [flowWindowEnds_of_barred hsought hbarred]
    exact sameBut_mono (toBackoff_sameBut false s) (agentBlocks_subset_flowBlocks c)
  · obtain ⟨hheld, hcontended⟩ := not_or.mp hbarred
    rw [flowWindowEnds_of_free hsought (by simpa using hheld) (by simpa using hcontended)]
    exact sameBut_ite (sameBut_ite (startFlow_sameBut c s) hwaiting)
      (sameBut_ite (sameBut_mono (toDrain_sameBut s) (agentBlocks_subset_flowBlocks c)) hwaiting)

theorem toDrain_of_ownerless (howner : s.agent.owner = none) :
    s.toDrain.agent.dstate = .drain ∧ s.toDrain.agent.drain = .running (s.cfg.header.drainS * 1000) := by
  unfold State.toDrain
  rw [howner]
  simp [Agent.goTo]

theorem toDrain_of_owned (howner : s.agent.owner ≠ none) : s.toDrain = s.toWaiting := by
  obtain ⟨p, hp⟩ := Option.ne_none_iff_exists'.mp howner
  unfold State.toDrain
  rw [hp]

end

/-- Settles O52: each of the six checks leads to one act. -/
theorem flowWindowDecides : Obligations.FlowWindowDecides := by
  intro c n s e hstate hsought hrunning he
  have hcfg : e.cfg = s.cfg := by simp [he]
  have hview : e.agent.viewClass = s.agent.viewClass := by simp [he]
  have hserial : e.agent.viewSerial = s.agent.viewSerial := by simp [he]
  have howner : e.agent.owner = s.agent.owner := by simp [he]
  have hcontended : e.agent.contended = s.agent.contended := by simp [he]
  have hother : e.noOther c = s.noOther c := by simp [he]
  have hpeers : e.flowingPeers = s.flowingPeers := by simp [he]
  have hesought : e.agent.sought = some c := by simpa [he] using hsought
  have hexec : exec .flowWindowExpiry s = .next e.flowWindowEnds.finish := by
    rw [he]
    exact congrArg (fun t => Host.Outcome.next (State.finish t)) (expiryIn_of_running hstate hrunning _)
  refine ⟨e.flowWindowEnds, hexec, flowWindowEnds_sameBut hesought, fun hbarred => ?_, fun hheld hfree => ?_⟩
  · rw [flowWindowEnds_of_barred hesought (by rwa [hcontended]), toBackoff_agent, hcfg]
    exact ⟨rfl, hesought, rfl⟩
  · rw [flowWindowEnds_of_free hesought hheld (hcontended.trans hfree), hview, hother, hpeers]
    refine ⟨fun hours hclear => ?_, fun hours hbusy => ?_, fun htheirs hflow => ?_, fun htheirs hnone => ⟨fun hown => ?_, fun hown => ?_⟩⟩
    · rw [if_pos hours, if_pos hclear, ← hserial]
      exact flowStarted_startFlow (flowsFrom_self c e)
    · rw [if_pos hours, if_neg (by simp [hbusy])]
      exact toWaiting_dstate e
    · rw [if_neg htheirs, if_neg hflow]
      exact toWaiting_dstate e
    · rw [if_neg htheirs, if_pos hnone, ← hcfg]
      exact toDrain_of_ownerless (howner.trans hown)
    · rw [if_neg htheirs, if_pos hnone, toDrain_of_owned (howner ▸ hown)]
      exact toWaiting_dstate e

end Sys2Proof.Machine
end

section
/-! PROOFS. The ends of the drain, of the window in LISTEN_PURGE and of the purge (R123 to R126, R128, R129): O53. -/

namespace Sys2Proof.Machine

section

variable {c : GasClass} {s : State}

/-! ### The frames of the way on -/

theorem mem_listenTold (hroom : s.HasRoom 1) (u : Purpose) :
    (⟨.intent u c (s.band c), s.agent.entry + 1⟩ : QueuedFrame) ∈ (s.listenTold u c).line.queue :=
  Moves.mem_queue (mem_offerEntry (s := s.setAgent (s.agent.listens u c (s.band c))) ⟨hroom.loaded, hroom.clash, hroom.room⟩ _ _) rfl
    (moves_noticeChange _ _)

theorem mem_purgeTold (hroom : s.HasRoom 1) :
    (⟨.purgeStart c (s.agent.viewSerial + 1), 0⟩ : QueuedFrame) ∈ (s.purgeTold c).line.queue :=
  Moves.mem_queue
    (mem_offerEntry (s := s.setAgent (s.agent.purgesFor s.cfg.address (s.cfg.header.purgeS * 1000)))
      ⟨hroom.loaded, hroom.clash, hroom.room⟩ _ _) rfl (moves_noticeChange _ _)

theorem toWaiting_hasRoom (hroom : s.HasRoom 2) : s.toWaiting.HasRoom 1 :=
  ⟨by simpa using hroom.loaded, by simpa using hroom.clash, by
    have hlength := length_toWaiting s
    have hfits := hroom.room
    omega⟩

/-! ### The drain (R123) -/

theorem drainEnds_eq (hsought : s.agent.sought = some c) :
    s.drainEnds =
      if s.agent.held c then s.toBackoff false
      else if s.agent.viewClass = some c then s.toListen .flow c
      else if s.agent.owner.isSome then s.toWaiting
      else s.toListen .purge c := by
  unfold State.drainEnds
  rw [hsought]

theorem drainEnds_sameBut (hsought : s.agent.sought = some c) : s.SameBut [.agent, .line, .op] s.drainEnds := by
  rw [drainEnds_eq hsought]
  exact sameBut_ite (toBackoff_sameBut false s)
    (sameBut_ite (toListen_sameBut .flow c s) (sameBut_ite (toWaiting_sameBut s) (toListen_sameBut .purge c s)))

theorem drainEnds_dstate (hsought : s.agent.sought = some c) (hroom : s.HasRoom 1) :
    s.drainEnds.agent.dstate =
      (if s.agent.held c = true then .backoff else if s.agent.viewClass = some c then .listenFlow
      else if s.agent.owner ≠ none then .waiting else .listenPurge) := by
  rw [drainEnds_eq hsought, toListen_of_room hroom, toListen_of_room hroom]
  simp only [Option.isSome_iff_ne_none]
  split
  · rw [toBackoff_agent]
    rfl
  split
  · exact listenTold_dstate c s
  split
  · exact toWaiting_dstate s
  · rw [listenTold_agent]
    rfl

theorem drainEnds_of_unknown (hsought : s.agent.sought = some c) (hroom : s.HasRoom 1) (hheld : s.agent.held c = false)
    (hview : s.agent.viewClass ≠ some c) (howner : s.agent.owner = none) : s.drainEnds = s.listenTold .purge c := by
  rw [drainEnds_eq hsought, if_neg (by simp [hheld]), if_neg hview, if_neg (by simp [howner]), toListen_of_room hroom]

/-! ### The window in LISTEN_PURGE (R125, R126) -/

theorem purgeWindowEnds_eq (hsought : s.agent.sought = some c) :
    s.purgeWindowEnds =
      if s.agent.held c then s.toBackoff false
      else if s.agent.reserved then s.toPurging
      else s.toWaiting.reevaluate := by
  unfold State.purgeWindowEnds
  rw [hsought]

theorem purgeWindowEnds_sameBut (hsought : s.agent.sought = some c) : s.SameBut [.agent, .line, .op] s.purgeWindowEnds := by
  rw [purgeWindowEnds_eq hsought]
  exact sameBut_ite (toBackoff_sameBut false s)
    (sameBut_ite (toPurging_sameBut s) (sameBut_trans (toWaiting_sameBut s) (reevaluate_sameBut s.toWaiting) (by simp) (by simp)))

theorem purgeWindowEnds_of_reserved (hsought : s.agent.sought = some c) (hroom : s.HasRoom 1) (hheld : s.agent.held c = false)
    (hreserved : s.agent.reserved = true) : s.purgeWindowEnds = s.purgeTold c := by
  rw [purgeWindowEnds_eq hsought, if_neg (by simp [hheld]), if_pos hreserved, toPurging_of_room hroom hsought]

theorem purgeWindowEnds_of_lost (hsought : s.agent.sought = some c) (hroom : s.HasRoom 2) (hheld : s.agent.held c = false)
    (hlost : s.agent.reserved = false) (hview : s.agent.viewClass ≠ some c) :
    s.purgeWindowEnds.agent.dstate = (if s.flowingPeers = [] ∧ s.agent.owner = none then .drain else .waiting) := by
  have hsought' : s.toWaiting.agent.sought = some c := by simpa [State.toWaiting, Agent.goTo] using hsought
  have hview' : s.toWaiting.agent.viewClass = s.agent.viewClass := by simp
  have howner' : s.toWaiting.agent.owner = s.agent.owner := by simp
  have hpeers' : s.toWaiting.flowingPeers = s.flowingPeers := by simp
  rw [purgeWindowEnds_eq hsought, if_neg (by simp [hheld]), if_neg (by simp [hlost]),
    reevaluate_dstate (toWaiting_hasRoom hroom) (toWaiting_dstate s) hsought', hview', howner', hpeers', if_neg (fun h => hview h.1)]
  simp only [ne_eq, hview, not_false_eq_true, true_and]

/-! ### The end of the purge (R128) -/

/-- The header is purged, and PURGE_DONE is offered. -/
def State.purgeOver (c : GasClass) (s : State) : State :=
  (s.setAgent (s.agent.purged c)).offer (.purgeDone (some c) s.agent.purgeSerial)

theorem purgeOver_agent (c : GasClass) (s : State) : (s.purgeOver c).agent = s.agent.purged c := by simp [State.purgeOver]

theorem purgeOver_rcv (c d : GasClass) (s : State) : (s.purgeOver c).rcv d = s.rcv d := by simp [State.purgeOver]

theorem purgeOver_sameBut (c : GasClass) (s : State) : s.SameBut [.agent, .line, .op] (s.purgeOver c) :=
  sameBut_trans (setAgent_sameBut (s.agent.purged c) s) (offer_sameBut _ _) (by simp) (by simp)

theorem flowsFrom_purgeOver (c : GasClass) (s : State) : s.FlowsFrom c (s.purgeOver c) where
  cfg := by simp [State.purgeOver]
  rcv := purgeOver_rcv c c s
  port p := by simp [State.purgeOver]
  outputs d := by
    rw [purgeOver_agent]
    cases d <;> exact ⟨rfl, rfl⟩
  loaded := by simp [State.purgeOver]
  clash := by simp [State.purgeOver]
  length := length_offer _ _
  flowOns := flowOnsIn_offerEntry (s := s.setAgent (s.agent.purged c)) (flowOnsIn_self s) rfl 0

theorem purgeEnds_eq (hsought : s.agent.sought = some c) :
    s.purgeEnds = if (s.rcv c).request then (s.purgeOver c).startFlow c else (s.purgeOver c).toIdle := by
  unfold State.purgeEnds
  rw [hsought, ← purgeOver_rcv c c s]
  rfl

theorem purgeEnds_sameBut (hsought : s.agent.sought = some c) : s.SameBut (flowBlocks c) s.purgeEnds := by
  have hblocks := agentBlocks_subset_flowBlocks c
  have hpurged := purgeOver_sameBut c s
  rw [purgeEnds_eq hsought]
  exact sameBut_ite (sameBut_trans hpurged (startFlow_sameBut c _) hblocks (List.Subset.refl _))
    (sameBut_trans hpurged (toIdle_sameBut _) hblocks hblocks)

/-- The view stands at the purged class whatever the flow comes to. -/
theorem purgeEnds_view (hsought : s.agent.sought = some c) :
    s.purgeEnds.agent.purgeV = false ∧ s.purgeEnds.agent.viewClass = some c ∧ s.purgeEnds.agent.viewSerial = s.agent.purgeSerial ∧
      s.purgeEnds.agent.owner = none := by
  rw [purgeEnds_eq hsought]
  split <;> simp [purgeOver_agent, Agent.purged]

theorem mem_purgeEnds (hsought : s.agent.sought = some c) (hroom : s.HasRoom 1) :
    (⟨.purgeDone (some c) s.agent.purgeSerial, 0⟩ : QueuedFrame) ∈ s.purgeEnds.line.queue := by
  have hoffered : (⟨.purgeDone (some c) s.agent.purgeSerial, 0⟩ : QueuedFrame) ∈ (s.purgeOver c).line.queue :=
    mem_offer (s := s.setAgent (s.agent.purged c)) ⟨hroom.loaded, hroom.clash, hroom.room⟩ _
  rw [purgeEnds_eq hsought]
  exact Moves.mem_queue hoffered rfl (moves_if (moves_startFlow c _) (moves_toIdle _))

theorem purgeEnds_of_request (hsought : s.agent.sought = some c) (hrequest : (s.rcv c).request = true) :
    s.FlowStarted c s.agent.purgeSerial s.purgeEnds := by
  have hserial : (s.purgeOver c).agent.viewSerial = s.agent.purgeSerial := congrArg Agent.viewSerial (purgeOver_agent c s)
  rw [purgeEnds_eq hsought, if_pos hrequest, ← hserial]
  exact flowStarted_startFlow (flowsFrom_purgeOver c s)

theorem purgeEnds_of_quiet (hsought : s.agent.sought = some c) (hquiet : (s.rcv c).request = false) :
    s.purgeEnds.agent.dstate ≠ .flowing ∧ s.purgeEnds.rcv c = s.rcv c := by
  rw [purgeEnds_eq hsought, if_neg (by simp [hquiet])]
  exact ⟨toIdle_dstate_ne_flowing _, by simp [purgeOver_rcv]⟩

end

/-- Settles O53: the three ends, each by its equation. -/
theorem drainAndPurgeDecide : Obligations.DrainAndPurgeDecide := by
  intro c n s e hsought he hloaded hclash hlength
  have hcfg : e.cfg = s.cfg := by simp [he]
  have hview : e.agent.viewClass = s.agent.viewClass := by simp [he]
  have hserial : e.agent.viewSerial = s.agent.viewSerial := by simp [he]
  have howner : e.agent.owner = s.agent.owner := by simp [he]
  have hband : e.band c = s.band c := by simp [he]
  have hesought : e.agent.sought = some c := by simpa [he] using hsought
  have hroom : e.HasRoom 2 := ⟨by simpa [he] using hloaded, by simpa [he] using hclash, by
    have hqueue : e.line.queue = s.line.queue := by simp [he]
    rw [hqueue]
    simp only [Config.frameRoom]
    omega⟩
  have hfits : e.HasRoom 1 := ⟨hroom.loaded, hroom.clash, by have h := hroom.room; omega⟩
  refine ⟨fun hstate hrunning => ?_, fun hstate hrunning => ?_, fun hstate hrunning => ?_⟩
  case refine_1 =>
    have hexec : exec .drainExpiry s = .next e.drainEnds.finish := by
      rw [he]
      exact congrArg (fun t => Host.Outcome.next (State.finish t)) (expiryIn_of_running hstate hrunning _)
    refine ⟨e.drainEnds, hexec, drainEnds_sameBut hesought, ?_, fun hheld htheirs hown => ?_⟩
    · rw [drainEnds_dstate hesought hfits, hview, howner]
    · rw [drainEnds_of_unknown hesought hfits hheld (hview ▸ htheirs) (howner.trans hown), ← hband, listenTold_agent]
      exact ⟨rfl, rfl, .inl ⟨_, mem_listenTold hfits .purge, rfl⟩⟩
  case refine_2 =>
    have hexec : exec .purgeWindowExpiry s = .next e.purgeWindowEnds.finish := by
      rw [he]
      exact congrArg (fun t => Host.Outcome.next (State.finish t)) (expiryIn_of_running hstate hrunning _)
    refine ⟨e.purgeWindowEnds, hexec, purgeWindowEnds_sameBut hesought, fun hheld => ?_, fun hheld hreserved => ?_,
      fun hheld hlost htheirs => ?_⟩
    · have hpurgeV : e.agent.purgeV = s.agent.purgeV := by simp [he]
      rw [purgeWindowEnds_eq hesought, if_pos hheld, toBackoff_agent]
      exact ⟨rfl, hpurgeV⟩
    · have hereserved : e.agent.reserved = true := by simpa [he] using hreserved
      rw [purgeWindowEnds_of_reserved hesought hfits hheld hereserved, purgeTold_agent, ← hcfg, ← hserial]
      exact ⟨rfl, rfl, rfl, rfl, rfl, rfl, rfl, rfl, rfl, rfl, rfl, .inl ⟨_, mem_purgeTold hfits, rfl⟩⟩
    · have hpeers : e.flowingPeers = s.flowingPeers := by simp [he]
      have helost : e.agent.reserved = false := by simpa [he] using hlost
      rw [purgeWindowEnds_of_lost hesought hroom hheld helost (hview ▸ htheirs), hpeers, howner]
  case refine_3 =>
    have hpurged : e.agent.purgeSerial = s.agent.purgeSerial := by simp [he]
    have hrequest : (e.rcv c).request = (s.rcv c).request := by simp [he]
    have hexec : exec .purgeExpiry s = .next e.purgeEnds.finish := by
      rw [he]
      exact congrArg (fun t => Host.Outcome.next (State.finish t)) (expiryIn_of_running hstate hrunning _)
    obtain ⟨hvalve, hclass, hat, hnone⟩ := purgeEnds_view hesought
    rw [← hpurged, ← hrequest]
    exact ⟨e.purgeEnds, hexec, purgeEnds_sameBut hesought, hvalve, hclass, hat, hnone, ⟨_, mem_purgeEnds hesought hfits, rfl⟩,
      purgeEnds_of_request hesought, purgeEnds_of_quiet hesought⟩

end Sys2Proof.Machine
end

section
/-! PROOFS. The end of the backoff and the end of a hold (R115, R118, R119, R122, R133): O54. -/

namespace Sys2Proof.Machine

/-! ### The choice of R119 -/

/-- The choice reads the receivers, the holds, the inhibit and the view. -/
theorem chosen_congr {s t : State} (hcfg : t.cfg = s.cfg) (hrcv : ∀ c, t.rcv c = s.rcv c)
    (hheld : ∀ c, t.agent.held c = s.agent.held c) (hinhibited : t.inhibited = s.inhibited)
    (hview : t.agent.viewClass = s.agent.viewClass) : t.chosen = s.chosen := by
  have heligible : ∀ c, t.eligible c = s.eligible c := fun c => by rw [State.eligible, State.eligible, hrcv, hheld, hinhibited]
  have hband : ∀ c, t.band c = s.band c := fun c => by rw [State.band, State.band, hrcv, hcfg]
  unfold State.chosen
  rw [heligible, heligible, hband, hband, hview]

section

variable {c : GasClass} {s : State}

theorem chosen_of_both (hhalo : s.eligible .halo = true) (hhydro : s.eligible .hydro = true) :
    s.chosen = some (s.agent.viewClass.getD (if s.band .halo < s.band .hydro then .hydro else .halo)) := by
  unfold State.chosen
  rw [hhalo, hhydro]
  dsimp only
  cases s.agent.viewClass with
  | some v => rfl
  | none => exact (apply_ite some _ _ _).symm

theorem chosen_of_eligible (heligible : s.eligible c = true) : ∃ d, s.chosen = some d := by
  have hnone : s.chosen ≠ none := fun h => by
    unfold State.chosen at h
    split at h
    · split at h
      · cases h
      · split at h <;> cases h
    · cases h
    · cases h
    next hhalo hhydro => cases c <;> simp_all
  exact Option.ne_none_iff_exists'.mp hnone

theorem chosen_prefers {d : GasClass} (hchosen : s.chosen = some c) (heligible : s.eligible d = true) (hother : d ≠ c) :
    s.agent.viewClass = some c ∨
      s.agent.viewClass = none ∧ (s.band d < s.band c ∨ s.band d = s.band c ∧ c = .halo) := by
  have hself := chosen_eligible hchosen
  have hboth : s.eligible .halo = true ∧ s.eligible .hydro = true := by
    cases c with
    | halo => cases d with
      | halo => exact absurd rfl hother
      | hydro => exact ⟨hself, heligible⟩
    | hydro => cases d with
      | halo => exact ⟨heligible, hself⟩
      | hydro => exact absurd rfl hother
  rw [chosen_of_both hboth.1 hboth.2] at hchosen
  cases hview : s.agent.viewClass with
  | some v =>
    rw [hview] at hchosen
    exact .inl hchosen
  | none =>
    rw [hview, Option.getD_none] at hchosen
    refine .inr ⟨rfl, ?_⟩
    split at hchosen
    next hless =>
      obtain rfl := Option.some.inj hchosen
      cases d with
      | halo => exact .inl hless
      | hydro => exact absurd rfl hother
    next hnot =>
      obtain rfl := Option.some.inj hchosen
      cases d with
      | halo => exact absurd rfl hother
      | hydro => exact (Nat.lt_or_eq_of_le (Nat.not_lt.mp hnot)).imp_right fun h => ⟨h, rfl⟩

/-! ### The check in IDLE (R119) -/

theorem idleCheck_of_barred (hbarred : s.chosen = none ∨ s.lc.paused = true ∨ s.line.listenIn = true) : s.idleCheck = s := by
  unfold State.idleCheck
  split
  next hgoes =>
    obtain ⟨-, hruns, -, hheard, -⟩ := hgoes
    rcases hbarred with h | h | h
    · rw [h]
    · exact absurd h (by simp [hruns])
    · exact absurd h (by simp [hheard])
  next => rfl

theorem idleCheck_of_chosen (hidle : s.agent.dstate = .idle) (hruns : s.lc.paused = false) (hheard : s.line.listenIn = false)
    (hroom : s.HasRoom 1) (hchosen : s.chosen = some c) : s.idleCheck = s.listenTold .flow c := by
  rw [State.idleCheck, if_pos ⟨hidle, hruns, hroom.clash, hheard, hroom.loaded⟩, hchosen]
  exact toListen_of_room hroom .flow c

/-- The agent in LISTEN_FLOW for the class, its INTENT offered. -/
theorem listenTold_flow (hroom : s.HasRoom 1) :
    (s.listenTold .flow c).agent.dstate = .listenFlow ∧ (s.listenTold .flow c).agent.sought = some c ∧
      (s.listenTold .flow c).agent.key = s.band c ∧ (s.listenTold .flow c).agent.contended = false ∧
      (s.listenTold .flow c).willSend (.intent .flow c (s.band c)) := by
  have hsends : (s.listenTold .flow c).willSend (.intent .flow c (s.band c)) := .inl ⟨_, mem_listenTold hroom .flow, rfl⟩
  rw [listenTold_agent]
  exact ⟨rfl, rfl, rfl, rfl, hsends⟩

/-! ### The end of the backoff (R133) -/

/-- The agent in IDLE, before it makes the check. -/
def State.idled (s : State) : State := (s.setAgent { s.agent.goTo .idle with sought := none }).noticeChange s.agent.dstate

theorem toIdle_eq (s : State) : s.toIdle = s.idled.idleCheck := rfl

theorem idled_agent (s : State) : s.idled.agent = { s.agent.goTo .idle with sought := none } := by simp [State.idled]

theorem idled_conditions (s : State) : s.idled.lc = s.lc ∧ s.idled.line.listenIn = s.line.listenIn := by simp [State.idled]

theorem idled_band (s : State) (c : GasClass) : s.idled.band c = s.band c := by simp [State.idled]

theorem idled_chosen (s : State) : s.idled.chosen = s.chosen := by
  refine chosen_congr (by simp [State.idled]) (by simp [State.idled]) (fun c => ?_) (by simp [State.idled]) (by simp [State.idled, Agent.goTo])
  rw [idled_agent]
  cases c <;> rfl

theorem idled_hasRoom (hroom : s.HasRoom 2) : s.idled.HasRoom 1 :=
  ⟨by simpa [State.idled] using hroom.loaded, by simpa [State.idled] using hroom.clash, by
    have hlength := length_noticeChange s.agent.dstate (s.setAgent { s.agent.goTo .idle with sought := none })
    have hfits := hroom.room
    unfold State.idled
    rw [State.setAgent_line] at hlength
    omega⟩

theorem toIdle_of_barred (hbarred : s.chosen = none ∨ s.lc.paused = true ∨ s.line.listenIn = true) : s.toIdle = s.idled := by
  obtain ⟨hlc, hlisten⟩ := idled_conditions s
  rw [toIdle_eq, idleCheck_of_barred]
  rwa [idled_chosen, hlc, hlisten]

theorem toIdle_of_chosen (hroom : s.HasRoom 2) (hruns : s.lc.paused = false) (hheard : s.line.listenIn = false)
    (hchosen : s.chosen = some c) : s.toIdle = s.idled.listenTold .flow c := by
  obtain ⟨hlc, hlisten⟩ := idled_conditions s
  exact idleCheck_of_chosen (s := s.idled) (congrArg Agent.dstate (idled_agent s)) (by rwa [hlc]) (hlisten.trans hheard) (idled_hasRoom hroom)
    ((idled_chosen s).trans hchosen)

/-! ### The end of a hold (R115, R118) -/

/-- The hold is gone, and no one is told. -/
def State.released (c : GasClass) (s : State) : State := s.setAgent (s.agent.release c)

theorem release_heldT (c : GasClass) (a : Agent) :
    (a.release c).heldT c = .stopped ∧ (a.release c).heldT c.other = a.heldT c.other := by
  cases c <;> exact ⟨rfl, rfl⟩

/-- A hold whose time has passed bars nothing. -/
theorem release_held {a : Agent} (hpassed : (a.heldT c).isAhead = false) (d : GasClass) : (a.release c).held d = a.held d := by
  unfold Agent.held
  cases c <;> cases d <;> simp_all [Agent.release, Agent.heldT, Timer.isAhead]

theorem released_keeps (c : GasClass) (s : State) :
    (s.released c).agent.dstate = s.agent.dstate ∧ (s.released c).agent.sought = s.agent.sought := by
  cases c <;> exact ⟨rfl, rfl⟩

theorem released_chosen (hpassed : (s.agent.heldT c).isAhead = false) : (s.released c).chosen = s.chosen :=
  chosen_congr rfl (by simp [State.released]) (release_held hpassed) (by simp [State.released]) (by cases c <;> rfl)

theorem holdEnd_heldT (h : HoldClass) (s : State) (d : GasClass) : (s.holdEnd h).agent.heldT d = s.agent.heldT d := by
  cases d <;> simp [Agent.heldT]

theorem holdEnd_sameBut (h : HoldClass) (s : State) : s.SameBut [.agent, .line, .op] (s.holdEnd h) := by
  rw [sameBut_iff]
  simp

theorem holdEnd_of_idle (hidle : s.agent.dstate = .idle) (h : HoldClass) : s.holdEnd h = s.idleCheck := by
  unfold State.holdEnd
  rw [hidle]

theorem bars_holdOf_iff (c d : GasClass) : (holdOf c).bars d = true ↔ d = c := by cases c <;> cases d <;> simp [holdOf, HoldClass.bars]

theorem holdEnd_of_waiting {d : GasClass} (hwaiting : s.agent.dstate = .waiting) (hsought : s.agent.sought = some d) (h : HoldClass) :
    s.holdEnd h = if h.bars d then s.reevaluate else s := by
  unfold State.holdEnd
  rw [hwaiting, hsought]

/-- WAITING's decision, read off the station it leaves. -/
theorem waitingDecided_reevaluate (hroom : s.HasRoom 1) (hwaiting : s.agent.dstate = .waiting) (hsought : s.agent.sought = some c) :
    s.reevaluate.WaitingDecided c := by
  have hview : s.reevaluate.agent.viewClass = s.agent.viewClass := by simp
  have howner : s.reevaluate.agent.owner = s.agent.owner := by simp
  have hother : s.reevaluate.noOther c = s.noOther c := by simp
  have hpeers : s.reevaluate.flowingPeers = s.flowingPeers := by simp
  have hheld : s.reevaluate.agent.held c = s.agent.held c := by cases c <;> simp [Agent.held, Agent.heldT]
  unfold State.WaitingDecided
  rw [reevaluate_dstate hroom hwaiting hsought, hview, howner, hother, hpeers, hheld]

theorem holdRunsOut_eq (c : GasClass) (s : State) : s.holdRunsOut c = (s.released c).holdEnd (holdOf c) := rfl

theorem holdRunsOut_sameBut (c : GasClass) (s : State) : s.SameBut [.agent, .line, .op] (s.holdRunsOut c) :=
  sameBut_trans (setAgent_sameBut (s.agent.release c) s) (holdEnd_sameBut _ _) (by simp) (by simp)

theorem holdRunsOut_heldT (c : GasClass) (s : State) :
    (s.holdRunsOut c).agent.heldT c = .stopped ∧ (s.holdRunsOut c).agent.heldT c.other = s.agent.heldT c.other := by
  rw [holdRunsOut_eq, holdEnd_heldT, holdEnd_heldT]
  exact release_heldT c s.agent

theorem holdRunsOut_of_busy (hidle : s.agent.dstate ≠ .idle) (hwaiting : s.agent.dstate ≠ .waiting) :
    s.holdRunsOut c = s.released c := by
  obtain ⟨hstate, -⟩ := released_keeps c s
  exact holdEnd_eq_self (s := s.released c) (by rwa [hstate]) (by rwa [hstate]) _

theorem holdRunsOut_of_idle (hidle : s.agent.dstate = .idle) : s.holdRunsOut c = (s.released c).idleCheck :=
  holdEnd_of_idle ((released_keeps c s).1.trans hidle) _

theorem holdRunsOut_of_chosen {d : GasClass} (hidle : s.agent.dstate = .idle) (hpassed : (s.agent.heldT c).isAhead = false)
    (hruns : s.lc.paused = false) (hheard : s.line.listenIn = false) (hroom : s.HasRoom 1) (hchosen : s.chosen = some d) :
    s.holdRunsOut c = (s.released c).listenTold .flow d := by
  rw [holdRunsOut_of_idle hidle]
  exact idleCheck_of_chosen ((released_keeps c s).1.trans hidle) hruns hheard ⟨hroom.loaded, hroom.clash, hroom.room⟩
    ((released_chosen hpassed).trans hchosen)

theorem holdRunsOut_of_waiting {d : GasClass} (hwaiting : s.agent.dstate = .waiting) (hsought : s.agent.sought = some d) :
    s.holdRunsOut c = if (holdOf c).bars d then (s.released c).reevaluate else s.released c := by
  obtain ⟨hstate, hclass⟩ := released_keeps c s
  exact holdEnd_of_waiting (hstate.trans hwaiting) (hclass.trans hsought) _

end

/-- A timer that has run its time lies ahead no more. -/
theorem elapse_run_isAhead (n : Nat) : (Timer.elapse n (.running n)).isAhead = false := by simp [Timer.isAhead]

/-- Settles O54: IDLE's check and WAITING's decision, once the backoff or the hold has gone. -/
theorem backoffAndHoldsRunOut : Obligations.BackoffAndHoldsRunOut := by
  intro n s e he hloaded hclash hlength
  have hdstate : e.agent.dstate = s.agent.dstate := by simp [he]
  have hpaused : e.lc.paused = s.lc.paused := by simp [he]
  have hlisten : e.line.listenIn = s.line.listenIn := by simp [he]
  have hband : ∀ c, e.band c = s.band c := fun c => by simp [he]
  have hroom : e.HasRoom 2 := ⟨by simpa [he] using hloaded, by simpa [he] using hclash, by
    have hqueue : e.line.queue = s.line.queue := by simp [he]
    rw [hqueue]
    simp only [Config.frameRoom]
    omega⟩
  have hfits : e.HasRoom 1 := ⟨hroom.loaded, hroom.clash, by have h := hroom.room; omega⟩
  refine ⟨fun hbackoff hrunning => ?_, fun c hrunning => ?_, fun c d hchosen heligible hother => ?_⟩
  case refine_1 =>
    have hexec : exec .backoffExpiry s = .next e.toIdle.finish := by
      rw [he]
      exact congrArg (fun t => Host.Outcome.next (State.finish t)) (expiryIn_of_running hbackoff hrunning _)
    refine ⟨e.toIdle, hexec, toIdle_sameBut e, fun hbarred => ?_, fun c hchosen hruns hheard => ?_⟩
    · rw [toIdle_of_barred (by rwa [hpaused, hlisten]), idled_agent]
      exact ⟨rfl, rfl, rfl⟩
    · rw [toIdle_of_chosen hroom (hpaused.trans hruns) (hlisten.trans hheard) hchosen, ← hband, ← idled_band]
      exact listenTold_flow (idled_hasRoom hroom)
  case refine_2 =>
    have hpassed : (e.agent.heldT c).isAhead = false := by
      have htimer : e.agent.heldT c = Timer.elapse n (.running n) := by simp [he, hrunning]
      rw [htimer]
      exact elapse_run_isAhead n
    have hexec : exec (.holdRunsOut c) s = .next (e.holdRunsOut c).finish := by
      show Host.Outcome.next (State.finish (s.onExpiry (s.agent.heldT c) _)) = _
      rw [hrunning, State.onExpiry_running, he]
    have hready : (e.released c).HasRoom 1 := ⟨hfits.loaded, hfits.clash, hfits.room⟩
    have hlistens : ∀ d, s.agent.dstate = .idle → e.chosen = some d → s.lc.paused = false → s.line.listenIn = false →
        e.holdRunsOut c = (e.released c).listenTold .flow d := fun d hidle hchosen hruns hheard =>
      holdRunsOut_of_chosen (hdstate.trans hidle) hpassed (hpaused.trans hruns) (hlisten.trans hheard) hfits hchosen
    obtain ⟨hstopped, hotherT⟩ := holdRunsOut_heldT c e
    refine ⟨e.holdRunsOut c, hexec, holdRunsOut_sameBut c e, hstopped, hotherT, fun hidle hwaiting => ?_,
      fun hidle hruns hheard hrequest hlow hgood hinhibit => ?_, fun hidle hbarred => ?_, fun d hidle hchosen hruns hheard => ?_,
      fun d hwaiting hsought => ⟨fun hsame => ?_, fun hother => ?_⟩⟩
    · rw [holdRunsOut_of_busy (hdstate ▸ hidle) (hdstate ▸ hwaiting)]
      exact ⟨setAgent_sameBut _ e, fun d _ => release_held hpassed d⟩
    · have hover : e.agent.overpressure = false := by simpa [he] using hlow
      have hfault : e.agent.headerFault = false := by simpa [he] using hgood
      have heligible : e.eligible c = true := by
        simpa [State.eligible, Agent.held, hrequest, hpassed, hover, hfault, ← imp_iff_not_or] using hinhibit
      obtain ⟨d, hchosen⟩ := chosen_of_eligible heligible
      rw [hlistens d hidle hchosen hruns hheard]
      exact listenTold_dstate d _
    · rw [holdRunsOut_of_idle (hdstate.trans hidle), idleCheck_of_barred]
      · exact (released_keeps c e).1.trans (hdstate.trans hidle)
      · rw [released_chosen hpassed]
        rwa [← hpaused, ← hlisten] at hbarred
    · obtain ⟨hstate, hclass, -, -, hsends⟩ := listenTold_flow (c := d) hready
      rw [hlistens d hidle hchosen hruns hheard, ← hband]
      exact ⟨hstate, hclass, hsends⟩
    · have hesought : e.agent.sought = some d := by simpa [he] using hsought
      obtain ⟨hstate, hclass⟩ := released_keeps c e
      rw [holdRunsOut_of_waiting (hdstate.trans hwaiting) hesought, if_pos ((bars_holdOf_iff c d).mpr hsame)]
      exact waitingDecided_reevaluate hready (hstate.trans (hdstate.trans hwaiting)) (hclass.trans hesought)
    · have hesought : e.agent.sought = some d := by simpa [he] using hsought
      rw [holdRunsOut_of_waiting (hdstate.trans hwaiting) hesought, if_neg (fun h => hother ((bars_holdOf_iff c d).mp h))]
      exact ⟨setAgent_sameBut _ e, (released_keeps c e).1.trans (hdstate.trans hwaiting)⟩
  case refine_3 =>
    have hview : e.agent.viewClass = s.agent.viewClass := by simp [he]
    rw [← hband, ← hband, ← hview]
    exact chosen_prefers hchosen heligible hother

end Sys2Proof.Machine
end
